-- ==== Sys2Proof/Word.lean ====
section
/-! DEFINITION. The plain words of the ZL-740 model: bytes on its serial lines and EEPROM pages,
lane time (R27), and text as character codes (R199). -/

set_option Elab.async false

namespace Sys2Proof

/-- A byte of a serial line or of the EEPROM. -/
abbrev Byte := BitVec 8

/-- Lane time in milliseconds, 32 bits, wrapping (R27). -/
abbrev LaneTime := BitVec 32

/-- Text is a sequence of character codes (R199). -/
abbrev Text := List Nat

end Sys2Proof
end

