-- ==== Sys2Proof/Syntax.lean ====
section
/-! DEFINITION. The commands of the ZL-740: one constructor of `Instr` for each row of
spec/opcode_table.json, with the row's operands as its rule gives them. Fields of host requests are
the raw numbers of the payload (R199), so that every value a rule refuses can be written. -/

namespace Sys2Proof

/-- Left and right as seen from the driver's seat (section 4.1). -/
inductive Side where
  | left
  | right
deriving DecidableEq, Repr

/-- The two stations (section 3). -/
inductive Station where
  | entry
  | brake
deriving DecidableEq, Repr

/-- The level of a lane line or of the rate strap (R37, R188). -/
inductive Level where
  | high
  | low
deriving DecidableEq, Repr

/-- The four pulse counters (R35). -/
inductive PulseInput where
  | driveL
  | driveR
  | senseL
  | senseR
deriving DecidableEq, Repr

/-- The printer's condition set carried by STATUS (R162). -/
structure PrinterCondition where
  paperOut : Bool
  coverOpen : Bool
  headHot : Bool
deriving DecidableEq, Repr

/-- One entry of SET_LINES as carried (R40, R199). -/
structure RawLine where
  line : Nat
  fn : Nat
  level : Nat
  debounce : Nat
deriving DecidableEq, Repr

/-- The fields of a loaded class as carried by LOAD_CLASS (R24). -/
structure RawClass where
  name : Text
  minServiceEff : Nat
  minParkingEff : Nat
  maxImbalance : Nat
  maxDrag : Nat
  maxSideSlip : Nat
  maxAxleWeight : Nat
  entryProgram : Nat
  brakeProgram : Nat
  printCurves : Nat
deriving DecidableEq, Repr

/-- A guidance step as carried by LOAD_PROGRAM, 13 bytes (R122, R199). -/
structure RawStep where
  prompt : Nat
  red : Nat
  amber : Nat
  green : Nat
  showKind : Nat
  waitKind : Nat
  threshold : Nat
  timeout : Nat
  nextAdvance : Nat
  nextTimeout : Nat
  request : Nat
deriving DecidableEq, Repr

/-- What LOAD_PROGRAM carries when it loads (R124). -/
structure RawProgram where
  first : Nat
  last : Nat
  entryStep : Nat
  steps : List RawStep
deriving DecidableEq, Repr

/-- A certificate header line as carried by CERT_QUEUE (R160). -/
structure RawHeader where
  style : Nat
  text : Text
deriving DecidableEq, Repr

/-- What CAL_WRITE carries after its target (R183). `none` is a payload of neither form. -/
inductive RawCal where
  | channel (zcal gain : Option Nat) (valid : Nat)
  | constants (dd ds plate testSpeed : Nat)
  | none
deriving DecidableEq, Repr

/-- The commands of the part, in the order of the opcode table. The rows of section 11.5 (host
requests) carry the request's tag first. -/
inductive Instr where
  /-- POWER_ON with the level of the rate strap (R25, R188). -/
  | powerOn (strap : Level)
  /-- RESET_LINE with the level of the rate strap (R25, R188). -/
  | resetLine (strap : Level)
  /-- AUTOLOAD_END; `nacks` are the pages whose read the EEPROM did not acknowledge (R179). -/
  | autoloadEnd (nacks : List Nat)
  | laneTimeTick
  | clockReferenceAdvance
  /-- CONVERSION with the sixteen converted values, channel 0 first (R30, R33). -/
  | conversion (values : List Nat)
  | pulseEdge (input : PulseInput)
  | windowEnd
  /-- LINE_SAMPLE; bit i is the level of lane line i, 1 for HIGH (R38). -/
  | lineSample (levels : BitVec 24)
  | entryBarrierActive
  | entryBarrierInactive
  | slipPlateSwitchActive
  | slipPlateSwitchInactive
  | exitBarrierBroken
  | exitBarrierClear
  | wheelActive (side : Side)
  | wheelInactive (side : Side)
  | driveReadyActive (side : Side)
  | driveReadyInactive (side : Side)
  | estopActive
  | estopInactive
  /-- AGE_EXPIRY of the record in a slot (R17). -/
  | ageExpiry (slot : Nat)
  | entryWindowEnd
  | settleExpiry
  | quietExpiry
  | brakeWindowEnd
  | presenceExpiry
  | spinUpExpiry
  | brakingExpiry
  | stopExpiry
  | clearExpiry
  | markParking
  | endAxle
  | guidanceSkipAxle
  | guidanceReleaseVehicle
  /-- PEDAL_BYTE: the byte, whether its stop bit was good, and the idle time before it in
  microseconds (R106). -/
  | pedalByte (byte : Byte) (stopOk : Bool) (idleUs : Nat)
  /-- PEDAL_FRAME: the 16 bytes of a complete unit frame (R107, R201). -/
  | pedalFrame (bytes : List Byte)
  | pedalSilenceExpiry
  | stepTimeout (station : Station)
  | showRefresh (station : Station)
  | promptTransmitBegin
  | promptTransmitEnd
  | printerByte (byte : Byte) (stopOk : Bool)
  | hello (window : Nat)
  | status (condition : PrinterCondition)
  | credit (n : Nat)
  | printerSilenceExpiry
  | printerTransmitBegin
  | printerTransmitEnd
  /-- EEPROM_WRITE_END: `ack` true for an acknowledge within 10 ms, false for NO_ACK (R182). -/
  | eepromWriteEnd (ack : Bool)
  | eepromAckTimeout
  | ctsChange (asserted : Bool)
  | hostByte (byte : Byte) (stopOk : Bool)
  /-- HOST_FRAME_RECEIVED: kind, tag and payload of a complete host frame (R190, R200). -/
  | hostFrameReceived (kind tag : Nat) (payload : List Byte)
  | requestTaken
  | hostTransmitBegin
  | hostTransmitEnd
  | getStatus (tag sect : Nat)
  | restart (tag : Nat)
  | setClock (tag year month day hour minute second : Nat)
  | setConfig (tag : Nat) (entries : List (Nat × Nat))
  | getConfig (tag : Nat)
  | setChannels (tag : Nat) (assignments : List (Nat × Nat))
  | setLines (tag : Nat) (entries : List RawLine)
  | loadClass (tag cls loaded : Nat) (fields : Option RawClass)
  | loadProgram (tag program unload : Nat) (content : Option RawProgram)
  | bookVehicle (tag : Nat) (id : Text) (cls : Nat) (expected : Option Nat) (parking : List Nat)
  | armVehicle (tag : Nat) (slot : Option Nat)
  | bindVehicle (tag slot : Nat) (id : Text) (cls : Option Nat)
  | discardVehicle (tag slot : Nat)
  | getVehicle (tag slot : Nat)
  | listLane (tag : Nat)
  | skipAxle (tag : Nat)
  | releaseVehicle (tag : Nat)
  | ackFault (tag : Nat)
  | setLive (tag station divider : Nat)
  | traceList (tag selection start : Nat)
  | traceRead (tag trace first count : Nat)
  | traceRelease (tag trace : Nat)
  | setPartitions (tag brakeSize entrySize : Nat)
  | certQueue (tag slot : Nat) (headers : List RawHeader)
  | certAbort (tag slot : Nat)
  | certList (tag : Nat)
  | calRead (tag target : Nat) (channel : Option Nat)
  | calWrite (tag target : Nat) (channel : Option Nat) (content : RawCal)
  | calZero (tag channel : Nat)
  | calSpan (tag channel reference : Nat)
  | setCounter (tag value : Nat)
deriving DecidableEq, Repr

end Sys2Proof
end

