-- ==== Sys2Proof/Decode.lean ====
section
/-! DEFINITION. Commands spelled by the opcode table's bits. The table of the ZL-740 gives no row any
bits (its commands are events and host frames; the frames' bytes are read in Machine/HostCodec.lean
by R199 and R200), so no word spells a command. -/

namespace Sys2Proof

/-- The command that a word of `nbits` bits spells by the table: none, as no row has bits. -/
def decodeTableWord (_nbits _w : Nat) : Option Instr := none

end Sys2Proof
end

