-- ==== Sys2Proof/Config.lean ====
section
/-! DEFINITION. What the spec leaves open and the model does not choose (free values, opaque), and
what the model chooses for want of a value in the spec (named in the assumption log). -/

namespace Sys2Proof.Config

/-- FREE VALUE (log entry 3). Whether the `n`-th EEPROM page write that ended without success or was cut by a reset
reached the EEPROM whole all the same (R180). No body: nothing can be proved about it. -/
opaque writeReached : (n : Nat) → Bool

/-- FREE VALUE (log entry 3). Whether such a write, when it did not reach the EEPROM whole, touched its page at all
(R182: "the page may be left torn"). No body. -/
opaque writeTouched : (n : Nat) → Bool

/-- FREE VALUE (log entry 3). Byte `i` of the page such a write leaves torn; of byte 31 only what keeps the page's check
from matching is used (R182: a torn page "is read as bad"). No body. -/
opaque tornByte : (n : Nat) → (i : Nat) → Byte

/-- DESIGN CHOICE (log entry 2). What a byte of the EEPROM that nothing has written reads as: the
erased value FFh, which R204 also writes after a record's fields. -/
def eepromBlank : Byte := 0xFF

/-- The EEPROM's size in bytes: 8 KiB (R177, R204). -/
def eepromSize : Nat := 8192

/-- DESIGN CHOICE (log entry 4). The level of CTS before the first CTS_CHANGE: asserted. -/
def ctsAtReset : Bool := true

/-- DESIGN CHOICE (log entry 5). The rate strap read by `State.reset`: the level LOW selects
115 200 bit/s (R188 gives the two rates and not which level selects which). -/
def fastAtReset : Bool := false

end Sys2Proof.Config
end

