-- ==== Sys2Proof/Machine/State.lean ====
section
/-! DEFINITION. The state of the ZL-740, block by block as section 2.1 gives them, the notices, replies
and frames it holds, its faults and refusals, and the state right after reset. All of it is plain data. -/

namespace Sys2Proof.Machine

/-! ## Names of the manual -/

/-- R1: the five states of a vehicle record. -/
inductive RecState where
  | free | booked | armed | inLane | complete
deriving DecidableEq, Repr

/-- R1. -/
inductive Origin where
  | booked | dynamic
deriving DecidableEq, Repr

/-- R2: why an axle was skipped. -/
inductive SkipCause where
  | guidance | host | notTested | missing
deriving DecidableEq, Repr

/-- R4: how a brake phase ended. -/
inductive EndCause where
  | slipStopL | slipStopR | release | timeout | guidanceEnd
deriving DecidableEq, Repr

/-- R62: the phase an axle receives. -/
inductive Phase where
  | service | parking
deriving DecidableEq, Repr

/-- R102: verdict of one item. -/
inductive Verdict where
  | pass | fail | notTested
deriving DecidableEq, Repr

/-- R102: overall verdict. -/
inductive Overall where
  | pass | fail | incomplete
deriving DecidableEq, Repr

/-- R31. -/
inductive ChannelFn where
  | unused | brakeL | brakeR | weighL | weighR | plate
deriving DecidableEq, Repr

/-- R37, in the order of its table, NONE last (R199). -/
inductive LineFn where
  | entryBarrier | slipPlateSwitch | exitBarrier | wheelL | wheelR | driveReadyL | driveReadyR | estop
  | runL | runR | entryRed | entryGreen | brakeRed | brakeAmber | brakeGreen | none
deriving DecidableEq, Repr

/-- R39: the state of a lamp function. -/
inductive Lamp where
  | off | on | flash
deriving DecidableEq, Repr

/-- R122, R136. -/
inductive ShowKind where
  | none | forceLR | pedal | axleWeight | sideSlip | axleNumber
deriving DecidableEq, Repr

/-- R128: the station events, entry row first (the numbering of R199). -/
inductive GEvent where
  | vehicleAtBarrier | axleOnSlip | axleOnScale | weightSettled | axleOffScale | entryFinished
  | entryBlocked | brakeFree
  | wheelsPresent | atSpeed | dragDone | slipStop | released | axleDone | wheelsLost | vehicleDone
  | stationFault
deriving DecidableEq, Repr

/-- R122: the wait condition of a step. -/
inductive Wait where
  | event (e : GEvent)
  | pedalAbove (n : Nat)
  | forceAbove (n : Nat)
  | speedAbove (n : Nat)
deriving DecidableEq, Repr

/-- R122, R134: the station request of a step. -/
inductive StationRequest where
  | none | markParking | endAxle | skipAxle | releaseVehicle
deriving DecidableEq, Repr

/-- R62. -/
inductive BrakeState where
  | idle | waitWheels | waitAxleRecord | zeroing | spinUp | drag | braking | stopping | axleDone
  | waitClear | fault
deriving DecidableEq, Repr

/-- R80: the causes of FAULT. -/
inductive BrakeCause where
  | estop | driveNotReady | sensorFault | noChannel | noCalibration | spinUpTimeout | rollerStopTimeout
deriving DecidableEq, Repr

/-- R45: the names of the entry station's state. -/
inductive EntryName where
  | idle | binding | blocked | onScale | settled | onSlipPlate | finishing | rolling
deriving DecidableEq, Repr

/-- R48: why no record was given. -/
inductive BlockCause where
  | laneFull | noRecord
deriving DecidableEq, Repr

/-- R78. -/
inductive AbortReason where
  | wheelsLost | skipped | released | fault
deriving DecidableEq, Repr

/-- R16. -/
inductive RemovalCause where
  | evicted | aged | discarded
deriving DecidableEq, Repr

/-- R23. -/
inductive LeaveCause where
  | exit | released
deriving DecidableEq, Repr

/-- R109. -/
inductive PedalState where
  | absent | unsync | tentative | sync
deriving DecidableEq, Repr

/-- R109: the causes of a change of the pedal link's state. -/
inductive PedalCause where
  | firstFrame | offsetTaken | locked | sequenceJump | outOfWindow | silence | filterChanged | restart
deriving DecidableEq, Repr

/-- R163. -/
inductive LinkState where
  | offline | ready | paused
deriving DecidableEq, Repr

/-- R158. -/
inductive JobState where
  | queued | numbering | printing | held
deriving DecidableEq, Repr

/-- R172. -/
inductive JobOutcome where
  | done | aborted | failed
deriving DecidableEq, Repr

/-- R172: the cause of an ending other than DONE. -/
inductive JobCause where
  | host | restart | store
deriving DecidableEq, Repr

/-- R158, R202. -/
inductive Style where
  | normal | bold | double
deriving DecidableEq, Repr

/-- R178. -/
inductive StoreState where
  | loading | absent | degraded | ready
deriving DecidableEq, Repr

/-- R177: the two counter copies. -/
inductive Copy where
  | a | b
deriving DecidableEq, Repr

/-- The record a store notice names (R179, R182). -/
inductive StoreRecord where
  | header | counter | constants | channel (n : Nat)
deriving DecidableEq, Repr

/-- The causes of STORE_FAULT (R179, R182, R185). -/
inductive StoreCause where
  | noAnswer | headerCrc | signature | format | crc | range | noAck | timeout | counter
deriving DecidableEq, Repr

/-- R191: the statuses of a reply, in order. -/
inductive Status where
  | ok | badLength | unknownKind | badField | notReady | busy | state | noSuch | duplicate | tableFull
  | noClass | stale | store | queueFull
deriving DecidableEq, Repr

/-! ## Lane Time Base (R27 to R29) -/

/-- R28: a date-time to the second. -/
structure DateTime where
  year : Nat
  month : Nat
  day : Nat
  hour : Nat
  minute : Nat
  second : Nat
deriving DecidableEq, Repr

/-- Lane time and the wall-clock reference. `refMs` counts milliseconds from 2000-01-01 00:00:00.000. -/
structure TimeBase where
  now : LaneTime
  refLane : LaneTime
  refMs : Nat
  clockSet : Bool
deriving DecidableEq, Repr

/-! ## Signal Acquisition (R30 to R44) -/

/-- One analogue channel: function, sensor state and runs (R33), the total of the running window and
the last completed window's sum with its sensor state (R30, R44). -/
structure Channel where
  fn : ChannelFn
  faulted : Bool
  railRun : Nat
  goodRun : Nat
  total : Nat
  lastSum : Nat
  lastFaulted : Bool
deriving DecidableEq, Repr

/-- One pulse counter (R35, R36): the prescaler setting, the prescaler in force in the running window, the
residue, the running total and the last window's total. -/
structure Pulse where
  prescale : Nat
  inForce : Nat
  residue : Nat
  total : Nat
  lastTotal : Nat
deriving DecidableEq, Repr

/-- One lane line (R37, R38): `change` is the start time of a pending change away from `debounced`. -/
structure Line where
  fn : LineFn
  level : Level
  debounce : Nat
  debounced : Bool
  change : Option LaneTime
deriving DecidableEq, Repr

/-- An edge event on its way to its owner (R38). -/
structure Edge where
  fn : LineFn
  active : Bool
  stamp : LaneTime
deriving DecidableEq, Repr

/-- A channel's sum as delivered to the owner of its function (R30, R34). -/
structure Reading where
  channel : Nat
  sum : Nat
  faulted : Bool
deriving DecidableEq, Repr

/-- The four counter totals of one window (R35). -/
structure PulseTotals where
  driveL : Nat
  driveR : Nat
  senseL : Nat
  senseR : Nat
deriving DecidableEq, Repr

/-- One window's results on their way to a station: the window end event (R30, R35). -/
structure Delivery where
  stamp : LaneTime
  brakeL : Option Reading
  brakeR : Option Reading
  weighL : Option Reading
  weighR : Option Reading
  plate : Option Reading
  totals : PulseTotals
deriving DecidableEq, Repr

/-- The states of the output functions, set by their owners (R39). -/
structure Outputs where
  runL : Bool
  runR : Bool
  entryRed : Lamp
  entryGreen : Lamp
  brakeRed : Lamp
  brakeAmber : Lamp
  brakeGreen : Lamp
deriving DecidableEq, Repr

/-- Signal Acquisition. `edges`, `entryInbox` and `brakeInbox` hold the events that have been made and
not yet been taken by their owners (log entry 6). -/
structure Signals where
  channels : List Channel
  convs : Nat
  lastEnd : Option LaneTime
  driveL : Pulse
  driveR : Pulse
  senseL : Pulse
  senseR : Pulse
  lines : List Line
  outputs : Outputs
  edges : List Edge
  entryInbox : List Delivery
  brakeInbox : List Delivery
deriving DecidableEq, Repr

/-! ## Vehicle Table (R1 to R26) -/

/-- R4. -/
structure AxleResult where
  maxL : Nat
  maxR : Nat
  dragL : Nat
  dragR : Nat
  imbalanceMax : Option Nat
  pedalAtMax : Option Nat
  endCause : EndCause
  completed : LaneTime
  zeroSubstituted : Bool
  overrange : Bool
  traceTruncated : Bool
  noTrace : Bool
  pedalPartial : Bool
  traceId : Option Nat
deriving DecidableEq, Repr

/-- R2. The number is the position in the list; `skip` is present exactly when the axle is skipped. -/
structure Axle where
  weightL : Option Nat
  weightR : Option Nat
  unsettled : Bool
  overrange : Bool
  addedAtRollers : Bool
  sideSlip : Option Int
  parking : Bool
  skip : Option SkipCause
  attempts : Nat
  service : Option AxleResult
  parkingResult : Option AxleResult
deriving DecidableEq, Repr

/-- R102: the item verdicts of one axle. -/
structure AxleVerdicts where
  imbalance : Verdict
  dragL : Verdict
  dragR : Verdict
  sideSlip : Verdict
  weight : Option Verdict
deriving DecidableEq, Repr

/-- R102: the verdict set. -/
structure VerdictSet where
  service : Verdict
  parking : Option Verdict
  axles : List AxleVerdicts
  overall : Overall
deriving DecidableEq, Repr

/-- R99. -/
structure Totals where
  mass : Nat
  massPartial : Bool
  serviceEff : Option Nat
  serviceBound : Bool
  parkingEff : Option Nat
  parkingBound : Bool
  verdicts : VerdictSet
deriving DecidableEq, Repr

/-- R1: a vehicle record. `job` says whether a certificate job of this slot is in the queue. -/
structure Record where
  id : Text
  origin : Origin
  state : RecState
  cls : Nat
  expected : Option Nat
  parkingSet : List Nat
  entryNumber : Option Nat
  entryDone : Bool
  axlesExceeded : Bool
  axlesMissing : Bool
  lastActivity : LaneTime
  job : Bool
  axles : List Axle
  totals : Option Totals
deriving DecidableEq, Repr

/-- R24: a loaded class table entry. -/
structure ClassEntry where
  name : Text
  minServiceEff : Nat
  minParkingEff : Nat
  maxImbalance : Nat
  maxDrag : Nat
  maxSideSlip : Nat
  maxAxleWeight : Nat
  entryProgram : Nat
  brakeProgram : Nat
  printCurves : Bool
deriving DecidableEq, Repr

/-- The Vehicle Table. The booked and dynamic counts are functions of the records (R6). -/
structure VehicleTable where
  records : List Record
  queue : List Nat
  armed : Option Nat
  exitClear : Bool
  entryCount : Nat
  dynMax : Nat
  ageLimit : Nat
  defaultClass : Nat
  classes : List (Option ClassEntry)
deriving DecidableEq, Repr

/-! ## Entry Station (R45 to R61) -/

/-- R47: an entry sample. -/
structure EntrySample where
  weightL : Option Nat
  weightR : Option Nat
  clampL : Bool
  clampR : Bool
  plate : Option Int
  time : LaneTime
deriving DecidableEq, Repr

/-- R45, R50: the plate tracker. -/
structure PlateTracker where
  crossing : Bool
  peak : Option Int
  count : Nat
  partialMark : Bool
  faultMark : Bool
deriving DecidableEq, Repr

/-- R45: EMPTY, WEIGHING or TAKEN. -/
inductive ScalePhase where
  | empty | weighing | taken
deriving DecidableEq, Repr

/-- R52: one entry of the last-20 list. -/
structure WeightSample where
  axle : Nat
  left : Option Nat
  right : Option Nat
deriving DecidableEq, Repr

/-- R45, R52: the scale tracker. `low…` hold the samples of the present trailing low run apart; `count` is
the number of samples that have joined the axle (log entry 12). -/
structure ScaleTracker where
  phase : ScalePhase
  onTime : LaneTime
  count : Nat
  sumL : Nat
  sumR : Nat
  cntL : Nat
  cntR : Nat
  lowSumL : Nat
  lowSumR : Nat
  lowCntL : Nat
  lowCntR : Nat
  last20 : List WeightSample
  low : Nat
  usableL : Bool
  usableR : Bool
  overrange : Bool
  late : Bool
  settle : Option LaneTime
  takenL : Option Nat
  takenR : Option Nat
  takenNumber : Option Nat
deriving DecidableEq, Repr

/-- The Entry Station. Its state name is a function of these fields (R45). `firstWindow` arms the late
mark (R48); `lastCrossing` is the latest completed crossing's value (R59). -/
structure EntryStation where
  vehicle : Option Nat
  blocked : Bool
  plate : PlateTracker
  scale : ScaleTracker
  crossings : List (Option Int)
  passed : Nat
  cleared : Bool
  quiet : Option LaneTime
  openTrace : Option Nat
  firstWindow : Bool
  lastCrossing : Option Int
  axleOn : Nat
  settleBand : Nat
deriving DecidableEq, Repr

/-! ## Brake Station (R62 to R88) -/

/-- R64: a brake sample with its clamp notes. -/
structure BrakeSample where
  forceL : Option Nat
  forceR : Option Nat
  clampL : Bool
  clampR : Bool
  slipL : Nat
  slipR : Nat
  speedL : Option Nat
  speedR : Option Nat
  pedal : Option Nat
  time : LaneTime
deriving DecidableEq, Repr

/-- R62, R72, R73: the running values of the phase in progress. -/
structure Running where
  maxL : Nat
  maxR : Nat
  maxLR : Nat
  dragSumL : Nat
  dragSumR : Nat
  dragL : Nat
  dragR : Nat
  imbalanceMax : Option Nat
  pedalAtMax : Option Nat
  pedalPartial : Bool
  overrange : Bool
  endCause : Option EndCause
deriving DecidableEq, Repr

/-- The Brake Station (R62). `history` is newest first. -/
structure BrakeStation where
  state : BrakeState
  vehicle : Option Nat
  axle : Option Nat
  phase : Phase
  zeroL : Nat
  zeroR : Nat
  subL : Bool
  subR : Bool
  zeroSumL : Nat
  zeroSumR : Nat
  zeroCount : Nat
  run : Running
  slipRunL : Nat
  slipRunR : Nat
  slipStartL : LaneTime
  slipStartR : LaneTime
  held : List BrakeSample
  releaseCount : Nat
  speedCount : Nat
  stopCount : Nat
  dragCount : Nat
  presence : Option LaneTime
  spinUp : Option LaneTime
  braking : Option LaneTime
  stop : Option LaneTime
  clear : Option LaneTime
  cause : Option BrakeCause
  openTrace : Option Nat
  history : List PulseTotals
  lastSample : Option BrakeSample
  slipLimit : Nat
  imbFloor : Nat
deriving DecidableEq, Repr

/-! ## Pedal Link (R106 to R121) -/

/-- One entry of the pedal sample ring (R117). -/
structure RingEntry where
  time : LaneTime
  force : Nat
deriving DecidableEq, Repr

/-- What the link holds of the unit it follows (R109). -/
structure Following where
  unit : BitVec 16
  seq : BitVec 8
  unitTime : BitVec 16
  extended : LaneTime
  battery : Nat
  silence : LaneTime
deriving DecidableEq, Repr

/-- The Pedal Link. `frame` is the frame in collection, `completed` a frame whose CRC matched and that
the link has not yet taken, with its arrival time (log entry 6). -/
structure PedalLink where
  framed : Bool
  frame : Option (List Byte)
  completed : List (List Byte × LaneTime)
  state : PedalState
  following : Option Following
  offset : Option LaneTime
  inWindow : Nat
  outRun : Nat
  lastError : Option Int
  ring : List RingEntry
  framingLosses : Nat
  crcErrors : Nat
  filtered : Nat
  foreign : Nat
  lost : Nat
  duplicates : Nat
  withheld : Nat
  dropped : Nat
  idMask : Nat
  idMatch : Nat
  latency : Nat
  window : Nat
deriving DecidableEq, Repr

/-! ## Guidance (R122 to R140) -/

/-- R122: a step. END is `none`. -/
structure Step where
  prompt : Nat
  red : Lamp
  amber : Lamp
  green : Lamp
  showKind : ShowKind
  wait : Wait
  timeout : Nat
  nextAdvance : Option Nat
  nextTimeout : Option Nat
  request : StationRequest
deriving DecidableEq, Repr

/-- R122: the range and entry step of a loaded program. -/
structure Program where
  first : Nat
  last : Nat
  entryStep : Nat
deriving DecidableEq, Repr

/-- R136: a SHOW frame. -/
structure ShowFrame where
  board : Nat
  prompt : Nat
  red : Lamp
  amber : Lamp
  green : Lamp
  showKind : ShowKind
  values : List (Option Int)
deriving DecidableEq, Repr

/-- R135: a board's pending slot; `sending` while its frame is in transmission. -/
structure PendingShow where
  frame : ShowFrame
  since : LaneTime
  sending : Bool
deriving DecidableEq, Repr

/-- R125: Guidance's state for one station. `step` none is END. -/
structure StationGuide where
  program : Nat
  step : Option Nat
  entryTime : LaneTime
  timeout : Option LaneTime
  flags : List GEvent
  slot : Option PendingShow
  refresh : LaneTime
deriving DecidableEq, Repr

/-- Guidance. `programs` are programs 2..7 and `steps` the steps 16..95; programs 0 and 1 and steps
0..15 are fixed (R123). `requests` are the station requests issued and not yet taken (R126, R134). -/
structure Guidance where
  programs : List (Option Program)
  steps : List (Option Step)
  entry : StationGuide
  brake : StationGuide
  requests : List StationRequest
  transmitting : Option ShowFrame
deriving DecidableEq, Repr

/-- What a station hands to Guidance within one of its events, in order (R126). -/
inductive GuideItem where
  | vehicle (station : Station) (slot : Option Nat)
  | event (e : GEvent)
  | brakeSample
deriving DecidableEq, Repr

/-! ## Trace Store (R141 to R157) -/

/-- An ordered list of block numbers as maximal runs (first block, count). -/
abbrev Runs := List (Nat × Nat)

/-- R143: the kind of a trace. -/
inductive TraceKind where
  | service | parking | entry
deriving DecidableEq, Repr

/-- R143: a stored sample; a brake sample's force keeps the clamp note of R91 (log entry 46). -/
inductive TraceSample where
  | brake (forceL forceR : Option Nat) (slipL slipR : Nat) (pedal : Option Nat) (clampL clampR : Bool)
  | entry (weightL weightR : Option Nat) (plate : Option Int)
deriving DecidableEq, Repr

/-- R143: a trace descriptor. The sample count is the length of `samples`. -/
structure Descriptor where
  id : Nat
  kind : TraceKind
  slot : Nat
  axle : Option Nat
  openTime : LaneTime
  firstTime : Option LaneTime
  closeTime : Option LaneTime
  samples : List TraceSample
  blocks : Runs
  closed : Bool
  truncated : Bool
  aborted : Bool
  pedalGaps : Nat
  excess : Nat
  hostHold : Bool
  printHold : Bool
deriving DecidableEq, Repr

/-- The Trace Store. -/
structure TraceStore where
  brakeSize : Nat
  entrySize : Nat
  brakeFree : Runs
  entryFree : Runs
  unassigned : Runs
  directory : List Descriptor
  nextId : Nat
  drain : List Nat
  hostHold : Bool
  drainLevel : Nat
deriving DecidableEq, Repr

/-! ## Certificate Unit (R158 to R176) -/

/-- R158: a header line. -/
structure HeaderLine where
  style : Style
  text : Text
deriving DecidableEq, Repr

/-- R158: a certificate job. `printedDate` is none until the number is fixed, `some none` when the clock
was unset then. `planPos` is the place in the plan of the pass and `strip` what is left of the curve strip
in hand (R168). -/
structure Job where
  slot : Nat
  headers : List HeaderLine
  cls : Nat
  className : Text
  curves : Bool
  state : JobState
  number : Option Nat
  printedDate : Option (Option DateTime)
  abortPending : Bool
  pass : Nat
  position : Nat
  started : Bool
  planPos : Nat
deriving DecidableEq, Repr

/-- R162, R202: a frame to the printer. A row is 48 bytes. -/
inductive PrinterFrame where
  | line (style : Style) (text : Text)
  | rows (rows : List (List Byte))
  | feed (lines : Nat)
  | cut
deriving DecidableEq, Repr

/-- R162: a frame from the printer. -/
inductive PrinterMsg where
  | hello (window : Nat)
  | status (condition : PrinterCondition)
  | credit (n : Nat)
deriving DecidableEq, Repr

/-- R165: whether a void is owed, and whether its LINE has been sent. -/
inductive VoidState where
  | none | owed | lineSent
deriving DecidableEq, Repr

/-- A serial frame in collection with the time of its last byte (R162, R189). -/
structure Collecting where
  bytes : List Byte
  last : LaneTime
deriving DecidableEq, Repr

/-- The Certificate Unit. `inbox` holds good frames not yet taken, with their arrival times (log entry 6). -/
structure CertUnit where
  queue : List Job
  strip : List PrinterFrame
  link : LinkState
  condition : Option PrinterCondition
  silence : Option LaneTime
  window : Nat
  outstanding : Nat
  void : VoidState
  badFrames : Nat
  creditExcess : Nat
  frame : Option Collecting
  inbox : List (PrinterMsg × LaneTime)
  transmitting : Option PrinterFrame
  resultAgeMax : Nat
deriving DecidableEq, Repr

/-! ## Calibration Store (R177 to R187) -/

/-- R177: lane constants. -/
structure LaneConstants where
  dd : Nat
  ds : Nat
  plate : Nat
  testSpeed : Nat
  valid : Bool
  stored : Bool
deriving DecidableEq, Repr

/-- R177: a channel record. -/
structure ChannelCal where
  zcal : Option Nat
  gain : Option Nat
  valid : Bool
  stored : Bool
deriving DecidableEq, Repr

/-- R177: a counter copy. The value while its stored mark is clear is the model's (DESIGN CHOICE, log entry 55). -/
structure CounterCopy where
  value : Nat
  stored : Bool
deriving DecidableEq, Repr

/-- R181: an entry of the write queue. -/
inductive WriteEntry where
  | header | commit | setCounter (value : Nat) | constants | channel (n : Nat)
deriving DecidableEq, Repr

/-- R182: the values of a record as written. -/
inductive StoredValues where
  | header
  | counter (value : Nat)
  | constants (dd ds plate testSpeed : Nat)
  | channel (zcal gain : Option Nat) (valid : Bool)
deriving DecidableEq, Repr

/-- The write in progress: its page, the values taken when it began (R181), and the lane time at which it began, from
which the 10 ms of R182 are counted (log entry 40). -/
structure PageWrite where
  page : Nat
  values : StoredValues
  began : LaneTime
deriving DecidableEq, Repr

/-- R184: what a collection works out. -/
inductive CollectionKind where
  | zero
  | span (reference : Nat)
deriving DecidableEq, Repr

/-- R184: the collection in progress; `places` are the queue places it holds. -/
structure Collection where
  channel : Nat
  kind : CollectionKind
  tag : Nat
  count : Nat
  total : Nat
  places : Nat
deriving DecidableEq, Repr

/-- The Calibration Store. -/
structure CalStore where
  state : StoreState
  headerStored : Bool
  copyA : CounterCopy
  copyB : CounterCopy
  counter : Nat
  available : Bool
  current : Copy
  constants : LaneConstants
  channels : List ChannelCal
  queue : List WriteEntry
  writing : Option PageWrite
  collection : Option Collection
deriving DecidableEq, Repr

/-! ## Notices, live frames and replies (chapter 11) -/

/-- The notices of section 11.5. -/
inductive Notice where
  | vehicleEntered (slot : Nat) (id : Text) (origin : Origin) (cls entry : Nat) (time : LaneTime)
  | axleMeasured (slot : Nat) (id : Text) (axle : Nat) (weightL weightR : Option Nat)
      (unsettled overrange added : Bool) (sideSlip : Option Int) (time : LaneTime)
  | axleTested (slot : Nat) (id : Text) (axle : Nat) (phase : Phase) (reason : Option AbortReason)
      (attempts : Nat) (result : Option AxleResult) (time : LaneTime)
  | vehicleComplete (slot : Nat) (id : Text) (cls axles : Nat) (overall : Overall) (cause : LeaveCause)
      (time : LaneTime)
  | vehicleRemoved (slot : Nat) (id : Text) (cause : RemovalCause)
  | entryState (state : EntryName) (slot : Option Nat) (cause : Option BlockCause) (time : LaneTime)
  | brakeState (state : BrakeState) (slot axle : Option Nat) (phase : Option Phase) (time : LaneTime)
  | traceReady (length oldest : Nat)
  | certDone (slot : Nat) (id : Text) (number : Option Nat) (outcome : JobOutcome)
      (cause : Option JobCause) (pass : Nat) (time : LaneTime)
  | printerState (state : LinkState) (condition : Option PrinterCondition) (window outstanding : Nat)
      (time : LaneTime)
  | pedalState (state : PedalState) (cause : PedalCause) (unit battery : Option Nat) (time : LaneTime)
  | calStored (record : StoreRecord) (values : StoredValues) (state : StoreState) (time : LaneTime)
  | storeFault (record : StoreRecord) (cause : StoreCause) (state : StoreState) (time : LaneTime)
  | sensorFault (channel : Nat) (fn : ChannelFn) (entered : Bool) (time : LaneTime)
  | brakeFault (cause : BrakeCause) (slot axle : Option Nat) (entered : Bool) (time : LaneTime)
deriving DecidableEq, Repr

/-- R60, R87: a live frame. -/
inductive LiveFrame where
  | entry (state : EntryName) (slot : Option Nat) (sample : EntrySample)
  | brake (state : BrakeState) (slot axle : Option Nat) (phase : Option Phase) (sample : BrakeSample)
deriving DecidableEq, Repr

/-- R42: what GET_STATUS reports of one channel. -/
structure ChannelReport where
  fn : ChannelFn
  faulted : Bool
  sum : Nat
  endTime : Option LaneTime
deriving DecidableEq, Repr

/-- R42: what GET_STATUS reports of one line; `on` is the debounced state of an input or whether an
output is lit, absent for NONE. -/
structure LineReport where
  fn : LineFn
  on : Option Bool
deriving DecidableEq, Repr

/-- R42. -/
structure SignalsReport where
  now : LaneTime
  clockSet : Bool
  date : Option DateTime
  channels : List ChannelReport
  counters : List (Nat × Nat)
  lines : List LineReport
deriving DecidableEq, Repr

/-- R60. -/
structure EntryReport where
  state : EntryName
  slot : Option Nat
  plate : PlateTracker
  scale : ScalePhase
  onTime : Option LaneTime
  samples : Nat
  crossings : List (Option Int)
  passed : Nat
  cleared : Bool
  quiet : Option LaneTime
  openTrace : Option Nat
deriving DecidableEq, Repr

/-- R87. The start sample of a slip run (R62) is named by its lane time (log entry 45). -/
structure BrakeReport where
  state : BrakeState
  slot : Option Nat
  axle : Option Nat
  phase : Phase
  zeroL : Nat
  zeroR : Nat
  subL : Bool
  subR : Bool
  run : Running
  slipRunL : Nat
  slipStartL : Option LaneTime
  slipRunR : Nat
  slipStartR : Option LaneTime
  held : Nat
  release : Nat
  speed : Nat
  stop : Nat
  drag : Nat
  expiries : List (Option LaneTime)
  cause : Option BrakeCause
  openTrace : Option Nat
  last : Option BrakeSample
  runL : Bool
  runR : Bool
deriving DecidableEq, Repr

/-- R120. -/
structure PedalReport where
  state : PedalState
  framed : Bool
  unit : Option Nat
  seq : Option Nat
  extended : Option LaneTime
  offset : Option LaneTime
  lastError : Option Int
  inWindow : Nat
  outRun : Nat
  battery : Option Nat
  silence : Option LaneTime
  entries : Nat
  oldest : Option LaneTime
  newest : Option LaneTime
  counts : List Nat
deriving DecidableEq, Repr

/-- R139: one station. -/
structure GuideReport where
  program : Nat
  step : Option Nat
  entryTime : LaneTime
  timeout : Option LaneTime
  flags : List GEvent
  pending : Bool
deriving DecidableEq, Repr

/-- R156: the open trace of a station. -/
structure OpenTraceReport where
  id : Nat
  samples : Nat
  truncated : Bool
deriving DecidableEq, Repr

/-- R156. -/
structure TracesReport where
  brakeSize : Nat
  brakeFree : Nat
  entrySize : Nat
  entryFree : Nat
  unassigned : Nat
  live : Nat
  recording : Nat
  nextId : Nat
  drain : Nat
  oldest : Option Nat
  entryOpen : Option OpenTraceReport
  brakeOpen : Option OpenTraceReport
deriving DecidableEq, Repr

/-- R174: one job. -/
structure JobReport where
  slot : Nat
  id : Text
  state : JobState
  number : Option Nat
  printedDate : Option (Option DateTime)
  pass : Nat
  position : Nat
  started : Bool
  abortPending : Bool
deriving DecidableEq, Repr

/-- R174: what CERT_LIST replies. -/
structure CertReport where
  jobs : List JobReport
  link : LinkState
  condition : Option PrinterCondition
  window : Nat
  outstanding : Nat
  voidOwed : Bool
deriving DecidableEq, Repr

/-- R178. -/
structure StoreReport where
  state : StoreState
  header : Bool
  copyA : Bool
  copyB : Bool
  constants : Bool
  channels : List Bool
  counter : Nat
  available : Bool
  current : Copy
  queue : List WriteEntry
  writing : Bool
  collection : Option Collection
deriving DecidableEq, Repr

/-- R195: the port summary. -/
structure PortSummary where
  buffered : Nat
  places : Nat
  refusals : Nat
  notices : Nat
  overflow : Bool
  lastNotice : Option Nat
  entryDivider : Nat
  brakeDivider : Nat
  live : Bool
  gapDiscards : Nat
  lengthDiscards : Nat
  framingDiscards : Nat
  crcDiscards : Nat
  unanswered : Nat
  fast : Bool
deriving DecidableEq, Repr

/-- R195: a section's report. -/
inductive Report where
  | signals (r : SignalsReport)
  | entry (r : EntryReport)
  | brake (r : BrakeReport)
  | pedal (r : PedalReport)
  | guidance (entry brake : GuideReport)
  | traces (r : TracesReport)
  | certificates (r : CertReport) (badFrames creditExcess : Nat)
  | store (r : StoreReport)
  | port
deriving DecidableEq, Repr

/-- R153: a descriptor summary; the block list is replaced by its length. -/
structure TraceSummary where
  id : Nat
  kind : TraceKind
  slot : Nat
  axle : Option Nat
  openTime : LaneTime
  firstTime : Option LaneTime
  closeTime : Option LaneTime
  samples : Nat
  blocks : Nat
  closed : Bool
  truncated : Bool
  aborted : Bool
  pedalGaps : Nat
  excess : Nat
  hostHold : Bool
  printHold : Bool
deriving DecidableEq, Repr

/-- R11: what LIST_LANE replies. -/
structure LaneReport where
  queue : List Nat
  armed : Option Nat
  booked : Nat
  dynamic : Nat
  dynMax : Nat
  entryCount : Nat
  blocked : Bool
deriving DecidableEq, Repr

/-- R196: what GET_CONFIG replies: every setting by identifier, the channel functions, the lines'
settings (function, level, debounce) and the program ranges. -/
structure ConfigReport where
  settings : List (Nat × Nat)
  channels : List ChannelFn
  lines : List (LineFn × Level × Nat)
  programs : List (Option Program)
deriving DecidableEq, Repr

/-- The fields of an OK reply, by request. -/
inductive ReplyBody where
  | none
  | slot (n : Nat)
  | place (n : Nat)
  | vehicle (record : Record) (displayed : Text)
  | lane (r : LaneReport)
  | config (r : ConfigReport)
  | traceList (summaries : List TraceSummary) (more : Bool)
  | traceRead (id first : Nat) (samples : List TraceSample)
  | certList (r : CertReport)
  | calHeader (stored : Bool)
  | calCounter (counter : Nat) (available : Bool) (current : Copy) (stored : Bool)
  | calConstants (c : LaneConstants)
  | calChannel (c : ChannelCal)
  | zero (zcal : Nat)
  | gain (g : Nat)
  | status (summary : PortSummary) (report : Report)
deriving DecidableEq, Repr

/-- A reply waiting to be sent (R191); `refusal` for one of the refusal list (R190). -/
structure Reply where
  kind : Nat
  tag : Nat
  status : Status
  body : ReplyBody
  refusal : Bool
deriving DecidableEq, Repr

/-! ## Host Port (R188 to R198) -/

/-- A complete host frame (R200). -/
structure HostFrame where
  kind : Nat
  tag : Nat
  payload : List Byte
deriving DecidableEq, Repr

/-- A frame in transmission to the host, as the bytes of R200. -/
structure HostTx where
  bytes : List Byte
deriving DecidableEq, Repr

/-- The Host Port. `completed` holds frames that are complete and have not yet reached the receive
buffer, `handed` the requests handed to their owners and not yet taken by them (log entry 6). `replies`
holds the reply queue and the refusal list together, in the order the replies were made. -/
structure HostPort where
  fast : Bool
  cts : Bool
  frame : Option Collecting
  gapDiscards : Nat
  lengthDiscards : Nat
  framingDiscards : Nat
  crcDiscards : Nat
  completed : List HostFrame
  buffer : List HostFrame
  handed : List Instr
  replies : List Reply
  unanswered : Nat
  notices : List (Nat × Notice)
  overflow : Bool
  lastNotice : Option Nat
  entryDivider : Nat
  brakeDivider : Nat
  entryLiveCount : Nat
  brakeLiveCount : Nat
  live : Option LiveFrame
  transmitting : Option HostTx
deriving DecidableEq, Repr

/-! ## The whole part -/

/-- The serial EEPROM's contents: (address, byte) pairs, addresses strictly rising, none equal to what an
unlisted address reads as. -/
abbrev Eeprom := List Host.Cell

/-- What the rest of the present event still owes (the model's own; empty between commands): results
handed to Guidance in order (R126), and whether the lane queue's head changed (R65), a waiting binding is
to be tried again (R12), or a waiting axle is to be matched again (R67). -/
structure Work where
  items : List GuideItem
  headMoved : Bool
  retry : Bool
  rematch : Bool
deriving DecidableEq, Repr

/-- The state of the ZL-740: the queue of waiting commands, then one field for each block.
`torn` counts the EEPROM writes that failed or were cut by a reset (log entry 3). -/
structure State where
  pending : List Instr
  time : TimeBase
  sig : Signals
  vt : VehicleTable
  entry : EntryStation
  brake : BrakeStation
  pedal : PedalLink
  guide : Guidance
  traces : TraceStore
  cert : CertUnit
  cal : CalStore
  port : HostPort
  eeprom : Eeprom
  torn : Nat
  work : Work
deriving DecidableEq, Repr

/-- Why a step stops with a fault. -/
inductive Fault where
  /-- Raised by EEPROM_WRITE_END and EEPROM_ACK_TIMEOUT when the write in progress names a page outside
  the EEPROM's 256 (R177): no state that a run from reset reaches holds one. Safe. -/
  | eepromAddress (page : Nat)
deriving DecidableEq, Repr

/-- Why a command has no meaning. -/
inductive Refusal where
  /-- Raised by `exec` for a command whose meaning is not written yet; no arm of `exec` does. Safe. -/
  | notModelled (mnemonic : String)
deriving DecidableEq, Repr

/-! ## The values after reset, block by block -/

/-- R28: the reference pair has no stated reset value: DESIGN CHOICE (log entry 7), 0 and 2000-01-01. -/
def TimeBase.reset : TimeBase := { now := 0, refLane := 0, refMs := 0, clockSet := false }

/-- R31, R33, R42. -/
def Channel.reset : Channel :=
  { fn := .unused, faulted := false, railRun := 0, goodRun := 0, total := 0, lastSum := 0,
    lastFaulted := false }

/-- R36. -/
def Pulse.reset : Pulse := { prescale := 1, inForce := 1, residue := 0, total := 0, lastTotal := 0 }

/-- R41. -/
def Line.reset : Line :=
  { fn := .none, level := .high, debounce := 20, debounced := false, change := none }

/-- R39: every output function OFF. -/
def Outputs.off : Outputs :=
  { runL := false, runR := false, entryRed := .off, entryGreen := .off, brakeRed := .off,
    brakeAmber := .off, brakeGreen := .off }

/-- R31, R33, R36, R39, R41. The lamps are those of steps 0 and 8, which Guidance enters (R140). -/
def Signals.reset : Signals :=
  { channels := List.replicate 16 Channel.reset, convs := 0, lastEnd := none
    driveL := Pulse.reset, driveR := Pulse.reset, senseL := Pulse.reset, senseR := Pulse.reset
    lines := List.replicate 24 Line.reset
    outputs := { Outputs.off with entryRed := .on, brakeAmber := .on }
    edges := [], entryInbox := [], brakeInbox := [] }

/-- A FREE record; its other fields have no meaning (R1). -/
def Record.free : Record :=
  { id := [], origin := .booked, state := .free, cls := 0, expected := none, parkingSet := [],
    entryNumber := none, entryDone := false, axlesExceeded := false, axlesMissing := false,
    lastActivity := 0, job := false, axles := [], totals := none }

/-- R25. -/
def VehicleTable.reset : VehicleTable :=
  { records := List.replicate 32 Record.free, queue := [], armed := none, exitClear := false,
    entryCount := 0, dynMax := 8, ageLimit := 0, defaultClass := 0,
    classes := List.replicate 8 none }

/-- R45: a FREE plate tracker. -/
def PlateTracker.free : PlateTracker :=
  { crossing := false, peak := none, count := 0, partialMark := false, faultMark := false }

/-- R45: an EMPTY scale tracker. -/
def ScaleTracker.empty : ScaleTracker :=
  { phase := .empty, onTime := 0, count := 0, sumL := 0, sumR := 0, cntL := 0, cntR := 0, lowSumL := 0,
    lowSumR := 0, lowCntL := 0, lowCntR := 0, last20 := [], low := 0, usableL := false,
    usableR := false, overrange := false, late := false, settle := none, takenL := none,
    takenR := none, takenNumber := none }

/-- R45, R46. -/
def EntryStation.reset : EntryStation :=
  { vehicle := none, blocked := false, plate := PlateTracker.free, scale := ScaleTracker.empty,
    crossings := [], passed := 0, cleared := false, quiet := none, openTrace := none,
    firstWindow := false, lastCrossing := none, axleOn := 200, settleBand := 20 }

/-- No running values. -/
def Running.none : Running :=
  { maxL := 0, maxR := 0, maxLR := 0, dragSumL := 0, dragSumR := 0, dragL := 0, dragR := 0,
    imbalanceMax := Option.none, pedalAtMax := Option.none, pedalPartial := false, overrange := false,
    endCause := Option.none }

/-- No pulses counted. -/
def PulseTotals.zero : PulseTotals := { driveL := 0, driveR := 0, senseL := 0, senseR := 0 }

/-- R62, R63, R95. Phase, phase zero and slip starts have no stated value: DESIGN CHOICE (log entry 7). -/
def BrakeStation.reset : BrakeStation :=
  { state := .idle, vehicle := none, axle := none, phase := .service, zeroL := 0, zeroR := 0,
    subL := false, subR := false, zeroSumL := 0, zeroSumR := 0, zeroCount := 0, run := Running.none,
    slipRunL := 0, slipRunR := 0, slipStartL := 0, slipStartR := 0, held := [], releaseCount := 0,
    speedCount := 0, stopCount := 0, dragCount := 0, presence := none, spinUp := none,
    braking := none, stop := none, clear := none, cause := none, openTrace := none,
    history := List.replicate 10 PulseTotals.zero, lastSample := none, slipLimit := 250,
    imbFloor := 200 }

/-- R121. -/
def PedalLink.reset : PedalLink :=
  { framed := false, frame := none, completed := [], state := .absent, following := none,
    offset := none, inWindow := 0, outRun := 0, lastError := none, ring := [], framingLosses := 0,
    crcErrors := 0, filtered := 0, foreign := 0, lost := 0, duplicates := 0, withheld := 0,
    dropped := 0, idMask := 0, idMatch := 0, latency := 12, window := 15 }

/-- R140: program 0 at step 0, entered at lane time 0 as R127 gives, with its first SHOW frame. -/
def StationGuide.entryReset : StationGuide :=
  { program := 0, step := some 0, entryTime := 0, timeout := some 100, flags := []
    slot := some { frame := { board := 1, prompt := 2, red := .on, amber := .off, green := .off,
                              showKind := .none, values := [] }, since := 0, sending := false }
    refresh := 1000 }

/-- R140: program 1 at step 8. -/
def StationGuide.brakeReset : StationGuide :=
  { program := 1, step := some 8, entryTime := 0, timeout := some 100, flags := []
    slot := some { frame := { board := 2, prompt := 9, red := .off, amber := .on, green := .off,
                              showKind := .axleNumber, values := [none] }, since := 0, sending := false }
    refresh := 200 }

/-- R140. No frame is in transmission on the prompt line, of which R140 says nothing (DESIGN CHOICE, log entry 7). -/
def Guidance.reset : Guidance :=
  { programs := List.replicate 6 none, steps := List.replicate 80 none,
    entry := StationGuide.entryReset, brake := StationGuide.brakeReset, requests := [],
    transmitting := none }

/-- R141, R157. -/
def TraceStore.reset : TraceStore :=
  { brakeSize := 24576, entrySize := 8192, brakeFree := [(0, 24576)], entryFree := [(24576, 8192)],
    unassigned := [], directory := [], nextId := 1, drain := [], hostHold := true, drainLevel := 8 }

/-- R175. The printer's receiver is hunting with no frame in collection, and no frame is in transmission, of which R175
says nothing (DESIGN CHOICE, log entry 7). -/
def CertUnit.reset : CertUnit :=
  { queue := [], strip := [], link := .offline, condition := none, silence := none, window := 0,
    outstanding := 0, void := .none, badFrames := 0, creditExcess := 0, frame := none, inbox := [],
    transmitting := none, resultAgeMax := 60 }

/-- R177: the lane constants while they are not valid. -/
def LaneConstants.invalid : LaneConstants :=
  { dd := 1000, ds := 1000, plate := 1000, testSpeed := 700, valid := false, stored := false }

/-- R177, R179: an uncalibrated channel. -/
def ChannelCal.bad : ChannelCal := { zcal := none, gain := none, valid := false, stored := false }

/-- R187; it gives no current copy for the time of LOADING: B (DESIGN CHOICE, log entry 7), and no value of the two counter
copies: 0 (DESIGN CHOICE, log entry 55). -/
def CalStore.reset : CalStore :=
  { state := .loading, headerStored := false, copyA := { value := 0, stored := false },
    copyB := { value := 0, stored := false }, counter := 0, available := false, current := .b,
    constants := LaneConstants.invalid, channels := List.replicate 16 ChannelCal.bad, queue := [],
    writing := none, collection := none }

/-- R198. -/
def HostPort.reset : HostPort :=
  { fast := Config.fastAtReset, cts := Config.ctsAtReset, frame := none, gapDiscards := 0,
    lengthDiscards := 0, framingDiscards := 0, crcDiscards := 0, completed := [], buffer := [],
    handed := [], replies := [], unanswered := 0, notices := [], overflow := false,
    lastNotice := none, entryDivider := 0, brakeDivider := 0, entryLiveCount := 0,
    brakeLiveCount := 0, live := none, transmitting := none }

/-- Nothing owed. -/
def Work.none : Work := { items := [], headMoved := false, retry := false, rematch := false }

/-- The machine right after reset: no command waiting, every block as its chapter gives, the store
LOADING (R25, R27, R28, R41, R45, R62, R121, R140, R157, R175, R187, R198), an EEPROM nothing has written. -/
def State.reset : State :=
  { pending := [], time := TimeBase.reset, sig := Signals.reset, vt := VehicleTable.reset,
    entry := EntryStation.reset, brake := BrakeStation.reset, pedal := PedalLink.reset,
    guide := Guidance.reset, traces := TraceStore.reset, cert := CertUnit.reset,
    cal := CalStore.reset, port := HostPort.reset, eeprom := [], torn := 0, work := Work.none }

end Sys2Proof.Machine
end

