-- ==== Sys2Proof/Machine/Arith.lean ====
section
/-! DEFINITION. Integer arithmetic of chapter 5: rounding (R89), force, weight, displacement, slip, speed,
imbalance, drag, side-slip, efficiency and span gain (R91 to R101). It holds no state (R105). -/

namespace Sys2Proof.Machine

/-- R89: the integer quotient, moved one up unless twice the remainder is below the divisor. -/
def roundDiv (n d : Nat) : Nat := if 2 * (n % d) < d then n / d else n / d + 1

/-- R89 on a signed dividend: halves away from zero. -/
def roundDivInt (z : Int) (d : Nat) : Int :=
  if z < 0 then - (roundDiv z.natAbs d : Int) else (roundDiv z.natAbs d : Int)

/-- A value brought into 0..top by the nearer limit (section 4.3). -/
def clampNat (top : Nat) (z : Int) : Nat := min top z.toNat

/-- A value brought into −m..+m by the nearer limit (section 4.3). -/
def clampSym (m : Nat) (z : Int) : Int := max (-(m : Int)) (min (m : Int) z)

/-- The form shared by R91 and R92: round((S − Z) × G / 4096), not clamped. -/
def scaled (sum z0 gain : Nat) : Int := roundDivInt (((sum : Int) - (z0 : Int)) * (gain : Int)) 4096

/-- R91: the wheel force in daN. -/
def wheelForce (sum z0 gain : Nat) : Nat := clampNat 6000 (scaled sum z0 gain)

/-- R91: whether the force was clamped at 6000. -/
def forceClamped (sum z0 gain : Nat) : Bool := decide (6000 < scaled sum z0 gain)

/-- R92: the wheel weight in kg. -/
def wheelWeight (sum z0 gain : Nat) : Nat := clampNat 10000 (scaled sum z0 gain)

/-- R92: whether the weight was clamped at 10 000. -/
def weightClamped (sum z0 gain : Nat) : Bool := decide (10000 < scaled sum z0 gain)

/-- R92: the plate displacement in 0.01 mm, signed, with no clamp. -/
def displacement (sum z0 gain : Nat) : Int := scaled sum z0 gain

/-- R93: wheel slip; `braking` picks the value for a roller that did not turn. -/
def wheelSlip (braking : Bool) (cd cs dd ds : Nat) : Nat :=
  if cd * dd = 0 then (if braking then 1000 else 0)
  else clampNat 1000 (roundDivInt (1000 * ((cd * dd : Nat) - (cs * ds : Nat) : Int)) (cd * dd))

/-- R64: drive surface speed in mm/s. -/
def driveSpeed (cd dd : Nat) : Nat := roundDiv (cd * dd) 100

/-- R71: whether a speed lies within ±10 % of TEST_SPEED. -/
def inBand (testSpeed speed : Nat) : Bool :=
  decide (((speed : Int) - (testSpeed : Int)).natAbs * 10 ≤ testSpeed)

/-- R94: the imbalance of a sample, absent below the floor. -/
def imbalance (floor l r : Nat) : Option Nat :=
  if floor ≤ max l r then
    some (min 1000 (roundDiv (1000 * ((l : Int) - (r : Int)).natAbs) (max l r)))
  else none

/-- The larger of a running maximum that may be absent and a value that may be absent (R94). -/
def raise : Option Nat → Option Nat → Option Nat
  | none, v => v
  | some m, none => some m
  | some m, some v => some (max m v)

/-- R96: drag over 200 samples. -/
def dragOf (sum : Nat) : Nat := roundDiv sum 200

/-- R98: side-slip in 0.1 m/km from the peak and the plate length. -/
def sideSlipOf (peak : Int) (plate : Nat) : Int := clampSym 999 (roundDivInt (peak * 100) plate)

/-- R99: efficiency in 0.1 %. -/
def efficiency (force mass : Nat) : Nat := min 2000 (roundDiv (force * 1000000) (mass * 981))

/-- R101: the span gain, absent when the mean is less than 100 above the zero or the gain is out of range. -/
def spanGain (reference total zcal : Nat) : Option Nat :=
  if (total : Int) - 64 * (zcal : Int) < 6400 then none
  else
    let g := roundDiv (reference * 4096 * 64) (total - 64 * zcal)
    if 1 ≤ g && g ≤ 65535 then some g else none

/-- R69: the mean of 16 zeroing sums. -/
def zeroMean (sum : Nat) : Nat := roundDiv sum 16

/-- R69: whether a measured zero is too far from the stored one. -/
def zeroFar (z zcal : Nat) : Bool := decide (400 < ((z : Int) - (zcal : Int)).natAbs)

/-- A count that stops at `top`. -/
def bump (top n : Nat) : Nat := min top (n + 1)

/-- A count raised by `k` that stops at `top`. -/
def bumpBy (top n k : Nat) : Nat := min top (n + k)

end Sys2Proof.Machine
end

