-- ==== Sys2Proof/Machine/Calendar.lean ====
section
/-! DEFINITION. The Gregorian calendar of R28 and the conversion of R29, on milliseconds counted from
2000-01-01 00:00:00.000. -/

namespace Sys2Proof.Machine

def leapYear (y : Nat) : Bool := (y % 4 == 0) && ((y % 100 != 0) || (y % 400 == 0))

def yearDays (y : Nat) : Nat := if leapYear y then 366 else 365

/-- R28: the lengths of the months, January first. -/
def monthLengths (y : Nat) : List Nat :=
  [31, if leapYear y then 29 else 28, 31, 30, 31, 30, 31, 31, 30, 31, 30, 31]

/-- R28: the number of days of month 1..12; 0 for any other number. -/
def monthDays (y m : Nat) : Nat := if m = 0 then 0 else (monthLengths y).getD (m - 1) 0

/-- R28: the fields a SET_CLOCK may carry. -/
def dateOk (y mo d h mi s : Nat) : Bool :=
  decide (2000 ≤ y) && decide (y ≤ 2099) && decide (1 ≤ mo) && decide (mo ≤ 12) && decide (1 ≤ d)
    && decide (d ≤ monthDays y mo) && decide (h ≤ 23) && decide (mi ≤ 59) && decide (s ≤ 59)

/-- Milliseconds from 2000-01-01 to a date-time of 2000..2099. -/
def msOfDate (y mo d h mi s : Nat) : Nat :=
  let days := ((List.range (y - 2000)).map (fun k => yearDays (2000 + k))).sum
    + ((monthLengths y).take (mo - 1)).sum + (d - 1)
  (((days * 24 + h) * 60 + mi) * 60 + s) * 1000

/-- The last millisecond of 2099 (R29). -/
def lastMs : Nat := 36525 * 86400000 - 1

/-- Split a day number counted from 1 January of `y` into year and day of year. -/
def splitYear : (fuel : Nat) → (y day : Nat) → Nat × Nat
  | 0, y, day => (y, day)
  | f + 1, y, day => if day < yearDays y then (y, day) else splitYear f (y + 1) (day - yearDays y)

/-- Split a day of the year into month and day of month, over the lengths of the months left. -/
def splitMonth : (lengths : List Nat) → (m day : Nat) → Nat × Nat
  | [], m, day => (m, day + 1)
  | l :: ls, m, day => if day < l then (m, day + 1) else splitMonth ls (m + 1) (day - l)

/-- R29: the second in which an instant falls. Instants reach back to 1999 and forward into 2100. -/
def dateOfMs (ms : Int) : DateTime :=
  let sec := (ms + 365 * 86400000).toNat / 1000
  let (y, doy) := splitYear 110 1999 (sec / 86400)
  let (mo, d) := splitMonth (monthLengths y) 1 doy
  { year := y, month := mo, day := d, hour := sec / 3600 % 24, minute := sec / 60 % 60,
    second := sec % 60 }

/-- R29: a lane time as a date-time; none while clock set is clear. -/
def convertTime (b : TimeBase) (t : LaneTime) : Option DateTime :=
  if b.clockSet then some (dateOfMs ((b.refMs : Int) + (t - b.refLane).toInt)) else none

end Sys2Proof.Machine
end

