-- ==== Sys2Proof/Machine/Operands.lean ====
section
/-! DEFINITION. The operands of requests: the numbering of enumerations (R199), and the reading of raw
numbers as the values of the manual. A number that spells no value reads as none. -/

namespace Sys2Proof.Machine

/-! ## Enumerations in the order of the table that defines them (R199) -/

def recStates : List RecState := [.free, .booked, .armed, .inLane, .complete]
def origins : List Origin := [.booked, .dynamic]
def skipCauses : List SkipCause := [.guidance, .host, .notTested, .missing]
def endCauses : List EndCause := [.slipStopL, .slipStopR, .release, .timeout, .guidanceEnd]
def phases : List Phase := [.service, .parking]
def verdicts : List Verdict := [.pass, .fail, .notTested]
def overalls : List Overall := [.pass, .fail, .incomplete]
def channelFns : List ChannelFn := [.unused, .brakeL, .brakeR, .weighL, .weighR, .plate]
def lineFns : List LineFn :=
  [.entryBarrier, .slipPlateSwitch, .exitBarrier, .wheelL, .wheelR, .driveReadyL, .driveReadyR, .estop,
   .runL, .runR, .entryRed, .entryGreen, .brakeRed, .brakeAmber, .brakeGreen, .none]
def levels : List Level := [.high, .low]
def lamps : List Lamp := [.off, .on, .flash]
def showKinds : List ShowKind := [.none, .forceLR, .pedal, .axleWeight, .sideSlip, .axleNumber]
def gEvents : List GEvent :=
  [.vehicleAtBarrier, .axleOnSlip, .axleOnScale, .weightSettled, .axleOffScale, .entryFinished,
   .entryBlocked, .brakeFree, .wheelsPresent, .atSpeed, .dragDone, .slipStop, .released, .axleDone,
   .wheelsLost, .vehicleDone, .stationFault]
def stationRequests : List StationRequest := [.none, .markParking, .endAxle, .skipAxle, .releaseVehicle]
def brakeStates : List BrakeState :=
  [.idle, .waitWheels, .waitAxleRecord, .zeroing, .spinUp, .drag, .braking, .stopping, .axleDone,
   .waitClear, .fault]
def brakeCauses : List BrakeCause :=
  [.estop, .driveNotReady, .sensorFault, .noChannel, .noCalibration, .spinUpTimeout, .rollerStopTimeout]
def entryNames : List EntryName :=
  [.idle, .binding, .blocked, .onScale, .settled, .onSlipPlate, .finishing, .rolling]
def blockCauses : List BlockCause := [.laneFull, .noRecord]
def abortReasons : List AbortReason := [.wheelsLost, .skipped, .released, .fault]
def removalCauses : List RemovalCause := [.evicted, .aged, .discarded]
def leaveCauses : List LeaveCause := [.exit, .released]
def pedalStates : List PedalState := [.absent, .unsync, .tentative, .sync]
def pedalCauses : List PedalCause :=
  [.firstFrame, .offsetTaken, .locked, .sequenceJump, .outOfWindow, .silence, .filterChanged, .restart]
def linkStates : List LinkState := [.offline, .ready, .paused]
def jobStates : List JobState := [.queued, .numbering, .printing, .held]
def jobOutcomes : List JobOutcome := [.done, .aborted, .failed]
def jobCauses : List JobCause := [.host, .restart, .store]
def styles : List Style := [.normal, .bold, .double]
def storeStates : List StoreState := [.loading, .absent, .degraded, .ready]
def copies : List Copy := [.a, .b]
/-- R179, R182, R185: the causes of STORE_FAULT in the order of the rules; no one list numbers them (DESIGN CHOICE, log
entry 15). -/
def storeCauses : List StoreCause :=
  [.noAnswer, .headerCrc, .signature, .format, .crc, .range, .noAck, .timeout, .counter]
def statuses : List Status :=
  [.ok, .badLength, .unknownKind, .badField, .notReady, .busy, .state, .noSuch, .duplicate, .tableFull,
   .noClass, .stale, .store, .queueFull]
def traceKinds : List TraceKind := [.service, .parking, .entry]
def scalePhases : List ScalePhase := [.empty, .weighing, .taken]
def stations : List Station := [.entry, .brake]

/-- R199: an enumeration's number, from 0 in the order of its list. -/
def codeIn {α : Type} [DecidableEq α] (order : List α) (x : α) : Nat := order.idxOf x

/-- The value an enumeration's number spells. -/
def ofCode {α : Type} (order : List α) (n : Nat) : Option α := order[n]?

/-! ## Fields of requests -/

/-- Every element of a list read, or none if one spells no value. -/
def readAll {α β : Type} (f : α → Option β) : List α → Option (List β)
  | [] => some []
  | a :: as =>
    match f a, readAll f as with
    | some b, some bs => some (b :: bs)
    | _, _ => none

/-- No element occurs twice. -/
def distinct : List Nat → Bool
  | [] => true
  | a :: as => !as.contains a && distinct as

/-- R1, R24, R160: characters of code 32..126. -/
def printable (t : Text) : Bool := t.all (fun c => decide (32 ≤ c) && decide (c ≤ 126))

/-- R8, R10: an id a request may give: 1..16 printable characters. -/
def idOk (t : Text) : Bool := decide (1 ≤ t.length) && decide (t.length ≤ 16) && printable t

/-- R1: a set of axle numbers, held in increasing order. -/
def axleSet (l : List Nat) : List Nat := (List.range' 1 12).filter (fun n => l.contains n)

/-- R24: the fields of a loaded class, or none if one is out of its range. R24 and R199 give print_curves as bit 0 of its
byte and say nothing of the other bits; a byte above 1 is refused (DESIGN CHOICE, log entry 43). -/
def classOf (c : RawClass) : Option ClassEntry :=
  if decide (c.name.length ≤ 12) && printable c.name && decide (c.minServiceEff ≤ 2000)
      && decide (c.minParkingEff ≤ 2000) && decide (c.maxImbalance ≤ 1000) && decide (c.maxDrag ≤ 6000)
      && decide (c.maxSideSlip ≤ 999) && decide (c.maxAxleWeight ≤ 20000) && decide (c.entryProgram ≤ 7)
      && decide (c.brakeProgram ≤ 7) && decide (c.printCurves ≤ 1) then
    some { name := c.name, minServiceEff := c.minServiceEff, minParkingEff := c.minParkingEff,
           maxImbalance := c.maxImbalance, maxDrag := c.maxDrag, maxSideSlip := c.maxSideSlip,
           maxAxleWeight := c.maxAxleWeight, entryProgram := c.entryProgram,
           brakeProgram := c.brakeProgram, printCurves := c.printCurves == 1 }
  else none

/-- R199: the wait kind with its threshold; an event name carries the threshold 0. -/
def waitOf (kind n : Nat) : Option Wait :=
  match gEvents[kind]? with
  | some e => if n = 0 then some (.event e) else none
  | none =>
    if n ≤ 65535 then
      if kind = 17 then some (.pedalAbove n)
      else if kind = 18 then some (.forceAbove n)
      else if kind = 19 then some (.speedAbove n)
      else none
    else none

/-- R199, R122, R124: a successor of a step of first..last: END (FFh) reads as `some none`. -/
def successorOf (first last n : Nat) : Option (Option Nat) :=
  if n = 255 then some none
  else if first ≤ n && n ≤ last then some (some n)
  else none

/-- R122, R124: a step of a program's range first..last, or none if a field is out of its range. -/
def stepOf (first last : Nat) (r : RawStep) : Option Step :=
  match ofCode lamps r.red, ofCode lamps r.amber, ofCode lamps r.green, ofCode showKinds r.showKind,
      waitOf r.waitKind r.threshold, successorOf first last r.nextAdvance,
      successorOf first last r.nextTimeout, ofCode stationRequests r.request with
  | some red, some amber, some green, some sk, some w, some na, some nt, some rq =>
    if r.prompt ≤ 255 && r.timeout ≤ 600 then
      some { prompt := r.prompt, red := red, amber := amber, green := green, showKind := sk, wait := w,
             timeout := r.timeout, nextAdvance := na, nextTimeout := nt, request := rq }
    else none
  | _, _, _, _, _, _, _, _ => none

/-- R160: a header line, or none if its style or text is not one a certificate may carry. -/
def headerOf (h : RawHeader) : Option HeaderLine :=
  match ofCode styles h.style with
  | some st =>
    if decide (h.text.length ≤ 48) && printable h.text then some { style := st, text := h.text } else none
  | none => none

/-- R37: the direction of a function: true for an input. -/
def LineFn.isInput : LineFn → Bool
  | .entryBarrier | .slipPlateSwitch | .exitBarrier | .wheelL | .wheelR | .driveReadyL | .driveReadyR
  | .estop => true
  | .runL | .runR | .entryRed | .entryGreen | .brakeRed | .brakeAmber | .brakeGreen | .none => false

/-- R40: a line's new setting, or none if a field is out of its range. The debounce time is checked for an
input function only, as it is not used for the others (R199). -/
def lineOf (e : RawLine) : Option (Nat × LineFn × Level × Nat) :=
  match ofCode lineFns e.fn, ofCode levels e.level with
  | some f, some l =>
    if decide (e.line ≤ 23) && (!f.isInput || decide (e.debounce ≤ 250)) then
      some (e.line, f, l, e.debounce)
    else none
  | _, _ => none

/-- R32: an assignment of a function to a channel. -/
def assignmentOf (a : Nat × Nat) : Option (Nat × ChannelFn) :=
  match ofCode channelFns a.2 with
  | some f => if a.1 ≤ 15 then some (a.1, f) else none
  | none => none

/-- R184, R101: the range of a channel number. -/
def channelOk (c : Nat) : Bool := decide (c ≤ 15)

/-- R177: the range of a stored zero, absent allowed. -/
def zcalOk : Option Nat → Bool
  | none => true
  | some z => decide (1 ≤ z) && decide (z ≤ 16379)

/-- R177: the range of a gain, absent allowed. -/
def gainOk : Option Nat → Bool
  | none => true
  | some g => decide (1 ≤ g) && decide (g ≤ 65535)

/-- R177, R179, R183: a channel record's fields: a set valid flag needs both Zcal and G. A flag byte above 1 is out of range:
R204 says so of a page, and of CAL_WRITE's byte, of which R183 and R199 give bit 0 only, it is a DESIGN CHOICE (log
entry 43). -/
def channelCalOk (z g : Option Nat) (valid : Nat) : Bool :=
  zcalOk z && gainOk g && decide (valid ≤ 1) && (valid != 1 || (z.isSome && g.isSome))

/-- R177: the ranges of the lane constants. -/
def constantsOk (dd ds plate speed : Nat) : Bool :=
  decide (1 ≤ dd) && decide (dd ≤ 65535) && decide (1 ≤ ds) && decide (ds ≤ 65535)
    && decide (200 ≤ plate) && decide (plate ≤ 2000) && decide (100 ≤ speed) && decide (speed ≤ 5000)

/-- R196: the range of each setting by its identifier (R6, R36, R46, R63, R95, R119, R152, R159). -/
def settingOk (ident v : Nat) : Bool :=
  match ident with
  | 1 => decide (v ≤ 32)
  | 2 => decide (v ≤ 1440)
  | 3 => decide (v ≤ 7)
  | 4 | 5 | 6 | 7 => [1, 2, 4, 8, 16, 32, 64, 128].contains v
  | 8 => decide (50 ≤ v) && decide (v ≤ 5000)
  | 9 => decide (1 ≤ v) && decide (v ≤ 1000)
  | 10 => decide (1 ≤ v) && decide (v ≤ 1000)
  | 11 => decide (1 ≤ v) && decide (v ≤ 6000)
  | 12 | 13 => decide (v ≤ 65535)
  | 14 => decide (v ≤ 100)
  | 15 => decide (1 ≤ v) && decide (v ≤ 50)
  | 16 => decide (v ≤ 1)
  | 17 => decide (1 ≤ v) && decide (v ≤ 128)
  | 18 => decide (v ≤ 1440)
  | _ => false

end Sys2Proof.Machine
end

