-- ==== Sys2Proof/Machine/Flags.lean ====
section
/-! DEFINITION. Flags and sets as bits (R199): the flag fields and set fields of one record, in the order
of its table, take the bits of one field from bit 0. -/

namespace Sys2Proof.Machine

/-- The number whose bit i is the i-th flag. -/
def bitsOf : List Bool → Nat
  | [] => 0
  | b :: bs => (if b then 1 else 0) + 2 * bitsOf bs

/-- R4: the flags of an axle result. -/
def resultFlags (r : AxleResult) : Nat :=
  bitsOf [r.zeroSubstituted, r.overrange, r.traceTruncated, r.noTrace, r.pedalPartial]

/-- R2: the flags and sets of an axle entry: the weigh flags, parking, skipped. -/
def axleFlags (a : Axle) : Nat :=
  bitsOf [a.unsettled, a.overrange, a.addedAtRollers, a.parking, a.skip.isSome]

/-- R1: the flags and sets of a record: parking_set, entry_done, notes. -/
def recordFlags (r : Record) : Nat :=
  bitsOf ((List.range' 1 12).map (fun n => r.parkingSet.contains n)
    ++ [r.entryDone, r.axlesExceeded, r.axlesMissing])

/-- R99: the flags of the totals. -/
def totalsFlags (t : Totals) : Nat := bitsOf [t.massPartial, t.serviceBound, t.parkingBound]

/-- R143: the flags and holds of a descriptor; PEDAL_GAPS is set once its count is above 0 (R147). -/
def traceFlags (t : TraceSummary) : Nat :=
  bitsOf [t.truncated, t.aborted, decide (0 < t.pedalGaps), t.hostHold, t.printHold]

/-- R202: the printer's condition. -/
def conditionBits (c : PrinterCondition) : Nat := bitsOf [c.paperOut, c.coverOpen, c.headHot]

/-- R202: the condition a STATUS byte carries; none with a bit above bit 2 set. -/
def conditionOf (b : Nat) : Option PrinterCondition :=
  if b < 8 then
    some { paperOut := b % 2 == 1, coverOpen := b / 2 % 2 == 1, headHot := b / 4 % 2 == 1 }
  else none

/-- R163: the condition is the empty set. -/
def PrinterCondition.isEmpty (c : PrinterCondition) : Bool := !c.paperOut && !c.coverOpen && !c.headHot

/-- R128: the event names of a station, in the order of the table. -/
def stationEventNames : Station → List GEvent
  | .entry => gEvents.take 8
  | .brake => gEvents.drop 8

/-- R125, R128: a set of event flags with one more, in the order of the table. -/
def addEvent (l : List GEvent) (e : GEvent) : List GEvent :=
  gEvents.filter (fun x => l.contains x || x == e)

end Sys2Proof.Machine
end

