-- ==== Sys2Proof/Machine/Memory.lean ====
section
/-! DEFINITION. The EEPROM as an addressed memory (R177, R204), the two cyclic checks (R200, R201), and
ordered block lists held as runs (R141). -/

namespace Sys2Proof.Machine

/-! ## EEPROM bytes -/

/-- One byte of the EEPROM: an unlisted address reads as `Config.eepromBlank`. -/
def Eeprom.read : Eeprom → Nat → Byte
  | [], _ => Config.eepromBlank
  | (b, v) :: m, a => if b = a then v else Eeprom.read m a

/-- Insert a byte that differs from the blank one, in address order. -/
def Eeprom.put : Eeprom → Nat → Byte → Eeprom
  | [], a, v => [(a, v)]
  | (b, w) :: m, a, v =>
    if a < b then (a, v) :: (b, w) :: m
    else if a = b then (a, v) :: m
    else (b, w) :: Eeprom.put m a v

/-- Remove an address from the list. -/
def Eeprom.drop : Eeprom → Nat → Eeprom
  | [], _ => []
  | (b, w) :: m, a => if a = b then m else (b, w) :: Eeprom.drop m a

/-- Write one byte, keeping the canonical form. -/
def Eeprom.write (m : Eeprom) (a : Nat) (v : Byte) : Eeprom :=
  if v = Config.eepromBlank then m.drop a else m.put a v

/-- Write bytes from address `a` on. -/
def Eeprom.writeList : Eeprom → Nat → List Byte → Eeprom
  | m, _, [] => m
  | m, a, v :: vs => Eeprom.writeList (m.write a v) (a + 1) vs

/-- Addresses strictly rising from `lo`, all inside the EEPROM, no entry equal to the blank byte. -/
def Eeprom.wfFrom : Nat → Eeprom → Bool
  | _, [] => true
  | lo, (a, v) :: m =>
    decide (lo ≤ a) && decide (a < Config.eepromSize) && decide (v ≠ Config.eepromBlank)
      && Eeprom.wfFrom (a + 1) m

/-- The canonical form. -/
def Eeprom.wf (m : Eeprom) : Bool := Eeprom.wfFrom 0 m

/-- The 32 bytes of a page (R204). -/
def Eeprom.page (m : Eeprom) (p : Nat) : List Byte := (List.range 32).map (fun i => m.read (32 * p + i))

/-- Write a page of 32 bytes; none for a page the EEPROM does not have (R177). -/
def Eeprom.writePage (m : Eeprom) (p : Nat) (bytes : List Byte) : Option Eeprom :=
  if p < 256 then some (m.writeList (32 * p) (bytes.take 32)) else none

/-! ## Cyclic redundancy checks -/

/-- One bit of a CRC-8 with polynomial 07h, most significant bit first (R201). -/
def crc8Shift (c : BitVec 8) : BitVec 8 := if c.msb then (c <<< 1) ^^^ 0x07 else c <<< 1

/-- R201: the CRC-8 from a running value over bytes. -/
def crc8From (c : BitVec 8) (bytes : List Byte) : BitVec 8 :=
  bytes.foldl (fun c b => crc8Shift (crc8Shift (crc8Shift (crc8Shift (crc8Shift (crc8Shift (crc8Shift
    (crc8Shift (c ^^^ b))))))))) c

/-- R201: CRC-8, initial value 00h, no final inversion. -/
def crc8 (bytes : List Byte) : BitVec 8 := crc8From 0 bytes

/-- R182: the page the `n`-th write that did not succeed leaves torn: free bytes whose check does not match, so that the
page is read as bad (log entry 3). -/
def tornPage (n : Nat) : List Byte :=
  let b := (List.range 31).map (Config.tornByte n)
  b ++ [crc8 b ^^^ (if Config.tornByte n 31 = 0 then 1 else Config.tornByte n 31)]

/-- One bit of a CRC-16 with polynomial 1021h, most significant bit first (R200). -/
def crc16Shift (c : BitVec 16) : BitVec 16 := if c.msb then (c <<< 1) ^^^ 0x1021 else c <<< 1

/-- R200: CRC-16, initial value FFFFh, no final inversion. -/
def crc16 (bytes : List Byte) : BitVec 16 :=
  bytes.foldl (fun c b => crc16Shift (crc16Shift (crc16Shift (crc16Shift (crc16Shift (crc16Shift
    (crc16Shift (crc16Shift (c ^^^ ((BitVec.setWidth 16 b) <<< (8 : Nat))))))))))) 0xFFFF

/-! ## Ordered block lists as runs -/

/-- The block numbers of a list of runs, in order. -/
def Runs.blocks (r : Runs) : List Nat := r.flatMap (fun p => List.range' p.1 p.2)

/-- How many blocks the list holds. -/
def Runs.count : Runs → Nat
  | [] => 0
  | (_, n) :: r => n + Runs.count r

/-- Take the block at the head (R141). -/
def Runs.pop : Runs → Option (Nat × Runs)
  | [] => none
  | (_, 0) :: r => Runs.pop r
  | (a, 1) :: r => some (a, r)
  | (a, n + 2) :: r => some (a, (a + 1, n + 1) :: r)

/-- Add a run at the tail, joined to the last run where it continues it. -/
def Runs.snoc : Runs → Nat × Nat → Runs
  | r, (_, 0) => r
  | [], p => [p]
  | [(a, n)], (b, k + 1) => if a + n = b then [(a, n + (k + 1))] else [(a, n), (b, k + 1)]
  | q :: q' :: r, p => q :: Runs.snoc (q' :: r) p

/-- Add the blocks of a list at the tail, in their order (R141). -/
def Runs.append (r more : Runs) : Runs := more.foldl Runs.snoc r

/-- Put a run into an ascending list of runs, joined to its neighbours: the unassigned pool (R142). -/
def Runs.insert : Runs → Nat × Nat → Runs
  | r, (_, 0) => r
  | [], p => [p]
  | (b, m) :: r, (a, n + 1) =>
    if a + (n + 1) < b then (a, n + 1) :: (b, m) :: r
    else if a + (n + 1) = b then (a, n + 1 + m) :: r
    else if b + m = a then Runs.insert r (b, m + (n + 1))
    else (b, m) :: Runs.insert r (a, n + 1)

/-- Put every block of a list into an ascending list of runs. -/
def Runs.merge (r more : Runs) : Runs := more.foldl Runs.insert r

/-- The first `k` blocks of a list, and the rest (R142: the lowest of the pool). -/
def Runs.takeFirst : Runs → Nat → Runs × Runs
  | [], _ => ([], [])
  | (a, n) :: r, k =>
    if k = 0 then ([], (a, n) :: r)
    else if k < n then ([(a, k)], (a + k, n - k) :: r)
    else
      let (t, rest) := Runs.takeFirst r (k - n)
      ((a, n) :: t, rest)

end Sys2Proof.Machine
end

