-- ==== Sys2Proof/Machine/Ops.lean ====
section
/-! DEFINITION. The named operations every block uses: one update for each block of the state, reading the
clock, the lines and the records, sending a notice, making a reply, handing a result to Guidance. -/

namespace Sys2Proof.Machine

/-- The outcome of a command. -/
abbrev Out := Host.Outcome State Fault Refusal

/-! ## One update for each block -/

def State.onTime (s : State) (f : TimeBase → TimeBase) : State := { s with time := f s.time }
def State.onSig (s : State) (f : Signals → Signals) : State := { s with sig := f s.sig }
def State.onVt (s : State) (f : VehicleTable → VehicleTable) : State := { s with vt := f s.vt }
def State.onEntry (s : State) (f : EntryStation → EntryStation) : State := { s with entry := f s.entry }
def State.onBrake (s : State) (f : BrakeStation → BrakeStation) : State := { s with brake := f s.brake }
def State.onPedal (s : State) (f : PedalLink → PedalLink) : State := { s with pedal := f s.pedal }
def State.onGuide (s : State) (f : Guidance → Guidance) : State := { s with guide := f s.guide }
def State.onTraces (s : State) (f : TraceStore → TraceStore) : State := { s with traces := f s.traces }
def State.onCert (s : State) (f : CertUnit → CertUnit) : State := { s with cert := f s.cert }
def State.onCal (s : State) (f : CalStore → CalStore) : State := { s with cal := f s.cal }
def State.onPort (s : State) (f : HostPort → HostPort) : State := { s with port := f s.port }
def State.onWork (s : State) (f : Work → Work) : State := { s with work := f s.work }
def State.setEeprom (s : State) (m : Eeprom) : State := { s with eeprom := m }
def State.setTorn (s : State) (n : Nat) : State := { s with torn := n }

/-! ## Lane time (R27, section 4.3) -/

/-- The present lane time. -/
def State.now (s : State) : LaneTime := s.time.now

/-- The duration from `t` to the present, modulo 2^32. -/
def State.since (s : State) (t : LaneTime) : Nat := (s.now - t).toNat

/-- An expiry exists and lane time has reached it, by the difference modulo 2^32 read as signed. -/
def State.due (s : State) : Option LaneTime → Bool
  | none => false
  | some t => !(s.now - t).msb

/-- A lane time `ms` milliseconds after `t`. -/
def later (t : LaneTime) (ms : Nat) : LaneTime := t + BitVec.ofNat 32 ms

/-! ## Lists held as tables -/

/-- Entry `i` of a table changed. -/
def tableMod {α : Type} (l : List α) (i : Nat) (f : α → α) : List α := l.modify i f

/-! ## Notices and replies (R191, R192) -/

/-- The number the next notice takes: 0 first, wrapping from 65 535 to 0 (R192, R198). -/
def nextNotice (p : HostPort) : Nat :=
  match p.lastNotice with
  | none => 0
  | some n => (n + 1) % 65536

/-- R192: a notice takes the next number and joins the queue, or is dropped when it holds 32. -/
def sendNotice (n : Notice) (s : State) : State :=
  s.onPort fun p =>
    { p with lastNotice := some (nextNotice p),
             notices := if p.notices.length < 32 then p.notices ++ [(nextNotice p, n)] else p.notices,
             overflow := p.overflow || decide (32 ≤ p.notices.length) }

/-- R191: a reply is made and takes its held place. -/
def postReply (kind tag : Nat) (st : Status) (body : ReplyBody) (s : State) : State :=
  s.onPort fun p =>
    { p with replies := p.replies
               ++ [{ kind := kind, tag := tag, status := st, body := body, refusal := false }] }

/-- The replies of the reply queue. -/
def queuedReplies (p : HostPort) : Nat := p.replies.countP (fun r => !r.refusal)

/-- The replies of the refusal list. -/
def refusalCount (p : HostPort) : Nat := p.replies.countP (fun r => r.refusal)

/-- R191: the places of the reply queue that are held: replies made and not begun, requests handed to
their owners, and the withheld reply of a collection. -/
def placesHeld (s : State) : Nat :=
  queuedReplies s.port + s.port.handed.length + (if s.cal.collection.isSome then 1 else 0)

/-! ## Work the present event still owes (R126) -/

/-- Hand a result to Guidance, behind those already handed (R126). -/
def hand (i : GuideItem) (s : State) : State := s.onWork fun w => { w with items := w.items ++ [i] }

/-- Raise a station event to Guidance. -/
def raiseEvent (e : GEvent) (s : State) : State := hand (.event e) s

/-- The head of the lane queue changed: the brake station is to be told (R65). -/
def noteHead (s : State) : State := s.onWork fun w => { w with headMoved := true }

/-- A waiting binding is to be tried again (R12). -/
def noteRetry (s : State) : State := s.onWork fun w => { w with retry := true }

/-- An axle was appended, or entry_done set: a waiting axle is to be matched again (R67). -/
def noteRematch (s : State) : State := s.onWork fun w => { w with rematch := true }

/-! ## Channels, lines and counters -/

/-- The channel that holds a function, if one does (R31). -/
def channelWith (f : ChannelFn) (s : State) : Option Nat := s.sig.channels.findIdx? (fun c => c.fn == f)

/-- The line that holds a function, if one does (R37). -/
def lineWith (f : LineFn) (s : State) : Option Nat := s.sig.lines.findIdx? (fun l => l.fn == f)

/-- R37, R38: an input function read by level; held by no line it reads inactive. -/
def inputActive (f : LineFn) (s : State) : Bool := s.sig.lines.any (fun l => l.fn == f && l.debounced)

/-- The wheel input of a side. -/
def wheelFn : Side → LineFn
  | .left => .wheelL
  | .right => .wheelR

/-- The drive-ready input of a side. -/
def readyFn : Side → LineFn
  | .left => .driveReadyL
  | .right => .driveReadyR

def Side.other : Side → Side
  | .left => .right
  | .right => .left

/-- Both wheel inputs read active. -/
def wheelsOn (s : State) : Bool := inputActive .wheelL s && inputActive .wheelR s

/-- Both wheel inputs read inactive. -/
def wheelsOff (s : State) : Bool := !inputActive .wheelL s && !inputActive .wheelR s

/-- Both drive-ready inputs read active. -/
def drivesReady (s : State) : Bool := inputActive .driveReadyL s && inputActive .driveReadyR s

/-- R39, R70: both RUN functions set together. -/
def setRun (on : Bool) (s : State) : State :=
  s.onSig fun g => { g with outputs := { g.outputs with runL := on, runR := on } }

/-- R177: the stored zero and gain of a channel with a valid calibration. -/
def calibration (s : State) (ch : Nat) : Option (Nat × Nat) :=
  match s.cal.channels[ch]? with
  | some c =>
    if c.valid then
      match c.zcal, c.gain with
      | some z, some g => some (z, g)
      | _, _ => none
    else none
  | none => none

/-! ## Vehicle records (R1, R5, R15) -/

/-- The record of a slot. -/
def State.record (s : State) (slot : Nat) : Record := s.vt.records.getD slot Record.free

/-- A record changed, without activity. -/
def modRec (slot : Nat) (f : Record → Record) (s : State) : State :=
  s.onVt fun v => { v with records := tableMod v.records slot f }

/-- R15: a write that renews last_activity. -/
def writeRec (slot : Nat) (f : Record → Record) (s : State) : State :=
  modRec slot (fun r => { f r with lastActivity := s.now }) s

/-- R15: a write by a station to axle entry `n` (1..12) of a record. -/
def writeAxle (slot n : Nat) (f : Axle → Axle) (s : State) : State :=
  writeRec slot (fun r => { r with axles := tableMod r.axles (n - 1) f }) s

/-- Axle entry `n` of a record's list. -/
def Record.axle (r : Record) (n : Nat) : Option Axle := if n = 0 then none else r.axles[n - 1]?

/-- The decimal digits of a number below 10 000, with leading zeros. -/
def fourDigits (n : Nat) : Text :=
  [48 + n / 1000 % 10, 48 + n / 100 % 10, 48 + n / 10 % 10, 48 + n % 10]

/-- R1: the displayed id: the id, or T and the entry number as four digits. -/
def displayedId (r : Record) : Text :=
  if r.id.isEmpty then 84 :: fourDigits (r.entryNumber.getD 0) else r.id

/-- R6: the booked count. -/
def bookedCount (s : State) : Nat :=
  s.vt.records.countP (fun r => r.state != .free && r.origin == .booked)

/-- R6: the dynamic count. -/
def dynamicCount (s : State) : Nat :=
  s.vt.records.countP (fun r => r.state != .free && r.origin == .dynamic)

/-- The lowest-numbered FREE slot. -/
def freeSlot (s : State) : Option Nat := s.vt.records.findIdx? (fun r => r.state == .free)

/-- R67: an axle is finished when it has a service result and, if its parking flag is set, a parking
result. -/
def Axle.finished (a : Axle) : Bool := a.service.isSome && (!a.parking || a.parkingResult.isSome)

/-- R20: the test condition. -/
def testDone (r : Record) : Bool := r.axles.all (fun a => a.finished || a.skip.isSome)

/-- R67: the number of the lowest axle that is neither finished nor skipped. -/
def nextAxle (r : Record) : Option Nat :=
  (r.axles.findIdx? (fun a => !(a.finished || a.skip.isSome))).map (· + 1)

/-- R2, R3: an appended axle entry. -/
def Axle.fresh (parking : Bool) : Axle :=
  { weightL := none, weightR := none, unsettled := false, overrange := false, addedAtRollers := false,
    sideSlip := none, parking := parking, skip := none, attempts := 0, service := none,
    parkingResult := none }

/-- R3: the entry a record's list would take next. -/
def Record.nextEntry (r : Record) : Axle := Axle.fresh (r.parkingSet.contains (r.axles.length + 1))

/-! ## Station states (R45) -/

/-- R45: the name of the entry station's state. BINDING lasts only within one event (R48). -/
def entryName (e : EntryStation) : EntryName :=
  if e.blocked then .blocked
  else
    match e.vehicle with
    | none => .idle
    | some _ =>
      match e.scale.phase with
      | .weighing => .onScale
      | .taken => .settled
      | .empty =>
        if e.plate.crossing then .onSlipPlate
        else if e.cleared then .finishing
        else .rolling

/-- A station is IDLE. -/
def stationIdle (st : Station) (s : State) : Bool :=
  match st with
  | .entry => entryName s.entry == .idle
  | .brake => s.brake.state == .idle

/-- R30: the station that owns a channel function. -/
def ownerOf : ChannelFn → Option Station
  | .unused => none
  | .brakeL | .brakeR => some .brake
  | .weighL | .weighR | .plate => some .entry

/-- The brake station is within an attempt (R78). -/
def BrakeState.attempt : BrakeState → Bool
  | .zeroing | .spinUp | .drag | .braking | .stopping => true
  | .idle | .waitWheels | .waitAxleRecord | .axleDone | .waitClear | .fault => false

/-- R84: the axle in hand. -/
def axleInHand (s : State) : Option Nat :=
  match s.brake.axle with
  | some n => some n
  | none =>
    if s.brake.state == .waitWheels then
      match s.vt.queue.head? with
      | some h => nextAxle (s.record h)
      | none => none
    else none

/-- The sum of the present ones of two weights, absent when both are (R86, R59). -/
def presentSum : Option Nat → Option Nat → Option Nat
  | none, none => none
  | some a, none => some a
  | none, some b => some b
  | some a, some b => some (a + b)

/-- A sum that needs both (R86). -/
def bothSum : Option Nat → Option Nat → Option Nat
  | some a, some b => some (a + b)
  | _, _ => none

end Sys2Proof.Machine
end

