-- ==== Sys2Proof/Machine/Traces.lean ====
section
/-! DEFINITION. The Trace Store (chapter 8): opening, recording, closing, holds, freeing and the drain
queue, and the answers to TRACE_LIST, TRACE_READ, TRACE_RELEASE and SET_PARTITIONS. -/

namespace Sys2Proof.Machine

/-! ## Partitions -/

/-- R141: whether traces of a kind draw on the BRAKE partition. -/
def TraceKind.brakePart : TraceKind → Bool
  | .service | .parking => true
  | .entry => false

/-- R143: samples to a block. -/
def TraceKind.perBlock : TraceKind → Nat
  | .service | .parking => 25
  | .entry => 42

/-- The free list a kind draws on. -/
def TraceStore.free (t : TraceStore) (k : TraceKind) : Runs := if k.brakePart then t.brakeFree else t.entryFree

/-- The free list a kind draws on, replaced. -/
def TraceStore.setFree (t : TraceStore) (k : TraceKind) (r : Runs) : TraceStore :=
  if k.brakePart then { t with brakeFree := r } else { t with entryFree := r }

/-! ## The directory -/

/-- The live descriptor of a trace id. -/
def TraceStore.find (t : TraceStore) (id : Nat) : Option Descriptor := t.directory.find? (fun d => d.id == id)

/-- The live descriptor of a trace id changed. -/
def TraceStore.modify (t : TraceStore) (id : Nat) (f : Descriptor → Descriptor) : TraceStore :=
  { t with directory := t.directory.map (fun d => if d.id == id then f d else d) }

/-- R144: the id after an id, wrapping from 65 535 to 1. -/
def nextTraceId (n : Nat) : Nat := if n ≥ 65535 then 1 else n + 1

/-- R144: the first id from `n` on that no live descriptor holds, within `fuel` tries. -/
def allocId : (fuel : Nat) → (used : List Nat) → (n : Nat) → Nat
  | 0, _, n => n
  | f + 1, used, n => if used.contains n then allocId f used (nextTraceId n) else n

/-- R145: the descriptor of a trace just opened. -/
def Descriptor.opened (id : Nat) (k : TraceKind) (slot : Nat) (axle : Option Nat) (t : LaneTime)
    (hold : Bool) : Descriptor :=
  { id := id, kind := k, slot := slot, axle := axle, openTime := t, firstTime := none, closeTime := none,
    samples := [], blocks := [], closed := false, truncated := false, aborted := false, pedalGaps := 0,
    excess := 0, hostHold := hold, printHold := false }

/-- R145: open a trace; no id when the directory holds 128 descriptors. -/
def openTrace (k : TraceKind) (slot : Nat) (axle : Option Nat) (s : State) : Option Nat × State :=
  if s.traces.directory.length < 128 then
    let id := allocId 129 (s.traces.directory.map Descriptor.id) s.traces.nextId
    (some id, s.onTraces fun t =>
      { t with directory := t.directory ++ [Descriptor.opened id k slot axle s.now t.hostHold],
               nextId := nextTraceId id })
  else (none, s)

/-! ## Recording (R146, R147) -/

/-- The last block of a trace is full, or it has none yet. -/
def Descriptor.needsBlock (d : Descriptor) : Bool := d.samples.length % d.kind.perBlock == 0

/-- R146: a sample stored in the last block. -/
def Descriptor.store (d : Descriptor) (x : TraceSample) (t : LaneTime) : Descriptor :=
  { d with samples := d.samples ++ [x],
           firstTime := if d.samples.isEmpty then some t else d.firstTime }

/-- R146: append a sample taken at window end `t` to a trace that is recording. -/
def TraceStore.append (ts : TraceStore) (id : Nat) (x : TraceSample) (t : LaneTime) : TraceStore :=
  match ts.find id with
  | none => ts
  | some d =>
    if d.closed || d.truncated then ts
    else if d.needsBlock then
      match Runs.pop (ts.free d.kind) with
      | none => ts.modify id (fun d => { d with truncated := true })
      | some (b, rest) =>
        (ts.setFree d.kind rest).modify id
          (fun d => Descriptor.store { d with blocks := Runs.snoc d.blocks (b, 1) } x t)
    else ts.modify id (fun d => d.store x t)

/-- Append a sample to a station's open trace, if it has one. -/
def appendSample (trace : Option Nat) (x : TraceSample) (t : LaneTime) (s : State) : State :=
  match trace with
  | none => s
  | some id => s.onTraces fun ts => ts.append id x t

/-- R147: lost pedal frames added to a recording trace. -/
def addPedalGap (trace : Option Nat) (gap : Nat) (s : State) : State :=
  match trace with
  | none => s
  | some id => s.onTraces fun ts => ts.modify id (fun d =>
      if d.closed then d else { d with pedalGaps := bumpBy 65535 d.pedalGaps gap })

/-- R147: an axle refused at the 12-axle limit counted in a recording trace. -/
def addExcess (trace : Option Nat) (s : State) : State :=
  match trace with
  | none => s
  | some id => s.onTraces fun ts => ts.modify id (fun d =>
      if d.closed then d else { d with excess := bump 255 d.excess })

/-! ## Holds and freeing (R148 to R151) -/

/-- R150: a descriptor that is to be freed. -/
def Descriptor.unheld (d : Descriptor) : Bool := d.closed && !d.hostHold && !d.printHold

/-- R150: a descriptor's blocks back at the tail of its partition's free list. -/
def giveBack (t : TraceStore) (d : Descriptor) : TraceStore :=
  t.setFree d.kind (Runs.append (t.free d.kind) d.blocks)

/-- R150: every closed descriptor without a hold is freed, in the order of the directory. -/
def TraceStore.sweep (t : TraceStore) : TraceStore :=
  let t' := (t.directory.filter Descriptor.unheld).foldl giveBack t
  { t' with directory := t.directory.filter (fun d => !d.unheld) }

/-- R151: a closed trace joins the drain queue; TRACE_READY when the length rises to DRAIN_LEVEL. -/
def joinDrain (id : Nat) (s : State) : State :=
  let s := s.onTraces fun t => { t with drain := t.drain ++ [id] }
  if s.traces.drain.length == s.traces.drainLevel then
    sendNotice (.traceReady s.traces.drain.length (s.traces.drain.headD id)) s
  else s

/-- R148: close a trace; answers whether it carries TRUNCATED. -/
def closeTrace (id : Nat) (accepted : Bool) (s : State) : Bool × State :=
  match s.traces.find id with
  | none => (false, s)
  | some d =>
    let s1 := s.onTraces fun t => t.modify id (fun d =>
      { d with closed := true, closeTime := some s.now, aborted := d.aborted || !accepted,
               printHold := d.printHold || (accepted && (s.record d.slot).state != .free) })
    let s2 := if d.hostHold then joinDrain id s1 else s1
    (d.truncated, s2.onTraces TraceStore.sweep)

/-- Close a station's open trace as an aborted attempt, if it has one. -/
def abortTrace (trace : Option Nat) (s : State) : State :=
  match trace with
  | none => s
  | some id => (closeTrace id false s).2

/-- R149: clear the print holds of the descriptors a test names, then free what has no hold left. -/
def clearPrintHolds (p : Descriptor → Bool) (s : State) : State :=
  s.onTraces fun t =>
    TraceStore.sweep { t with directory := t.directory.map (fun d => if p d then { d with printHold := false } else d) }

/-- R149: the print holds of one slot's traces. -/
def clearSlotHolds (slot : Nat) : State → State := clearPrintHolds (fun d => d.slot == slot)

/-! ## Requests (R142, R153 to R155) -/

/-- What a request's owner answers: a status and fields, or none for a withheld reply, and the state. -/
structure Handled where
  reply : Option (Status × ReplyBody)
  state : State

/-- R191: a refused request changes nothing and carries no fields. -/
def refuse (st : Status) (s : State) : Handled := { reply := some (st, .none), state := s }

/-- An accepted request with the fields of its reply. -/
def acceptWith (b : ReplyBody) (s : State) : Handled := { reply := some (.ok, b), state := s }

/-- An accepted request whose reply has no fields. -/
def accept (s : State) : Handled := acceptWith .none s

/-- R153: what TRACE_LIST reports of a descriptor. -/
def Descriptor.summary (d : Descriptor) : TraceSummary :=
  { id := d.id, kind := d.kind, slot := d.slot, axle := d.axle, openTime := d.openTime,
    firstTime := d.firstTime, closeTime := d.closeTime, samples := d.samples.length,
    blocks := Runs.count d.blocks, closed := d.closed, truncated := d.truncated, aborted := d.aborted,
    pedalGaps := d.pedalGaps, excess := d.excess, hostHold := d.hostHold, printHold := d.printHold }

/-- A descriptor put into a list ordered by id. -/
def insertById (d : Descriptor) : List Descriptor → List Descriptor
  | [] => [d]
  | e :: es => if d.id ≤ e.id then d :: e :: es else e :: insertById d es

/-- The live descriptors in increasing order of id. -/
def TraceStore.byId (t : TraceStore) : List Descriptor := t.directory.foldr insertById []

/-- R153: the descriptors of a selection (0 ALL from an id, 1 DRAIN). -/
def traceSelection (selection start : Nat) (t : TraceStore) : List Descriptor :=
  if selection = 0 then t.byId.filter (fun d => decide (start ≤ d.id)) else t.drain.filterMap t.find

/-- R153: TRACE_LIST. -/
def traceList (selection start : Nat) (s : State) : Handled :=
  if 1 < selection || (selection == 0 && start == 0) then refuse .badField s
  else
    let l := traceSelection selection start s.traces
    acceptWith (.traceList ((l.take 32).map Descriptor.summary) (decide (32 < l.length))) s

/-- R154: the per-reply limit. -/
def TraceKind.replyLimit : TraceKind → Nat
  | .service | .parking => 96
  | .entry => 160

/-- R154: TRACE_READ. -/
def traceRead (id first count : Nat) (s : State) : Handled :=
  if id == 0 || count == 0 then refuse .badField s
  else
    match s.traces.find id with
    | none => refuse .noSuch s
    | some d =>
      if !d.closed then refuse .state s
      else if d.samples.length < first then refuse .badField s
      else acceptWith (.traceRead id first ((d.samples.drop first).take (min count d.kind.replyLimit))) s

/-- R155: TRACE_RELEASE. -/
def traceRelease (id : Nat) (s : State) : Handled :=
  if id == 0 then refuse .badField s
  else
    match s.traces.find id with
    | none => refuse .noSuch s
    | some d =>
      if !d.closed then refuse .state s
      else accept (s.onTraces fun t =>
        TraceStore.sweep { (t.modify id fun d => { d with hostHold := false }) with
                           drain := t.drain.filter (fun i => i != id) })

/-- R142: the partition holds a block in a descriptor: its free list is shorter than its size. -/
def TraceStore.occupied (t : TraceStore) (brake : Bool) : Bool :=
  if brake then decide (Runs.count t.brakeFree < t.brakeSize)
  else decide (Runs.count t.entryFree < t.entrySize)

/-- R142: the accepted change: free lists returned to the pool, then new ones taken, BRAKE first. -/
def resizePartitions (b e : Nat) (t : TraceStore) : TraceStore :=
  let pool := if b == t.brakeSize then t.unassigned else Runs.merge t.unassigned t.brakeFree
  let pool := if e == t.entrySize then pool else Runs.merge pool t.entryFree
  let (bf, pool) := if b == t.brakeSize then (t.brakeFree, pool) else Runs.takeFirst pool b
  let (ef, pool) := if e == t.entrySize then (t.entryFree, pool) else Runs.takeFirst pool e
  { t with brakeSize := b, entrySize := e, brakeFree := bf, entryFree := ef, unassigned := pool }

/-- R142: SET_PARTITIONS. -/
def setPartitions (b e : Nat) (s : State) : Handled :=
  if 32768 < b || 32768 < e || 32768 < b + e then refuse .badField s
  else if (b != s.traces.brakeSize && s.traces.occupied true)
      || (e != s.traces.entrySize && s.traces.occupied false) then refuse .busy s
  else accept (s.onTraces (resizePartitions b e))

/-- R156: the open trace of a station as reported. -/
def openTraceReport (trace : Option Nat) (t : TraceStore) : Option OpenTraceReport :=
  match trace with
  | none => none
  | some id =>
    match t.find id with
    | none => none
    | some d => some { id := id, samples := d.samples.length, truncated := d.truncated }

/-- R156. -/
def tracesReport (s : State) : TracesReport :=
  { brakeSize := s.traces.brakeSize, brakeFree := Runs.count s.traces.brakeFree,
    entrySize := s.traces.entrySize, entryFree := Runs.count s.traces.entryFree,
    unassigned := Runs.count s.traces.unassigned, live := s.traces.directory.length,
    recording := s.traces.directory.countP (fun d => !d.closed), nextId := s.traces.nextId,
    drain := s.traces.drain.length, oldest := s.traces.drain.head?,
    entryOpen := openTraceReport s.entry.openTrace s.traces,
    brakeOpen := openTraceReport s.brake.openTrace s.traces }

end Sys2Proof.Machine
end

