-- ==== Sys2Proof/Machine/Verdicts.lean ====
section
/-! DEFINITION. Totals and verdicts of a COMPLETE record (R99, R100, R102 to R104). -/

namespace Sys2Proof.Machine

/-! ## Totals (R99, R100) -/

/-- The axle weight of an axle with both weights present. -/
def Axle.weight (a : Axle) : Option Nat := bothSum a.weightL a.weightR

/-- R99: the mass over the axles whose two weights are both present. -/
def massOf (axles : List Axle) : Nat := (axles.filterMap Axle.weight).sum

/-- R99: an axle that lacks a weight or carries OVERRANGE. -/
def Axle.partialMass (a : Axle) : Bool := a.weight.isNone || a.overrange

/-- The service results of a list. -/
def serviceResults (axles : List Axle) : List AxleResult := axles.filterMap Axle.service

/-- The parking results of the parking axles of a list. -/
def parkingResults (axles : List Axle) : List AxleResult :=
  (axles.filter Axle.parking).filterMap Axle.parkingResult

/-- R100: the force total of some results. -/
def forceTotal (rs : List AxleResult) : Nat := (rs.map (fun r => r.maxL + r.maxR)).sum

/-- R99, R100: an efficiency, absent without a whole mass or without a result. -/
def effOf (mass : Nat) (massPartial : Bool) (rs : List AxleResult) : Option Nat :=
  if massPartial || mass == 0 || rs.isEmpty then none else some (efficiency (forceTotal rs) mass)

/-- R100: a contributing result carries OVERRANGE. -/
def boundOf (eff : Option Nat) (rs : List AxleResult) : Bool := eff.isSome && rs.any AxleResult.overrange

/-! ## Verdicts (R102 to R104) -/

/-- R103: a value judged against an upper limit. -/
def judgeMax (limit : Nat) : Option Nat → Verdict
  | none => .notTested
  | some v => if v ≤ limit then .pass else .fail

/-- R103: an efficiency judged against its minimum; a lower bound is judged one-sidedly. -/
def judgeEff (minimum : Nat) (bound : Bool) : Option Nat → Verdict
  | none => .notTested
  | some v => if minimum ≤ v then .pass else if bound then .notTested else .fail

/-- R103: an axle weight; with OVERRANGE it is a lower bound. -/
def judgeWeight (limit : Nat) (bound : Bool) : Option Nat → Verdict
  | none => .notTested
  | some v => if limit < v then .fail else if bound then .notTested else .pass

/-- R102, R103: the items of one axle. -/
def judgeAxle (c : ClassEntry) (a : Axle) : AxleVerdicts :=
  { imbalance := judgeMax c.maxImbalance (a.service.bind AxleResult.imbalanceMax)
    dragL := judgeMax c.maxDrag (a.service.map AxleResult.dragL)
    dragR := judgeMax c.maxDrag (a.service.map AxleResult.dragR)
    sideSlip := judgeMax c.maxSideSlip (a.sideSlip.map Int.natAbs)
    weight := if c.maxAxleWeight = 0 then none
              else some (judgeWeight c.maxAxleWeight a.overrange a.weight) }

/-- R104: the items of one axle when the class is not loaded. -/
def unjudgedAxle : AxleVerdicts :=
  { imbalance := .notTested, dragL := .notTested, dragR := .notTested, sideSlip := .notTested,
    weight := none }

/-- The items of one axle in order. -/
def AxleVerdicts.items (v : AxleVerdicts) : List Verdict :=
  [v.imbalance, v.dragL, v.dragR, v.sideSlip] ++ v.weight.toList

/-- The items of a set in the order of R102. -/
def itemsOf (service : Verdict) (parking : Option Verdict) (axles : List AxleVerdicts) : List Verdict :=
  service :: (parking.toList ++ axles.flatMap AxleVerdicts.items)

/-- R104: the overall verdict. -/
def overallOf (items : List Verdict) (skipped : Bool) : Overall :=
  if items.contains .fail then .fail
  else if items.contains .notTested || skipped then .incomplete
  else .pass

/-- R102 to R104: the verdict set against a class table entry, or none when the class is not loaded. -/
def verdictSet (c : Option ClassEntry) (axles : List Axle) (svc : Option Nat) (svcBound : Bool)
    (pk : Option Nat) (pkBound : Bool) : VerdictSet :=
  let service := match c with
    | some e => judgeEff e.minServiceEff svcBound svc
    | none => .notTested
  let parking := if axles.any Axle.parking then
      some (match c with
        | some e => judgeEff e.minParkingEff pkBound pk
        | none => .notTested)
    else none
  let each := match c with
    | some e => axles.map (judgeAxle e)
    | none => axles.map (fun _ => unjudgedAxle)
  { service := service, parking := parking, axles := each
    overall := overallOf (itemsOf service parking each) (axles.any (fun a => a.skip.isSome)) }

/-- R99: the totals of an axle list against a class table entry. -/
def totalsOf (c : Option ClassEntry) (axles : List Axle) : Totals :=
  let mass := massOf axles
  let mp := axles.any Axle.partialMass
  let svc := effOf mass mp (serviceResults axles)
  let sb := boundOf svc (serviceResults axles)
  let pk := effOf mass mp (parkingResults axles)
  let pb := boundOf pk (parkingResults axles)
  { mass := mass, massPartial := mp, serviceEff := svc, serviceBound := sb, parkingEff := pk,
    parkingBound := pb, verdicts := verdictSet c axles svc sb pk pb }

end Sys2Proof.Machine
end

