-- ==== Sys2Proof/Machine/Vehicles.lean ====
section
/-! DEFINITION. The Vehicle Table (chapter 1): removal, binding, appends, the leaving of the head, aging, and
the requests on records and classes. -/

namespace Sys2Proof.Machine

/-! ## Results for Guidance in order (R126) -/

/-- The station whose program an event concerns; none for BRAKE_FREE, which Guidance raises itself (R128). -/
def GEvent.raisedBy : GEvent → Option Station
  | .vehicleAtBarrier | .axleOnSlip | .axleOnScale | .weightSettled | .axleOffScale | .entryFinished
  | .entryBlocked => some .entry
  | .brakeFree => none
  | .wheelsPresent | .atSpeed | .dragDone | .slipStop | .released | .axleDone | .wheelsLost | .vehicleDone
  | .stationFault => some .brake

/-- The item is an event that a station raised. -/
def GuideItem.raisedIn (st : Station) : GuideItem → Bool
  | .event e => e.raisedBy == some st
  | .vehicle _ _ | .brakeSample => false

/-- R126: a change of vehicle goes before the events the same station raised in the same event. -/
def handVehicle (st : Station) (slot : Option Nat) (s : State) : State :=
  s.onWork fun w =>
    { w with items := w.items.takeWhile (fun i => !i.raisedIn st)
               ++ GuideItem.vehicle st slot :: w.items.dropWhile (fun i => !i.raisedIn st) }

/-! ## Removal (R13, R16, R17) -/

/-- R16: removal of a record; the notice is sent when a cause is given. -/
def removeRecord (slot : Nat) (cause : Option RemovalCause) (s : State) : State :=
  let r := s.record slot
  let s := s.onVt fun v => { v with armed := if v.armed == some slot then none else v.armed }
  let s := if s.brake.vehicle == some slot then
      handVehicle .brake none (s.onBrake fun b => { b with vehicle := none })
    else s
  let s := modRec slot (fun _ => Record.free) (clearSlotHolds slot s)
  let s := match cause with
    | some c => sendNotice (.vehicleRemoved slot (displayedId r) c) s
    | none => s
  noteRetry s

/-- R13: evictable. -/
def Record.evictable (r : Record) : Bool := r.origin == .dynamic && r.state == .complete && !r.job

/-- The older of two candidates by the difference from the present; the earlier one between equals. -/
def olderOf (now : LaneTime) (best : Option (Nat × LaneTime)) (c : Nat × LaneTime) : Option (Nat × LaneTime) :=
  match best with
  | none => some c
  | some b => if (now - b.2).toNat < (now - c.2).toNat then some c else some b

/-- R13: the slot eviction takes. -/
def evictionSlot (s : State) : Option Nat :=
  let cands := (s.vt.records.zipIdx.filter (fun p => p.1.evictable)).map (fun p => (p.2, p.1.lastActivity))
  (cands.foldl (olderOf s.now) none).map Prod.fst

/-- R17: the record's age has reached a limit in minutes. -/
def aged (limit : Nat) (r : Record) (s : State) : Bool := decide (limit * 60000 ≤ s.since r.lastActivity)

/-- R17: AGE_EXPIRY of the record in a slot. -/
def expireAge (slot : Nat) (s : State) : State :=
  let r := s.record slot
  if r.evictable && s.vt.ageLimit != 0 && aged s.vt.ageLimit r s then removeRecord slot (some .aged) s else s

/-- R17: an eligible record's age counted from the present. -/
def Record.renewIfEvictable (now : LaneTime) (r : Record) : Record :=
  if r.evictable then { r with lastActivity := now } else r

/-- R17: an accepted change of AGE_LIMIT. Records past their new expiry are removed in the order of their slots (DESIGN
CHOICE, log entry 42). -/
def setAgeLimit (limit : Nat) (s : State) : State :=
  let old := s.vt.ageLimit
  let s := s.onVt fun v => { v with ageLimit := limit }
  if old == limit || limit == 0 then s
  else if old == 0 then
    s.onVt (fun v => { v with records := v.records.map (Record.renewIfEvictable s.now) })
  else
    (List.range 32).foldl (fun s k =>
      if (s.record k).evictable && aged limit (s.record k) s then removeRecord k (some .aged) s else s) s

/-! ## Binding (R12, R14) -/

/-- R14: a record newly learned. -/
def Record.learned (cls : Nat) : Record := { Record.free with origin := .dynamic, cls := cls }

/-- R14: the given record initialised and appended to the queue; VEHICLE_ENTERED. -/
def bindRecord (slot : Nat) (s : State) : State :=
  let n := (s.vt.entryCount + 1) % 10000
  let s1 := modRec slot (fun r => { r with entryNumber := some n, state := .inLane, entryDone := false,
                                           lastActivity := s.now }) s
  let s2 := s1.onVt fun v => { v with entryCount := n, queue := v.queue ++ [slot],
                                      armed := if v.armed == some slot then none else v.armed }
  let r := s2.record slot
  let s3 := sendNotice (.vehicleEntered slot (displayedId r) r.origin r.cls n s.now) s2
  if s.vt.queue.isEmpty then noteHead s3 else s3

/-- R12 steps 3 and 4: a record learned in the lowest FREE slot. -/
def learnRecord (s : State) : Option Nat × State :=
  match freeSlot s with
  | none => (none, s)
  | some k => (some k, bindRecord k (modRec k (fun _ => Record.learned s.vt.defaultClass) s))

/-- What the Vehicle Table answers to a request for a record. -/
structure Given where
  slot : Option Nat
  cause : BlockCause
  state : State

/-- R12: the decision. -/
def askRecord (s : State) : Given :=
  if 3 ≤ s.vt.queue.length then { slot := none, cause := .laneFull, state := s }
  else
    match s.vt.armed with
    | some a => { slot := some a, cause := .noRecord, state := bindRecord a s }
    | none =>
      if dynamicCount s < s.vt.dynMax then
        { slot := (learnRecord s).1, cause := .noRecord, state := (learnRecord s).2 }
      else
        match evictionSlot s with
        | some k =>
          let t := learnRecord (removeRecord k (some .evicted) s)
          { slot := t.1, cause := .noRecord, state := t.2 }
        | none => { slot := none, cause := .noRecord, state := s }

/-! ## The leaving of the head (R20, R23) -/

/-- R23: the class table entry of a record, if loaded. -/
def classEntry (s : State) (c : Nat) : Option ClassEntry := (s.vt.classes[c]?).join

/-- R23 step 2: the entries for the missing numbers. -/
def missingAxles (r : Record) : List Axle :=
  match r.expected with
  | none => []
  | some n => (List.range' (r.axles.length + 1) (n - r.axles.length)).map
      (fun k => { Axle.fresh (r.parkingSet.contains k) with skip := some .missing })

/-- R23 steps 2 to 4: the record as it stands once COMPLETE. -/
def Record.completed (r : Record) (c : Option ClassEntry) (now : LaneTime) : Record :=
  let axles := r.axles ++ missingAxles r
  { r with state := .complete, lastActivity := now, axles := axles,
           axlesMissing := r.axlesMissing || !(missingAxles r).isEmpty,
           totals := some (totalsOf c axles) }

/-- The overall verdict of a record's totals. -/
def Record.overall (r : Record) : Overall :=
  match r.totals with
  | some t => t.verdicts.overall
  | none => .incomplete

/-- R23: the COMPLETE transition of the head. -/
def completeHead (cause : LeaveCause) (s : State) : State :=
  match s.vt.queue with
  | [] => s
  | h :: rest =>
    let s1 := s.onVt fun v => { v with queue := rest, exitClear := false }
    let s2 := modRec h (fun r => r.completed (classEntry s1 r.cls) s.now) s1
    let r := s2.record h
    let s3 := sendNotice (.vehicleComplete h (displayedId r) r.cls r.axles.length r.overall cause s.now) s2
    noteRetry (noteHead s3)

/-- R20: the three conditions of the head. -/
def leavingMet (s : State) : Bool :=
  match s.vt.queue.head? with
  | none => false
  | some h => (s.record h).entryDone && testDone (s.record h) && s.vt.exitClear

/-- R20: evaluate the head's leaving. -/
def evaluateLeaving (s : State) : State := if leavingMet s then completeHead .exit s else s

/-- R20: EXIT_BARRIER went from clear to broken. -/
def exitBroken (s : State) : State := s.onVt fun v => { v with exitClear := false }

/-- R20: EXIT_BARRIER went from broken to clear. -/
def exitCleared (s : State) : State :=
  if s.vt.queue.isEmpty then s else evaluateLeaving (s.onVt fun v => { v with exitClear := true })

/-! ## Axles (R3, R21, R22) -/

/-- R3, R15: an axle entry appended with the fields its writer gives; refused (false) at 12 entries. -/
def appendAxle (slot : Nat) (f : Axle → Axle) (s : State) : Bool × State :=
  if (s.record slot).axles.length < 12 then
    (true, writeRec slot (fun r => { r with axles := r.axles ++ [f r.nextEntry] }) s)
  else (false, s)

/-- R22: an axle marked skipped; it keeps a first cause. -/
def markSkipped (slot n : Nat) (c : SkipCause) (s : State) : State :=
  writeAxle slot n (fun a => { a with skip := some (a.skip.getD c) }) s

/-- R21 step 2: the untested axles of a list marked. -/
def markUntested (a : Axle) : Axle :=
  if a.finished || a.skip.isSome then a else { a with skip := some .notTested }

/-- R21: a release is carried out: the head has entry_done set. -/
def releasable (s : State) : Bool :=
  match s.vt.queue.head? with
  | none => false
  | some h => (s.record h).entryDone

/-- R21 steps 2 and 3. -/
def releaseHead (s : State) : State :=
  match s.vt.queue.head? with
  | none => s
  | some h => completeHead .released (writeRec h (fun r => { r with axles := r.axles.map markUntested }) s)

/-! ## Requests (R7 to R11, R18, R24) -/

/-- R7: the checks of a named slot. -/
def slotRefusal (slot : Nat) (s : State) : Option Status :=
  if 31 < slot then some .badField
  else if (s.record slot).state == .free then some .noSuch
  else none

/-- R7: a request on a slot, once its slot is checked. -/
def withSlot (slot : Nat) (s : State) (k : Record → Handled) : Handled :=
  match slotRefusal slot s with
  | some st => refuse st s
  | none => k (s.record slot)

/-- R8, R10: an id that a non-FREE record other than `except` holds. -/
def idTaken (id : Text) (except : Option Nat) (s : State) : Bool :=
  s.vt.records.zipIdx.any (fun p => p.1.state != .free && p.1.id == id && some p.2 != except)

/-- R8: the fields of BOOK_VEHICLE are in their ranges. -/
def bookingOk (id : Text) (cls : Nat) (expected : Option Nat) (parking : List Nat) : Bool :=
  idOk id && decide (cls ≤ 7) && expected.all (fun n => decide (1 ≤ n) && decide (n ≤ 12))
    && parking.all (fun n => decide (1 ≤ n) && decide (n ≤ 12) && expected.all (fun e => decide (n ≤ e)))

/-- R8: a record as booked. -/
def Record.booked (id : Text) (cls : Nat) (expected : Option Nat) (parking : List Nat) (now : LaneTime) : Record :=
  { Record.free with id := id, origin := .booked, state := .booked, cls := cls, expected := expected,
                     parkingSet := axleSet parking, lastActivity := now }

/-- R8: BOOK_VEHICLE. -/
def bookVehicle (id : Text) (cls : Nat) (expected : Option Nat) (parking : List Nat) (s : State) : Handled :=
  if !bookingOk id cls expected parking then refuse .badField s
  else if idTaken id none s then refuse .duplicate s
  else if 32 - s.vt.dynMax ≤ bookedCount s then refuse .tableFull s
  else
    match freeSlot s with
    | none => refuse .tableFull s
    | some k => acceptWith (.slot k) (modRec k (fun _ => Record.booked id cls expected parking s.now) s)

/-- R9: the record armed before returns to BOOKED. -/
def disarm (s : State) : State :=
  match s.vt.armed with
  | none => s
  | some a => modRec a (fun r => { r with state := .booked }) (s.onVt fun v => { v with armed := none })

/-- R9: ARM_VEHICLE. -/
def armVehicle (slot : Option Nat) (s : State) : Handled :=
  match slot with
  | none => accept (disarm s)
  | some k =>
    withSlot k s fun r =>
      if r.state != .booked && r.state != .armed then refuse .state s
      else
        let s' := disarm s
        accept (noteRetry (modRec k (fun r => { r with state := .armed })
          (s'.onVt fun v => { v with armed := some k })))

/-- R10: BIND_VEHICLE. -/
def bindVehicle (slot : Nat) (id : Text) (cls : Option Nat) (s : State) : Handled :=
  withSlot slot s fun r =>
    if !(idOk id && cls.all (fun c => decide (c ≤ 7))) then refuse .badField s
    else if r.origin == .booked || (cls.isSome && r.state == .complete) then refuse .state s
    else if r.job then refuse .busy s
    else if idTaken id (some slot) s then refuse .duplicate s
    else accept (writeRec slot (fun r => { r with id := id, cls := cls.getD r.cls }) s)

/-- R18: DISCARD_VEHICLE. -/
def discardVehicle (slot : Nat) (s : State) : Handled :=
  withSlot slot s fun r =>
    if r.state == .inLane || r.job then refuse .busy s
    else accept (removeRecord slot (some .discarded) s)

/-- R11: GET_VEHICLE renews last_activity and replies the record (log entry 10). -/
def getVehicle (slot : Nat) (s : State) : Handled :=
  withSlot slot s fun _ =>
    let s' := writeRec slot id s
    acceptWith (.vehicle (s'.record slot) (displayedId (s'.record slot))) s'

/-- R11: LIST_LANE. -/
def listLane (s : State) : Handled :=
  acceptWith (.lane { queue := s.vt.queue, armed := s.vt.armed, booked := bookedCount s,
                      dynamic := dynamicCount s, dynMax := s.vt.dynMax, entryCount := s.vt.entryCount,
                      blocked := s.entry.blocked }) s

/-- R24: the entry LOAD_CLASS gives: none when a field is refused, `some none` to unload. The loaded indication is 1
for loaded and 0 for unloaded, any other number is refused (DESIGN CHOICE, log entry 43). -/
def loadedClass (loaded : Nat) (fields : Option RawClass) : Option (Option ClassEntry) :=
  match loaded, fields with
  | 0, none => some none
  | 1, some c => (classOf c).map some
  | _, _ => none

/-- R24: LOAD_CLASS. -/
def loadClass (cls loaded : Nat) (fields : Option RawClass) (s : State) : Handled :=
  if 7 < cls then refuse .badField s
  else
    match loadedClass loaded fields with
    | none => refuse .badField s
    | some e => accept (s.onVt fun v => { v with classes := v.classes.set cls e })

/-! ## RESTART (R26) -/

/-- R26 steps 4 and 5: a record without a job after RESTART. -/
def Record.restarted (r : Record) (now : LaneTime) : Record :=
  if r.state == .free then r
  else if r.job then r
  else if r.origin == .dynamic then Record.free
  else { r with state := .booked, entryDone := false, axlesExceeded := false, axlesMissing := false,
                entryNumber := none, lastActivity := now, axles := [], totals := none }

/-- R26 step 2: the queue, the indication and the armed reference. -/
def emptyLane (s : State) : State :=
  s.onVt fun v => { v with queue := [], exitClear := false, armed := none }

/-- R26 steps 4 and 5 for every record. -/
def restartRecords (s : State) : State :=
  s.onVt fun v => { v with records := v.records.map (fun r => r.restarted s.now) }

/-- R26: the record of a job that RESTART left in NUMBERING, when the job ends. -/
def restartRecord (slot : Nat) (s : State) : State :=
  if (s.record slot).origin == .dynamic then removeRecord slot none s
  else modRec slot (fun r => r.restarted s.now) s

end Sys2Proof.Machine
end

