-- ==== Sys2Proof/Machine/EntryStation.lean ====
section
/-! DEFINITION. The Entry Station (chapter 3): the entry sample, binding, slip plate crossings, the axle scale,
appending, the end of the entry phase, and what the host sees of it. -/

namespace Sys2Proof.Machine

/-! ## Station state and notices (R45, R60) -/

/-- The plate tracker changed. -/
def onPlate (f : PlateTracker → PlateTracker) (s : State) : State :=
  s.onEntry fun e => { e with plate := f e.plate }

/-- The scale tracker changed. -/
def onScale (f : ScaleTracker → ScaleTracker) (s : State) : State :=
  s.onEntry fun e => { e with scale := f e.scale }

/-- The station is bound or BLOCKED. -/
def EntryStation.following (e : EntryStation) : Bool := e.vehicle.isSome || e.blocked

/-- R60: STATION_STATE of the entry station as it stands. -/
def noticeEntry (cause : Option BlockCause) (s : State) : State :=
  sendNotice (.entryState (entryName s.entry) s.entry.vehicle cause s.now) s

/-- R60: a departure from FINISHING is noticed. -/
def noticeDeparture (before : EntryName) (s : State) : State :=
  if before == .finishing && entryName s.entry != .finishing then noticeEntry none s else s

/-- R45: the station's state as after power-on, its settings kept. -/
def EntryStation.idled (e : EntryStation) : EntryStation :=
  { EntryStation.reset with axleOn := e.axleOn, settleBand := e.settleBand }

/-! ## The entry sample (R47) -/

/-- R47: a channel's reading with its calibration; none when the value is absent. -/
def usable (r : Option Reading) (s : State) : Option (Nat × Nat × Nat) :=
  match r with
  | none => none
  | some x =>
    if x.faulted then none
    else (calibration s x.channel).map (fun c => (x.sum, c.1, c.2))

/-- R47: the entry sample of a window end. -/
def entrySample (d : Delivery) (s : State) : EntrySample :=
  let weight := fun r => (usable r s).map (fun (x, z, g) => wheelWeight x z g)
  let clamp := fun r => (usable r s).any (fun (x, z, g) => weightClamped x z g)
  { weightL := weight d.weighL, weightR := weight d.weighR, clampL := clamp d.weighL,
    clampR := clamp d.weighR, plate := (usable d.plate s).map (fun (x, z, g) => displacement x z g),
    time := d.stamp }

/-- R47: the sample's axle weight. -/
def EntrySample.axleWeight (x : EntrySample) : Nat := x.weightL.getD 0 + x.weightR.getD 0

/-! ## Quiet time (R56) -/

/-- R56: the conditions of FINISHING. -/
def EntryStation.mayFinish (e : EntryStation) : Bool :=
  e.vehicle.isSome && e.cleared && !e.plate.crossing && e.scale.phase == .empty

/-- R56: the check for FINISHING. -/
def checkFinishing (s : State) : State :=
  if s.entry.mayFinish then
    noticeEntry none (s.onEntry fun e => { e with quiet := some (later s.now 3000) })
  else s

/-- Any quiet expiry cancelled. -/
def cancelQuiet (s : State) : State := s.onEntry fun e => { e with quiet := none }

/-! ## Binding (R48, R49) -/

/-- R48: the trackers started afresh. -/
def startTrackers (s : State) : State :=
  let standing := inputActive .slipPlateSwitch s
  s.onEntry fun e =>
    { e with plate := { PlateTracker.free with crossing := standing, partialMark := standing }
             scale := ScaleTracker.empty, firstWindow := true, crossings := [], passed := 0
             cleared := false, quiet := none, lastCrossing := none }

/-- R48, R58: the station bound to a slot: trace, change of vehicle, VEHICLE_AT_BARRIER, STATION_STATE. -/
def bindStation (slot : Nat) (s : State) : State :=
  let t := openTrace .entry slot none s
  let s1 := t.2.onEntry fun e => { e with vehicle := some slot, blocked := false, openTrace := t.1 }
  noticeEntry none (raiseEvent .vehicleAtBarrier (handVehicle .entry (some slot) s1))

/-- R48: an active barrier edge in IDLE. -/
def startVehicle (s : State) : State :=
  let g := askRecord (startTrackers s)
  match g.slot with
  | some k => bindStation k g.state
  | none =>
    noticeEntry (some g.cause)
      (raiseEvent .entryBlocked (g.state.onEntry fun e => { e with blocked := true }))

/-- The AXLE_MEASURED notice of axle `n` (R55). -/
def noticeMeasured (slot n : Nat) (s : State) : State :=
  let r := s.record slot
  match r.axle n with
  | none => s
  | some a => sendNotice (.axleMeasured slot (displayedId r) n a.weightL a.weightR a.unsettled a.overrange
      a.addedAtRollers a.sideSlip s.now) s

/-- R55: an axle refused at 12: the note and the trace's excess count. -/
def refuseAxle (slot : Nat) (s : State) : State :=
  addExcess s.entry.openTrace (writeRec slot (fun r => { r with axlesExceeded := true }) s)

/-- R55: an append by the entry station: its number if it was taken. -/
def appendMeasured (slot : Nat) (f : Axle → Axle) (s : State) : Option Nat × State :=
  let t := appendAxle slot f s
  if t.1 then
    let n := (t.2.record slot).axles.length
    (some n, noteRematch (evaluateLeaving (noticeMeasured slot n t.2)))
  else (none, refuseAxle slot t.2)

/-- R49: the axles that passed while BLOCKED, appended one by one, those beyond 12 refused as R55 gives. None of them
raises WEIGHT_SETTLED: R59 ties it to a weight taken while bound, and R55 raises it for a refused axle too (DESIGN CHOICE,
log entry 23). -/
def appendPassed (slot : Nat) : (k : Nat) → State → State
  | 0, s => s
  | k + 1, s => appendPassed slot k (appendMeasured slot id s).2

/-- R12, R49: binding tried again for a BLOCKED station. The passed-axle count stays as it is (DESIGN CHOICE, log entry
50). -/
def retryBinding (s : State) : State :=
  if s.entry.blocked then
    let g := askRecord s
    match g.slot with
    | none => s
    | some k =>
      let s1 := appendPassed k s.entry.passed (bindStation k g.state)
      if s1.entry.scale.phase == .taken then
        onScale (fun c => { c with takenNumber := if s.entry.passed ≤ 12 then some s.entry.passed else none }) s1
      else s1
  else s

/-- R48, R49, R56: an active edge of ENTRY_BARRIER. -/
def barrierActive (s : State) : State :=
  if s.entry.blocked then s
  else if s.entry.vehicle.isSome then
    noticeDeparture (entryName s.entry) (cancelQuiet (s.onEntry fun e => { e with cleared := false }))
  else startVehicle s

/-- R49, R56: an inactive edge of ENTRY_BARRIER. -/
def barrierInactive (s : State) : State :=
  if s.entry.blocked then noticeEntry none (s.onEntry EntryStation.idled)
  else if s.entry.vehicle.isSome then checkFinishing (s.onEntry fun e => { e with cleared := true })
  else s

/-! ## Slip plate (R50, R51) -/

/-- R50: an active edge of SLIP_PLATE_SWITCH. -/
def plateActive (s : State) : State :=
  if s.entry.following && !s.entry.plate.crossing then
    let s1 := onPlate (fun _ => { PlateTracker.free with crossing := true }) s
    if s.entry.vehicle.isSome then
      noticeDeparture (entryName s.entry) (cancelQuiet (raiseEvent .axleOnSlip s1))
    else s1
  else s

/-- R50: the larger in magnitude; the earlier between equals. -/
def peakOf (peak : Option Int) (v : Int) : Int :=
  match peak with
  | none => v
  | some p => if p.natAbs < v.natAbs then v else p

/-- R50: a sample while CROSSING. -/
def PlateTracker.take (p : PlateTracker) (x : EntrySample) : PlateTracker :=
  if p.crossing then
    match x.plate with
    | none => { p with faultMark := true }
    | some v => { p with count := p.count + 1, peak := some (peakOf p.peak v) }
  else p

/-- R51: the value of a crossing. -/
def crossingValue (p : PlateTracker) (c : LaneConstants) : Option Int :=
  match p.peak with
  | none => none
  | some v =>
    if p.partialMark || p.faultMark || p.count == 0 || !c.valid then none
    else some (sideSlipOf v c.plate)

/-- R51: a value joins the crossing queue of at most 2. -/
def pushCrossing (q : List (Option Int)) (v : Option Int) : List (Option Int) :=
  (if q.length ≥ 2 then q.drop 1 else q) ++ [v]

/-- R51: an inactive edge of SLIP_PLATE_SWITCH. -/
def plateInactive (s : State) : State :=
  if s.entry.plate.crossing then
    let v := crossingValue s.entry.plate s.cal.constants
    checkFinishing (s.onEntry fun e =>
      { e with plate := PlateTracker.free, crossings := pushCrossing e.crossings v, lastCrossing := v })
  else s

/-! ## The axle scale (R52 to R55) -/

/-- R52: an axle comes on with a sample. -/
def ScaleTracker.started (x : EntrySample) (late : Bool) : ScaleTracker :=
  { ScaleTracker.empty with
      phase := .weighing, onTime := x.time, count := 1
      sumL := x.weightL.getD 0, sumR := x.weightR.getD 0
      cntL := if x.weightL.isSome then 1 else 0, cntR := if x.weightR.isSome then 1 else 0
      last20 := [{ axle := x.axleWeight, left := x.weightL, right := x.weightR }]
      usableL := x.weightL.isSome, usableR := x.weightR.isSome
      overrange := x.clampL || x.clampR, late := late, settle := some (later x.time 10000) }

/-- R52: what every sample after the first does to the axle on the scale. -/
def ScaleTracker.joinMarks (c : ScaleTracker) (x : EntrySample) : ScaleTracker :=
  { c with
      count := c.count + 1
      usableL := c.usableL && x.weightL.isSome, usableR := c.usableR && x.weightR.isSome
      overrange := c.overrange || x.clampL || x.clampR
      last20 := (if c.last20.length ≥ 20 then c.last20.drop 1 else c.last20)
                  ++ [{ axle := x.axleWeight, left := x.weightL, right := x.weightR }] }

/-- One more where the value is present. -/
def countOf (v : Option Nat) : Nat := if v.isSome then 1 else 0

/-- R52: a sample joins the axle: held apart while the low run lasts, counted otherwise. -/
def ScaleTracker.join (c : ScaleTracker) (x : EntrySample) (axleOn : Nat) : ScaleTracker :=
  let c := c.joinMarks x
  if 2 * x.axleWeight < axleOn then
    { c with low := c.low + 1
             lowSumL := c.lowSumL + x.weightL.getD 0, lowSumR := c.lowSumR + x.weightR.getD 0
             lowCntL := c.lowCntL + countOf x.weightL, lowCntR := c.lowCntR + countOf x.weightR }
  else
    { c with low := 0
             sumL := c.sumL + c.lowSumL + x.weightL.getD 0, sumR := c.sumR + c.lowSumR + x.weightR.getD 0
             cntL := c.cntL + c.lowCntL + countOf x.weightL, cntR := c.cntR + c.lowCntR + countOf x.weightR
             lowSumL := 0, lowSumR := 0, lowCntL := 0, lowCntR := 0 }

/-- The largest value of a list. -/
def maxOf (l : List Nat) : Nat := l.foldl max 0

/-- The smallest value of a list that is not empty. -/
def minOf : List Nat → Nat
  | [] => 0
  | a :: l => l.foldl min a

/-- R53: the last 20 samples have settled. -/
def ScaleTracker.settled (c : ScaleTracker) (band : Nat) : Bool :=
  let ws := c.last20.map WeightSample.axle
  c.last20.length == 20 && decide (maxOf ws - minOf ws ≤ band)

/-- R53: a usable side's mean over the last 20 samples. -/
def settledMean (ok : Bool) (ws : List (Option Nat)) : Option Nat :=
  let vs := ws.filterMap id
  if ok && !vs.isEmpty then some (roundDiv vs.sum vs.length) else none

/-- R53: a usable side's mean over all its counted samples. -/
def expiryMean (ok : Bool) (sum cnt : Nat) : Option Nat :=
  if ok && cnt != 0 then some (roundDiv sum cnt) else none

/-- R55: the values an appended axle takes. -/
def measuredAxle (wl wr : Option Nat) (unsettled overrange : Bool) (slip : Option Int) (a : Axle) : Axle :=
  { a with weightL := wl, weightR := wr, unsettled := unsettled, overrange := overrange, sideSlip := slip }

/-- R53, R55, R49: an axle's weight is taken: appended when bound, discarded when BLOCKED. -/
def takeWeight (unsettled : Bool) (wl wr : Option Nat) (s : State) : State :=
  let c := s.entry.scale
  let slip := if c.late then none else s.entry.crossings.head?.join
  let s1 := s.onEntry fun e =>
    { e with crossings := if c.late then e.crossings else e.crossings.drop 1
             scale := { c with phase := .taken, settle := none, takenL := wl, takenR := wr,
                               takenNumber := none } }
  match s.entry.vehicle with
  | none => s1.onEntry fun e => { e with passed := bump 255 e.passed }
  | some v =>
    let t := appendMeasured v (measuredAxle wl wr unsettled c.overrange slip) s1
    raiseEvent .weightSettled (onScale (fun c => { c with takenNumber := t.1 }) t.2)

/-- R53: the weight taken as in the settle expiry case. -/
def takeUnsettled (s : State) : State :=
  let c := s.entry.scale
  takeWeight true (expiryMean c.usableL c.sumL c.cntL) (expiryMean c.usableR c.sumR c.cntR) s

/-- R53: the weight taken as settled. -/
def takeSettled (s : State) : State :=
  let c := s.entry.scale
  takeWeight false (settledMean c.usableL (c.last20.map WeightSample.left))
    (settledMean c.usableR (c.last20.map WeightSample.right)) s

/-- R54: the axle leaves the scale. -/
def leaveScale (s : State) : State :=
  let s1 := if s.entry.scale.phase == .weighing then takeUnsettled s else s
  let s2 := onScale (fun _ => ScaleTracker.empty) s1
  if s.entry.vehicle.isSome then checkFinishing (raiseEvent .axleOffScale s2) else s2

/-- R52: an axle comes on. -/
def comeOnScale (x : EntrySample) (s : State) : State :=
  let s1 := onScale (fun _ => ScaleTracker.started x s.entry.firstWindow) s
  if s.entry.vehicle.isSome then
    noticeDeparture (entryName s.entry) (cancelQuiet (raiseEvent .axleOnScale s1))
  else s1

/-- R52 to R54: the scale tracker takes a sample. -/
def scaleSample (x : EntrySample) (s : State) : State :=
  match s.entry.scale.phase with
  | .empty => if s.entry.axleOn ≤ x.axleWeight then comeOnScale x s else s
  | .weighing | .taken =>
    let s1 := onScale (fun c => c.join x s.entry.axleOn) s
    if s1.entry.scale.low == 5 then leaveScale s1
    else if s1.entry.scale.phase == .weighing && s1.entry.scale.settled s1.entry.settleBand then
      takeSettled s1
    else s1

/-- R193: a station's live frame is placed at every divider-th counted window end. -/
def liveEntry (x : EntrySample) (s : State) : State :=
  if s.port.entryDivider = 0 then s
  else if s.port.entryLiveCount + 1 ≥ s.port.entryDivider then
    s.onPort fun p => { p with entryLiveCount := 0
                               live := some (.entry (entryName s.entry) s.entry.vehicle x) }
  else s.onPort fun p => { p with entryLiveCount := p.entryLiveCount + 1 }

/-- R58, R143: the sample appended to the open ENTRY trace while bound, its displacement within ±32 767. -/
def recordEntrySample (x : EntrySample) (s : State) : State :=
  if s.entry.vehicle.isSome then
    appendSample s.entry.openTrace (.entry x.weightL x.weightR (x.plate.map (clampSym 32767))) x.time s
  else s

/-- R47: the station takes a window end. -/
def entryWindow (d : Delivery) (s : State) : State :=
  if s.entry.following then
    let x := entrySample d s
    let s1 := onPlate (fun p => p.take x) (recordEntrySample x (liveEntry x s))
    (scaleSample x s1).onEntry fun e => { e with firstWindow := false }
  else s

/-- R53: the settle expiry. -/
def settleExpired (s : State) : State :=
  if s.entry.scale.phase == .weighing && s.due s.entry.scale.settle then takeUnsettled s else s

/-! ## The end of the entry phase (R57), RESTART (R61), reports (R60) -/

/-- The open ENTRY trace closed and absent. -/
def closeEntryTrace (s : State) : State :=
  match s.entry.openTrace with
  | none => s
  | some id => (closeTrace id true s).2.onEntry fun e => { e with openTrace := none }

/-- R57: the quiet expiry. The barrier-cleared flag and the passed-axle count are cleared with the rest (DESIGN CHOICE,
log entry 50). -/
def quietExpired (s : State) : State :=
  match s.entry.vehicle with
  | none => s
  | some v =>
    if s.due s.entry.quiet then
      let s1 := noteRematch (evaluateLeaving (writeRec v (fun r => { r with entryDone := true }) s))
      let s2 := raiseEvent .entryFinished (closeEntryTrace s1)
      noticeEntry none (handVehicle .entry none (s2.onEntry EntryStation.idled))
    else s

/-- R61: the station on RESTART. -/
def restartEntry (s : State) : State :=
  noticeEntry none ((abortTrace s.entry.openTrace s).onEntry EntryStation.idled)

/-- R60: GET_STATUS ENTRY. -/
def entryReport (s : State) : EntryReport :=
  let e := s.entry
  { state := entryName e, slot := e.vehicle, plate := e.plate, scale := e.scale.phase
    onTime := if e.scale.phase == .empty then none else some e.scale.onTime
    samples := e.scale.count, crossings := e.crossings, passed := e.passed, cleared := e.cleared
    quiet := e.quiet, openTrace := e.openTrace }

end Sys2Proof.Machine
end

