-- ==== Sys2Proof/Machine/BrakeStation.lean ====
section
/-! DEFINITION. The Brake Station (chapter 4): the brake sample, taking a vehicle and matching an axle, the
phase from ZEROING to AXLE_DONE, aborts, faults, station requests, and what the host sees of it. -/

namespace Sys2Proof.Machine

/-! ## States and notices (R62) -/

/-- R62: STATION_STATE of the brake station as it stands; the phase goes with the current axle. -/
def noticeBrake (s : State) : State :=
  let b := s.brake
  sendNotice (.brakeState b.state b.vehicle b.axle (if b.axle.isSome then some b.phase else none) s.now) s

/-- R62: a change of state; every change but one into AXLE_DONE is noticed. -/
def enterState (st : BrakeState) (s : State) : State :=
  let s1 := s.onBrake fun b => { b with state := st }
  if s.brake.state == st || st == .axleDone then s1 else noticeBrake s1

/-- R125: the station's vehicle; Guidance sees a change of it. -/
def setVehicle (v : Option Nat) (s : State) : State :=
  if s.brake.vehicle == v then s
  else handVehicle .brake v (s.onBrake fun b => { b with vehicle := v })

/-- R128: the station reports empty rollers; Guidance raises BRAKE_FREE. -/
def reportFree (s : State) : State := raiseEvent .brakeFree s

/-- Entry into IDLE. -/
def enterIdle (s : State) : State :=
  reportFree (enterState .idle ((setVehicle none s).onBrake fun b => { b with presence := none }))

/-- R66: entry into WAIT_WHEELS with the head of the queue. -/
def enterWaitWheels (s : State) : State :=
  let p := if wheelsOn s then some (later s.now 2000) else none
  let s1 := enterState .waitWheels
    ((setVehicle s.vt.queue.head? s).onBrake fun b => { b with axle := none, presence := p })
  if wheelsOff s then reportFree s1 else s1

/-- R65, R77: the station takes whatever head the queue has. -/
def takeHead (s : State) : State := if s.vt.queue.isEmpty then enterIdle s else enterWaitWheels s

/-- R77: entry into WAIT_CLEAR. -/
def enterWaitClear (s : State) : State :=
  let c := if wheelsOff s then some (later s.now 1000) else none
  enterState .waitClear (s.onBrake fun b => { b with presence := none, clear := c })

/-- The current axle dropped. -/
def dropAxle (s : State) : State := s.onBrake fun b => { b with axle := none }

/-! ## Abort and fault (R78, R80) -/

/-- The record and number of the station's current axle. -/
def currentAxle (s : State) : Option (Nat × Nat) :=
  match s.brake.vehicle, s.brake.axle with
  | some v, some n => some (v, n)
  | _, _ => none

/-- The axle entry of a record, or a fresh one where there is none. -/
def State.axleOf (s : State) (v n : Nat) : Axle := ((s.record v).axle n).getD (Axle.fresh false)

/-- R87: AXLE_TESTED for the current axle. -/
def noticeTested (reason : Option AbortReason) (result : Option AxleResult) (s : State) : State :=
  match currentAxle s with
  | none => s
  | some (v, n) =>
    sendNotice (.axleTested v (displayedId (s.record v)) n s.brake.phase reason (s.axleOf v n).attempts
      result s.now) s

/-- R78 step 3: no running values, held samples or counts. -/
def BrakeStation.discarded (b : BrakeStation) : BrakeStation :=
  { b with run := Running.none, slipRunL := 0, slipRunR := 0, held := [], releaseCount := 0,
           speedCount := 0, stopCount := 0, dragCount := 0, zeroSumL := 0, zeroSumR := 0, zeroCount := 0 }

/-- R78: an attempt is undone. -/
def abortAttempt (reason : AbortReason) (s : State) : State :=
  let s1 := (setRun false s).onBrake fun b =>
    { b.discarded with presence := none, spinUp := none, braking := none, stop := none, openTrace := none }
  let s2 := abortTrace s.brake.openTrace s1
  let s3 := match currentAxle s2 with
    | some (v, n) => writeAxle v n (fun a => { a with attempts := bump 15 a.attempts }) s2
    | none => s2
  noticeTested (some reason) none s3

/-- R80: the FAULT notice with source BRAKE_STATION. -/
def noticeFault (c : BrakeCause) (entered : Bool) (s : State) : State :=
  sendNotice (.brakeFault c s.brake.vehicle s.brake.axle entered s.now) s

/-- R80: entry into FAULT; a cause that arises in FAULT changes nothing. -/
def enterFault (c : BrakeCause) (s : State) : State :=
  if s.brake.state == .fault then s
  else
    let s1 := if s.brake.state.attempt && c != .rollerStopTimeout then abortAttempt .fault s else s
    let s2 := (setRun false s1).onBrake fun b =>
      { b with presence := none, spinUp := none, braking := none, stop := none, clear := none,
               cause := some c }
    noticeFault c true (raiseEvent .stationFault (enterState .fault s2))

/-! ## Matching an axle (R67, R68) -/

/-- R68: the checks before ZEROING. -/
def zeroingRefusal (s : State) : Option BrakeCause :=
  if inputActive .estop s then some .estop
  else
    match channelWith .brakeL s, channelWith .brakeR s with
    | some l, some r =>
      if (calibration s l).isSome && (calibration s r).isSome && s.cal.constants.valid then none
      else some .noCalibration
    | _, _ => some .noChannel

/-- R68, R69: ZEROING entered, or the fault its checks find. -/
def enterZeroing (s : State) : State :=
  match zeroingRefusal s with
  | some c => enterFault c s
  | none => enterState .zeroing (s.onBrake fun b => { b with zeroSumL := 0, zeroSumR := 0, zeroCount := 0 })

/-- R67: an axle becomes the current axle with its phase. -/
def takeAxle (n : Nat) (ph : Phase) (s : State) : State :=
  enterZeroing (s.onBrake fun b => { b with axle := some n, phase := ph })

/-- R67: the phase an axle is due. -/
def Axle.duePhase (a : Axle) : Phase := if a.service.isSome then .parking else .service

/-- R67: matching on the head's record. -/
def matchAxle (v : Nat) (s : State) : State :=
  let r := s.record v
  match nextAxle r with
  | some n => takeAxle n (s.axleOf v n).duePhase s
  | none =>
    if r.entryDone then
      let t := appendAxle v (fun a => { a with addedAtRollers := true }) s
      if t.1 then takeAxle ((t.2.record v).axles.length) .service (evaluateLeaving t.2)
      else enterWaitClear (dropAxle t.2)
    else enterState .waitAxleRecord (dropAxle s)

/-- R67: a waiting axle is matched again. -/
def rematchAxle (s : State) : State :=
  match s.brake.vehicle with
  | some v => if s.brake.state == .waitAxleRecord && wheelsOn s then matchAxle v s else s
  | none => s

/-- R66: the presence expiry. -/
def presenceExpired (s : State) : State :=
  match s.brake.vehicle with
  | none => s
  | some v =>
    if s.brake.state == .waitWheels && s.due s.brake.presence then
      matchAxle v (raiseEvent .wheelsPresent (s.onBrake fun b => { b with presence := none }))
    else s

/-! ## A change of head (R65) -/

/-- R65: the station is told of a change of head. -/
def headChanged (s : State) : State :=
  match s.brake.state with
  | .idle => if s.vt.queue.isEmpty then s else takeHead s
  | .waitWheels | .waitAxleRecord =>
    let s1 := dropAxle (s.onBrake fun b => { b with presence := none })
    if inputActive .wheelL s || inputActive .wheelR s then enterWaitClear s1 else takeHead s1
  | .zeroing | .spinUp | .drag | .braking | .stopping | .axleDone => s
  | .waitClear => dropAxle s
  | .fault => setVehicle s.vt.queue.head? (dropAxle s)

/-! ## The brake sample (R64, R118) -/

/-- R64: a state in which the zero of the force is the phase zero. -/
def BrakeState.onPhaseZero : BrakeState → Bool
  | .spinUp | .drag | .braking | .stopping => true
  | .idle | .waitWheels | .waitAxleRecord | .zeroing | .axleDone | .waitClear | .fault => false

/-- R64: a side's force and whether it was clamped. -/
def sideForce (r : Option Reading) (phaseZero : Nat) (s : State) : Option Nat × Bool :=
  match usable r s with
  | none => (none, false)
  | some (x, z, g) =>
    let z0 := if s.brake.state.onPhaseZero then phaseZero else z
    (some (wheelForce x z0 g), forceClamped x z0 g)

/-- R118: an entry that a window end takes. -/
def inWindow (t : LaneTime) (e : RingEntry) : Bool := decide ((t - e.time).toNat < 10)

/-- R118: the pedal of a sample ending at `t`: the latest entry of the ring in the window. -/
def pedalAt (ring : List RingEntry) (t : LaneTime) : Option Nat :=
  ((ring.filter (inWindow t)).getLast?).map RingEntry.force

/-- R64: a sliding sum over the count history. -/
def sliding (f : PulseTotals → Nat) (h : List PulseTotals) : Nat := (h.map f).sum

/-- R64: the brake sample of a window end, its totals already in the history. -/
def brakeSample (d : Delivery) (s : State) : BrakeSample :=
  let b := s.brake
  let k := s.cal.constants
  let l := sideForce d.brakeL b.zeroL s
  let r := sideForce d.brakeR b.zeroR s
  let cdL := sliding PulseTotals.driveL b.history
  let cdR := sliding PulseTotals.driveR b.history
  let slip := fun cd cs => if k.valid then wheelSlip (b.state == .braking) cd cs k.dd k.ds else 0
  { forceL := l.1, forceR := r.1, clampL := l.2, clampR := r.2
    slipL := slip cdL (sliding PulseTotals.senseL b.history)
    slipR := slip cdR (sliding PulseTotals.senseR b.history)
    speedL := if k.valid then some (driveSpeed cdL k.dd) else none
    speedR := if k.valid then some (driveSpeed cdR k.dd) else none
    pedal := pedalAt s.pedal.ring d.stamp, time := d.stamp }

/-- R80: a faulted sum of BRAKE_L or BRAKE_R. -/
def Delivery.brakeFaulted (d : Delivery) : Bool :=
  d.brakeL.any Reading.faulted || d.brakeR.any Reading.faulted

/-! ## ZEROING, SPIN_UP and DRAG (R69 to R72) -/

/-- R71: entry into SPIN_UP. The running values and flags of the phase before, kept since its AXLE_DONE, are all cleared
here (DESIGN CHOICE, log entry 44). -/
def enterSpinUp (s : State) : State :=
  let b := s.brake
  let kind := match b.phase with
    | .service => TraceKind.service
    | .parking => TraceKind.parking
  let t := openTrace kind (b.vehicle.getD 0) b.axle s
  let s1 := t.2.onBrake fun b =>
    { b with run := Running.none, openTrace := t.1, spinUp := some (later s.now 5000), speedCount := 0 }
  enterState .spinUp (if drivesReady s then setRun true s1 else s1)

/-- R69: a side's phase zero and substitution mark. -/
def phaseZero (r : Option Reading) (sum : Nat) (s : State) : Nat × Bool :=
  let z := zeroMean sum
  match r.bind (fun x => calibration s x.channel) with
  | none => (z, false)
  | some (zcal, _) => if zeroFar z zcal then (zcal, true) else (z, false)

/-- The sum a reading delivers. -/
def readingSum (r : Option Reading) : Nat := (r.map Reading.sum).getD 0

/-- R69: a sample in ZEROING. -/
def zeroingSample (d : Delivery) (s : State) : State :=
  let s1 := s.onBrake fun b =>
    { b with zeroSumL := b.zeroSumL + readingSum d.brakeL, zeroSumR := b.zeroSumR + readingSum d.brakeR
             zeroCount := b.zeroCount + 1 }
  if s1.brake.zeroCount ≥ 16 then
    let l := phaseZero d.brakeL s1.brake.zeroSumL s
    let r := phaseZero d.brakeR s1.brake.zeroSumR s
    enterSpinUp (s1.onBrake fun b => { b with zeroL := l.1, zeroR := r.1, subL := l.2, subR := r.2 })
  else s1

/-- R72: entry into DRAG. -/
def enterDrag (s : State) : State :=
  enterState .drag (s.onBrake fun b =>
    { b with spinUp := none, dragCount := 0, run := { b.run with dragSumL := 0, dragSumR := 0 } })

/-- R71: a speed in band. -/
def speedOk (testSpeed : Nat) (v : Option Nat) : Bool := v.any (inBand testSpeed)

/-- R71: a sample in SPIN_UP. -/
def spinUpSample (x : BrakeSample) (s : State) : State :=
  let ts := s.cal.constants.testSpeed
  let n := if speedOk ts x.speedL && speedOk ts x.speedR then s.brake.speedCount + 1 else 0
  let s1 := s.onBrake fun b => { b with speedCount := n }
  if n ≥ 5 then enterDrag (raiseEvent .atSpeed s1) else s1

/-- R73: entry into BRAKING. -/
def enterBraking (s : State) : State :=
  enterState .braking (s.onBrake fun b =>
    { b with braking := some (later s.now 20000), slipRunL := 0, slipRunR := 0, held := [],
             releaseCount := 0,
             run := { b.run with maxL := 0, maxR := 0, maxLR := 0, imbalanceMax := none,
                                 pedalAtMax := none, pedalPartial := false } })

/-- R72: a sample joins the drag sums. -/
def Running.addDrag (r : Running) (x : BrakeSample) : Running :=
  { r with dragSumL := r.dragSumL + x.forceL.getD 0, dragSumR := r.dragSumR + x.forceR.getD 0,
           overrange := r.overrange || x.clampL || x.clampR }

/-- R96: the drags from the sums. -/
def Running.finishDrag (r : Running) : Running :=
  { r with dragL := dragOf r.dragSumL, dragR := dragOf r.dragSumR }

/-- R72: a sample in DRAG. -/
def dragSample (x : BrakeSample) (s : State) : State :=
  let s1 := s.onBrake fun b => { b with dragCount := b.dragCount + 1, run := b.run.addDrag x }
  if s1.brake.dragCount ≥ 200 then
    enterBraking (raiseEvent .dragDone (s1.onBrake fun b => { b with run := b.run.finishDrag }))
  else s1

/-! ## BRAKING (R73, R74) -/

/-- L + R of a sample. -/
def BrakeSample.both (x : BrakeSample) : Nat := x.forceL.getD 0 + x.forceR.getD 0

/-- R73 step 2: a sample folded into the running values. -/
def Running.fold (floor : Nat) (r : Running) (x : BrakeSample) : Running :=
  let l := x.forceL.getD 0
  let q := x.forceR.getD 0
  { r with maxL := max r.maxL l, maxR := max r.maxR q,
           overrange := r.overrange || x.clampL || x.clampR,
           maxLR := max r.maxLR (l + q),
           pedalAtMax := if r.maxLR < l + q then x.pedal else r.pedalAtMax,
           imbalanceMax := raise r.imbalanceMax (imbalance floor l q),
           pedalPartial := r.pedalPartial || x.pedal.isNone }

/-- `t` is no later than `start`, by the signed difference. -/
def noLater (t start : LaneTime) : Bool := !(start - t).msb

/-- R73 step 2: a sample is folded once it is no later than the start of every run above 0. -/
def BrakeStation.foldable (b : BrakeStation) (x : BrakeSample) : Bool :=
  (b.slipRunL == 0 || noLater x.time b.slipStartL) && (b.slipRunR == 0 || noLater x.time b.slipStartR)

/-- R73 step 1: a side's run after a sample. -/
def nextRun (limit slip run : Nat) : Nat := if limit ≤ slip then run + 1 else 0

/-- R73 step 1: both runs and their starts. -/
def BrakeStation.runs (b : BrakeStation) (x : BrakeSample) : BrakeStation :=
  let l := nextRun b.slipLimit x.slipL b.slipRunL
  let r := nextRun b.slipLimit x.slipR b.slipRunR
  { b with slipRunL := l, slipRunR := r,
           slipStartL := if l = 1 then x.time else b.slipStartL,
           slipStartR := if r = 1 then x.time else b.slipStartR }

/-- R73 step 2: the present sample and the held ones that may be folded, in order of time. -/
def BrakeStation.foldSamples (b : BrakeStation) (x : BrakeSample) : BrakeStation :=
  let all := b.held ++ [x]
  { b with run := (all.filter b.foldable).foldl (Running.fold b.imbFloor) b.run,
           held := all.filter (fun y => !b.foldable y) }

/-- R73 step 3: the release count after a sample. -/
def releaseAfter (maxLR both count : Nat) : Nat := if 200 ≤ maxLR && 2 * both < maxLR then count + 1 else 0

/-- R74: the phase in BRAKING ends. -/
def endBraking (c : EndCause) (ev : Option GEvent) (s : State) : State :=
  let s1 := match ev with
    | some e => raiseEvent e s
    | none => s
  enterState .stopping ((setRun false s1).onBrake fun b =>
    { b with braking := none, held := [], run := { b.run with endCause := some c },
             stopCount := 0, stop := some (later s.now 5000) })

/-- R74: the cause of a slip stop: the side that reached 3, the earlier start when both did. -/
def slipCause (b : BrakeStation) : EndCause :=
  if b.slipRunL ≥ 3 && b.slipRunR ≥ 3 then
    (if noLater b.slipStartL b.slipStartR then .slipStopL else .slipStopR)
  else if b.slipRunL ≥ 3 then .slipStopL
  else .slipStopR

/-- R73: a sample in BRAKING. -/
def brakingSample (x : BrakeSample) (s : State) : State :=
  let s1 := s.onBrake fun b => b.runs x
  if s1.brake.slipRunL ≥ 3 || s1.brake.slipRunR ≥ 3 then endBraking (slipCause s1.brake) (some .slipStop) s1
  else
    let s2 := s1.onBrake fun b => b.foldSamples x
    let n := releaseAfter s2.brake.run.maxLR x.both s2.brake.releaseCount
    let s3 := s2.onBrake fun b => { b with releaseCount := n }
    if n ≥ 100 then endBraking .release (some .released) s3 else s3

/-! ## STOPPING and AXLE_DONE (R75, R76) -/

/-- The open phase trace carries TRUNCATED. -/
def traceTruncated (trace : Option Nat) (s : State) : Bool :=
  (trace.bind s.traces.find).any Descriptor.truncated

/-- R76 step 1: the result of the phase. -/
def axleResult (s : State) : AxleResult :=
  let b := s.brake
  { maxL := b.run.maxL, maxR := b.run.maxR, dragL := b.run.dragL, dragR := b.run.dragR,
    imbalanceMax := b.run.imbalanceMax, pedalAtMax := b.run.pedalAtMax,
    endCause := b.run.endCause.getD .timeout, completed := s.now, zeroSubstituted := b.subL || b.subR,
    overrange := b.run.overrange, traceTruncated := traceTruncated b.openTrace s,
    noTrace := b.openTrace.isNone, pedalPartial := b.run.pedalPartial, traceId := b.openTrace }

/-- R76 step 1: a result put into the axle entry by the phase. -/
def Axle.withResult (a : Axle) (ph : Phase) (r : AxleResult) : Axle :=
  match ph with
  | .service => { a with service := some r }
  | .parking => { a with parkingResult := some r }

/-- R76 step 2: the open phase trace closed as accepted. -/
def closePhaseTrace (s : State) : State :=
  match s.brake.openTrace with
  | none => s
  | some id => (closeTrace id true s).2.onBrake fun b => { b with openTrace := none }

/-- R76 steps 1 to 3. -/
def writeResult (v n : Nat) (s : State) : State :=
  let r := axleResult s
  let s1 := evaluateLeaving (writeAxle v n (fun a => a.withResult s.brake.phase r) s)
  raiseEvent .axleDone (noticeTested none (some r) (closePhaseTrace s1))

/-- R76, R84: the vehicle left the queue between two states. -/
def leftBetween (v : Nat) (s s' : State) : Bool := s.vt.queue.contains v && !s'.vt.queue.contains v

/-- R76, R84: the test of VEHICLE_DONE on a record still in the lane. -/
def listTested (r : Record) : Bool :=
  testDone r && (r.entryDone || r.expected.any (fun n => decide (n ≤ r.axles.length)))

/-- R76, R84: VEHICLE_DONE is raised when the vehicle left the queue or its list is tested. -/
def raiseVehicleDone (v : Nat) (before : State) (s : State) : State :=
  if leftBetween v before s || listTested (s.record v) then raiseEvent .vehicleDone s else s

/-- R76 step 4: the axle goes straight on to its parking phase. -/
def Axle.parkingNext (a : Axle) (ph : Phase) : Bool := ph == .service && a.parking && a.skip.isNone

/-- R76: AXLE_DONE. -/
def axleDone (s : State) : State :=
  match currentAxle s with
  | none => enterWaitClear s
  | some (v, n) =>
    let s1 := writeResult v n (enterState .axleDone s)
    if (s1.axleOf v n).parkingNext s.brake.phase then
      enterSpinUp (s1.onBrake fun b => { b with phase := .parking })
    else raiseVehicleDone v s (enterWaitClear s1)

/-- R75: the drive totals of a window are both 0. -/
def PulseTotals.still (t : PulseTotals) : Bool := t.driveL == 0 && t.driveR == 0

/-- R75: a sample in STOPPING. -/
def stoppingSample (d : Delivery) (s : State) : State :=
  let n := if d.totals.still then s.brake.stopCount + 1 else 0
  let s1 := s.onBrake fun b => { b with stopCount := n }
  if n ≥ 50 then axleDone (s1.onBrake fun b => { b with stop := none }) else s1

/-- R75: the stop expiry. -/
def stopExpired (s : State) : State :=
  if s.brake.state == .stopping && s.due s.brake.stop then
    match currentAxle s with
    | none => enterFault .rollerStopTimeout s
    | some (v, n) => enterFault .rollerStopTimeout (writeResult v n s)
  else s

/-! ## The window end (R64) -/

/-- R64, R80: the station acts on a sample as its state requires. -/
def actOnSample (d : Delivery) (x : BrakeSample) (s : State) : State :=
  match s.brake.state with
  | .zeroing => if d.brakeFaulted then enterFault .sensorFault s else zeroingSample d s
  | .spinUp => if d.brakeFaulted then enterFault .sensorFault s else spinUpSample x s
  | .drag => if d.brakeFaulted then enterFault .sensorFault s else dragSample x s
  | .braking => if d.brakeFaulted then enterFault .sensorFault s else brakingSample x s
  | .stopping => stoppingSample d s
  | .idle | .waitWheels | .waitAxleRecord | .axleDone | .waitClear | .fault => s

/-- R87, R193: the live frame of the brake station. Its phase is absent without a current axle, where GET_STATUS BRAKE
tells the phase held (DESIGN CHOICE, log entry 45). -/
def liveBrake (x : BrakeSample) (s : State) : State :=
  if s.port.brakeDivider = 0 || s.brake.state == .idle then s
  else if s.port.brakeLiveCount + 1 ≥ s.port.brakeDivider then
    let b := s.brake
    s.onPort fun p =>
      { p with brakeLiveCount := 0
               live := some (.brake b.state b.vehicle b.axle (if b.axle.isSome then some b.phase else none) x) }
  else s.onPort fun p => { p with brakeLiveCount := p.brakeLiveCount + 1 }

/-- R82, R91, R143: a brake sample as a trace stores it: the five fields and the clamp notes (log entry 46). -/
def BrakeSample.stored (x : BrakeSample) : TraceSample :=
  .brake x.forceL x.forceR x.slipL x.slipR x.pedal x.clampL x.clampR

/-- R64, R82: the sample appended to the open phase trace. -/
def recordBrakeSample (x : BrakeSample) (s : State) : State :=
  if s.brake.state.onPhaseZero then appendSample s.brake.openTrace x.stored x.time s else s

/-- R64: the station takes a window end; its sample values reach Guidance last (R126). -/
def brakeWindow (d : Delivery) (s : State) : State :=
  let s1 := s.onBrake fun b => { b with history := d.totals :: b.history.take 9 }
  let x := brakeSample d s1
  let s2 := s1.onBrake fun b => { b with lastSample := some x }
  hand .brakeSample (actOnSample d x (recordBrakeSample x (liveBrake x s2)))

/-! ## Expiries and edges (R66, R70, R71, R74, R77, R79, R80) -/

/-- R71: the spin-up expiry. -/
def spinUpExpired (s : State) : State :=
  if s.brake.state == .spinUp && s.due s.brake.spinUp then enterFault .spinUpTimeout s else s

/-- R74: the braking expiry. -/
def brakingExpired (s : State) : State :=
  if s.brake.state == .braking && s.due s.brake.braking then endBraking .timeout none s else s

/-- R77: the clear expiry. -/
def clearExpired (s : State) : State :=
  if s.brake.state == .waitClear && s.due s.brake.clear then
    takeHead (dropAxle (s.onBrake fun b => { b with clear := none }))
  else s

/-- R66, R77: an active edge of a wheel input with its stamp. -/
def wheelCame (side : Side) (stamp : LaneTime) (s : State) : State :=
  match s.brake.state with
  | .waitWheels =>
    if inputActive (wheelFn (Side.other side)) s && s.brake.presence.isNone then
      s.onBrake fun b => { b with presence := some (later stamp 2000) }
    else s
  | .waitClear => s.onBrake fun b => { b with clear := none }
  | .idle | .waitAxleRecord | .zeroing | .spinUp | .drag | .braking | .stopping | .axleDone | .fault => s

/-- R79: a wheel lost during an attempt. -/
def wheelsLost (s : State) : State := enterWaitClear (raiseEvent .wheelsLost (abortAttempt .wheelsLost s))

/-- R66, R67, R77, R79: an inactive edge of a wheel input with its stamp. -/
def wheelWent (side : Side) (stamp : LaneTime) (s : State) : State :=
  match s.brake.state with
  | .waitWheels => s.onBrake fun b => { b with presence := none }
  | .waitAxleRecord => enterWaitWheels s
  | .waitClear =>
    if inputActive (wheelFn (Side.other side)) s then s
    else s.onBrake fun b => { b with clear := some (later stamp 1000) }
  | .zeroing | .spinUp | .drag | .braking | .stopping => wheelsLost s
  | .idle | .axleDone | .fault => s

/-- R70: an active edge of a drive-ready input. -/
def driveCame (s : State) : State :=
  if s.brake.state == .spinUp && !s.sig.outputs.runL && drivesReady s then setRun true s else s

/-- R70: an inactive edge of a drive-ready input. -/
def driveWent (s : State) : State := if s.sig.outputs.runL then enterFault .driveNotReady s else s

/-- R80: an active edge of ESTOP. -/
def estopCame (s : State) : State := enterFault .estop s

/-! ## Station requests (R81, R83 to R85, R21) -/

/-- R83: MARK_PARKING. -/
def markParking (s : State) : State :=
  match currentAxle s with
  | none => s
  | some (v, n) =>
    if (s.brake.state.attempt || s.brake.state == .fault) && !(s.axleOf v n).parking then
      writeAxle v n (fun a => { a with parking := true }) s
    else s

/-- R83: END_AXLE. -/
def endAxle (s : State) : State :=
  if s.brake.state == .braking then endBraking .guidanceEnd none s else s

/-- R84: the axle in hand that may be skipped. -/
def skippable (s : State) : Option (Nat × Nat) :=
  match s.brake.vehicle, axleInHand s with
  | some v, some n =>
    if (s.axleOf v n).finished || (s.axleOf v n).skip.isSome then none else some (v, n)
  | _, _ => none

/-- R84: an axle is skipped. -/
def skipAxle (c : SkipCause) (v n : Nat) (s : State) : State :=
  let marked := fun t => evaluateLeaving (markSkipped v n c t)
  let s1 := if s.brake.state.attempt then enterWaitClear (marked (abortAttempt .skipped s)) else marked s
  raiseVehicleDone v s s1

/-- R84: SKIP_AXLE from Guidance: ignored when no axle in hand may be skipped. -/
def guidanceSkip (s : State) : State :=
  match skippable s with
  | none => s
  | some (v, n) => skipAxle .guidance v n s

/-- R84: SKIP_AXLE from the host. -/
def hostSkip (s : State) : Handled :=
  match skippable s with
  | none => refuse .state s
  | some (v, n) => accept (skipAxle .host v n s)

/-- R85, R21: the head is released. -/
def carryRelease (s : State) : State :=
  releaseHead (if s.brake.state.attempt && s.brake.vehicle == s.vt.queue.head? then
    enterWaitClear (abortAttempt .released s) else s)

/-- R21: RELEASE_VEHICLE from Guidance. -/
def guidanceRelease (s : State) : State := if releasable s then carryRelease s else s

/-- R21: RELEASE_VEHICLE from the host. -/
def hostRelease (s : State) : Handled := if releasable s then accept (carryRelease s) else refuse .state s

/-- R81: ACK_FAULT. R132's "after ACK_FAULT the flag is no longer set" is read of the flags that step entries set from then
on: a STATION_FAULT flag that the step in hand already has stays until the next entry clears it (R127, R128; DESIGN CHOICE,
log entry 54). -/
def ackFault (s : State) : Handled :=
  if s.brake.state != .fault || inputActive .estop s then refuse .state s
  else
    let s1 := dropAxle (s.onBrake fun b => { b with cause := none })
    accept (takeHead (noticeFault (s.brake.cause.getD .estop) false s1))

/-! ## RESTART and reports (R87, R88) -/

/-- R88: the station on RESTART. Its return to IDLE is taken before Guidance's entry, which would clear a BRAKE_FREE, so
none is raised (R86, R140; DESIGN CHOICE, log entry 42). -/
def restartBrake (s : State) : State :=
  let s1 := abortTrace s.brake.openTrace (setRun false s)
  let s2 := s1.onBrake fun b =>
    { b.discarded with
        state := .idle, presence := none, spinUp := none, braking := none, stop := none, clear := none,
        cause := none, vehicle := none, axle := none, lastSample := none, openTrace := none,
        history := List.replicate 10 PulseTotals.zero }
  noticeBrake s2

/-- R62: a slip run's start sample, named by its lane time (DESIGN CHOICE, log entry 45); none while the run is 0. -/
def runStart (run : Nat) (start : LaneTime) : Option LaneTime := if run = 0 then none else some start

/-- R87: GET_STATUS BRAKE. The phase is the one held, also without a current axle, and all running values are reported,
those that R62 does not list among them (DESIGN CHOICE, log entry 45). -/
def brakeReport (s : State) : BrakeReport :=
  let b := s.brake
  { state := b.state, slot := b.vehicle, axle := b.axle
    phase := b.phase
    zeroL := b.zeroL, zeroR := b.zeroR, subL := b.subL, subR := b.subR, run := b.run
    slipRunL := b.slipRunL, slipStartL := runStart b.slipRunL b.slipStartL
    slipRunR := b.slipRunR, slipStartR := runStart b.slipRunR b.slipStartR
    held := b.held.length, release := b.releaseCount
    speed := b.speedCount, stop := b.stopCount, drag := b.dragCount
    expiries := [b.presence, b.spinUp, b.braking, b.stop, b.clear], cause := b.cause
    openTrace := b.openTrace, last := b.lastSample, runL := s.sig.outputs.runL, runR := s.sig.outputs.runR }

end Sys2Proof.Machine
end

