-- ==== Sys2Proof/Machine/CalStore.lean ====
section
/-! DEFINITION. The Calibration Store (chapter 10): records as pages, autoload, the write queue, CAL_READ,
CAL_WRITE, collections and SET_COUNTER. The report of a commit to the Certificate Unit is in
Machine/Certificates.lean. -/

namespace Sys2Proof.Machine

/-! ## Numbers as bytes, least significant first (R199, R204) -/

/-- `w` bytes of a number, least significant first. -/
def leBytes : (w : Nat) → Nat → List Byte
  | 0, _ => []
  | w + 1, n => BitVec.ofNat 8 n :: leBytes w (n / 256)

/-- The number of some bytes, least significant first. -/
def leNat : List Byte → Nat
  | [] => 0
  | b :: bs => b.toNat + 256 * leNat bs

/-- An optional number in `w` bytes: all ones when absent (R199). -/
def optBytes (w : Nat) : Option Nat → List Byte
  | some n => leBytes w n
  | none => List.replicate w 0xFF

/-- An optional number read from its bytes. -/
def optNat (bs : List Byte) : Option Nat := if bs.all (· == 0xFF) then none else some (leNat bs)

/-! ## Pages (R204) -/

/-- R204: the fields of a record as its page holds them. -/
def StoredValues.fields : StoredValues → List Byte
  | .header => [0x5A, 0x4C, 0x01]
  | .counter v => leBytes 4 v
  | .constants dd ds plate sp => leBytes 2 dd ++ leBytes 2 ds ++ leBytes 2 plate ++ leBytes 2 sp
  | .channel z g valid => optBytes 2 z ++ optBytes 3 g ++ [if valid then 1 else 0]

/-- R204: a page's first 31 bytes: the fields, then FFh. -/
def padded (fields : List Byte) : List Byte := (fields ++ List.replicate 31 0xFF).take 31

/-- R204: a record's page. -/
def StoredValues.page (v : StoredValues) : List Byte :=
  let b := padded v.fields
  b ++ [crc8 b]

/-- R204: the page of a counter copy. -/
def copyPage : Copy → Nat
  | .a => 1
  | .b => 2

def Copy.other : Copy → Copy
  | .a => .b
  | .b => .a

/-- R181, R185, R204: where an entry's write goes. -/
def WriteEntry.page (c : CalStore) : WriteEntry → Nat
  | .header => 0
  | .commit | .setCounter _ => copyPage (Copy.other c.current)
  | .constants => 3
  | .channel n => 4 + n

/-- R181: the values an entry's write takes when it begins. -/
def WriteEntry.values (c : CalStore) : WriteEntry → StoredValues
  | .header => .header
  | .commit => .counter (c.counter + 1)
  | .setCounter v => .counter v
  | .constants => .constants c.constants.dd c.constants.ds c.constants.plate c.constants.testSpeed
  | .channel n =>
    let r := c.channels.getD n ChannelCal.bad
    .channel r.zcal r.gain r.valid

/-- The record an entry names. -/
def WriteEntry.record : WriteEntry → StoreRecord
  | .header => .header
  | .commit | .setCounter _ => .counter
  | .constants => .constants
  | .channel n => .channel n

/-! ## The state (R177, R178) -/

/-- The copy of a name. -/
def CalStore.copy (c : CalStore) : Copy → CounterCopy
  | .a => c.copyA
  | .b => c.copyB

/-- A counter copy replaced. -/
def CalStore.setCopy (c : CalStore) (k : Copy) (v : CounterCopy) : CalStore :=
  match k with
  | .a => { c with copyA := v }
  | .b => { c with copyB := v }

/-- R177: the counter record is stored when its current copy holds the counter. -/
def CalStore.counterStored (c : CalStore) : Bool :=
  (c.copy c.current).stored && (c.copy c.current).value == c.counter

/-- R178: the state that follows from the image once autoload has ended. -/
def CalStore.stateOf (c : CalStore) : StoreState :=
  if !c.headerStored then .absent
  else if c.counterStored && c.constants.stored && c.channels.all ChannelCal.stored then .ready
  else .degraded

/-- R178: the state worked out anew. -/
def CalStore.settled (c : CalStore) : CalStore := { c with state := c.stateOf }

/-! ## Autoload (R179, R180) -/

/-- The cause of a page that cannot be used, or the number of its bytes' record. -/
inductive PageRead where
  | bad (cause : StoreCause)
  | good (bytes : List Byte)

/-- R179: a page read: acknowledged, and its CRC matches. -/
def readPage (m : Eeprom) (nacks : List Nat) (p : Nat) : PageRead :=
  if nacks.contains p then .bad .noAnswer
  else if crc8 ((m.page p).take 31) == (m.page p).getD 31 0 then .good (m.page p)
  else .bad .crc

/-- R179: the header's outcome; none when it is good. -/
def headerFault (m : Eeprom) (nacks : List Nat) : Option StoreCause :=
  match readPage m nacks 0 with
  | .bad .noAnswer => some .noAnswer
  | .bad _ => some .headerCrc
  | .good b =>
    if b.take 2 != [0x5A, 0x4C] then some .signature
    else if b.getD 2 0 != 0x01 then some .format
    else none

/-- Bytes `i` to `i + n - 1` of a page. -/
def field (b : List Byte) (i n : Nat) : List Byte := (b.drop i).take n

/-- R179: a counter copy read. A bad one holds 0, of which R179 and R180 say nothing (DESIGN CHOICE, log entry 55). -/
def loadCopy (m : Eeprom) (nacks : List Nat) (p : Nat) : CounterCopy × Option StoreCause :=
  match readPage m nacks p with
  | .bad c => ({ value := 0, stored := false }, some c)
  | .good b => ({ value := leNat (field b 0 4), stored := true }, none)

/-- R179: the lane constants read. -/
def loadConstants (m : Eeprom) (nacks : List Nat) : LaneConstants × Option StoreCause :=
  match readPage m nacks 3 with
  | .bad c => (LaneConstants.invalid, some c)
  | .good b =>
    let dd := leNat (field b 0 2)
    let ds := leNat (field b 2 2)
    let plate := leNat (field b 4 2)
    let sp := leNat (field b 6 2)
    if constantsOk dd ds plate sp then
      ({ dd := dd, ds := ds, plate := plate, testSpeed := sp, valid := true, stored := true }, none)
    else (LaneConstants.invalid, some .range)

/-- R179: a channel record read. -/
def loadChannel (m : Eeprom) (nacks : List Nat) (n : Nat) : ChannelCal × Option StoreCause :=
  match readPage m nacks (4 + n) with
  | .bad c => (ChannelCal.bad, some c)
  | .good b =>
    let z := optNat (field b 0 2)
    let g := optNat (field b 2 3)
    let v := (b.getD 5 0).toNat
    if channelCalOk z g v then ({ zcal := z, gain := g, valid := v == 1, stored := true }, none)
    else (ChannelCal.bad, some .range)

/-- R180: the counter chosen from the two copies: value, available, current. -/
def chooseCounter (a b : CounterCopy) : Nat × Bool × Copy :=
  match a.stored, b.stored with
  | true, true => if b.value ≤ a.value then (a.value, true, .a) else (b.value, true, .b)
  | true, false => (a.value, true, .a)
  | false, true => (b.value, true, .b)
  | false, false => (0, false, .b)

/-- R179: STORE_FAULT. -/
def noticeStoreFault (r : StoreRecord) (c : StoreCause) (s : State) : State :=
  sendNotice (.storeFault r c s.cal.state s.now) s

/-- R179, R180: the records that are bad, in the order in which their STORE_FAULT notices are made: that of the reads, which
R179 gives for the reads only (DESIGN CHOICE, log entry 42); the counter once, with copy A's cause (log entry 13). -/
def badRecords (a b k : Option StoreCause) (chs : List (Option StoreCause)) : List (StoreRecord × StoreCause) :=
  (match a, b with
    | some c, some _ => [(StoreRecord.counter, c)]
    | _, _ => [])
  ++ (k.map (fun c => (StoreRecord.constants, c))).toList
  ++ chs.zipIdx.filterMap (fun p => p.1.map (fun c => (StoreRecord.channel p.2, c)))

/-- R179: the end of autoload with the pages that gave no answer. -/
def endAutoload (nacks : List Nat) (s : State) : State :=
  if s.cal.state != .loading then s
  else
    match headerFault s.eeprom nacks with
    | some c =>
      noticeStoreFault .header c (s.onCal fun k =>
        CalStore.settled { k with headerStored := false, copyA := { value := 0, stored := false },
                                  copyB := { value := 0, stored := false }, counter := 0,
                                  available := false, current := .b, constants := LaneConstants.invalid,
                                  channels := List.replicate 16 ChannelCal.bad })
    | none =>
      let a := loadCopy s.eeprom nacks 1
      let b := loadCopy s.eeprom nacks 2
      let k := loadConstants s.eeprom nacks
      let chs := (List.range 16).map (loadChannel s.eeprom nacks)
      let n := chooseCounter a.1 b.1
      let s1 := s.onCal fun c =>
        CalStore.settled { c with headerStored := true, copyA := a.1, copyB := b.1, counter := n.1,
                                  available := n.2.1, current := n.2.2, constants := k.1,
                                  channels := chs.map Prod.fst }
      (badRecords a.2 b.2 k.2 (chs.map Prod.snd)).foldl (fun s r => noticeStoreFault r.1 r.2 s) s1

/-! ## The write queue (R181, R182, R185) -/

/-- R181: a HEADER entry would be added ahead of a host request's entry. -/
def CalStore.needsHeader (c : CalStore) : Bool := !c.headerStored && !c.queue.contains .header

/-- R181: the entries a host request would add, a header entry among them. -/
def CalStore.newEntries (c : CalStore) : Nat := if c.needsHeader then 2 else 1

/-- R181, R184: the places held by the collection in progress. -/
def CalStore.reserved (c : CalStore) : Nat :=
  match c.collection with
  | some k => k.places
  | none => 0

/-- R181: the queue has room for a host request's entry and its header. -/
def CalStore.hasRoom (c : CalStore) : Bool := decide (c.queue.length + c.reserved + c.newEntries ≤ 7)

/-- R181: an entry added for a host request, the HEADER ahead of it where one is due. -/
def CalStore.enqueue (c : CalStore) (e : WriteEntry) : CalStore :=
  { c with queue := c.queue ++ (if c.needsHeader then [.header] else []) ++ [e] }

/-- R185: the oldest entry is a commit that cannot be written. -/
def CalStore.commitFails (c : CalStore) : Bool :=
  c.queue.head? == some .commit && (!c.available || decide (4294967295 ≤ c.counter))

/-- R181: the oldest entry begins when no write is in progress. -/
def CalStore.beginWrite (now : LaneTime) (c : CalStore) : CalStore :=
  match c.writing, c.queue with
  | none, e :: _ =>
    if c.commitFails then c
    else { c with writing := some { page := e.page c, values := e.values c, began := now } }
  | _, _ => c

/-- R182: an acknowledge that comes at a lane time is within 10 ms of the end of the transfer, which lasts less than
1 ms (log entry 40). -/
def PageWrite.inTime (w : PageWrite) (now : LaneTime) : Bool := decide ((now - w.began).toNat ≤ 11)

/-- R182: 10 ms have passed since the transfer (log entry 40). -/
def PageWrite.timedOut (w : PageWrite) (now : LaneTime) : Bool := decide (10 ≤ (now - w.began).toNat)

/-- The counter copy a page holds. -/
def pageCopy (p : Nat) : Copy := if p = 1 then .a else .b

/-- The counter value of a write's values. -/
def StoredValues.counterValue : StoredValues → Nat
  | .counter v => v
  | .header | .constants _ _ _ _ | .channel _ _ _ => 0

/-- R182: what a success does to the image; `rest` is the queue behind the entry. -/
def CalStore.succeed (c : CalStore) (e : WriteEntry) (w : PageWrite) (rest : List WriteEntry) : CalStore :=
  match e with
  | .header => { c with headerStored := true }
  | .commit | .setCounter _ =>
    { c.setCopy (pageCopy w.page) { value := w.values.counterValue, stored := true } with
        counter := w.values.counterValue, available := true, current := pageCopy w.page }
  | .constants => { c with constants := { c.constants with stored := !rest.contains .constants } }
  | .channel n =>
    { c with channels := tableMod c.channels n (fun r => { r with stored := !rest.contains (.channel n) }) }

/-- R177, R182: what a failure does to the image. A counter copy whose write failed keeps its earlier value, with its stored mark
clear (DESIGN CHOICE, log entry 55). -/
def CalStore.fail (c : CalStore) (e : WriteEntry) (w : PageWrite) : CalStore :=
  match e with
  | .header => { c with headerStored := false }
  | .commit | .setCounter _ =>
    c.setCopy (pageCopy w.page) { c.copy (pageCopy w.page) with stored := false }
  | .constants => { c with constants := { c.constants with stored := false } }
  | .channel n => { c with channels := tableMod c.channels n (fun r => { r with stored := false }) }

/-- How a write ended. -/
inductive WriteOutcome where
  | success
  | failure (cause : StoreCause)

/-- R182: how EEPROM_WRITE_END ends the write in progress: a transfer that is not acknowledged fails with NO_ACK, an
acknowledge in time is a success, and one that comes too late finds the write failed with TIMEOUT. -/
def writeEnded (ack : Bool) (s : State) : WriteOutcome :=
  if !ack then .failure .noAck
  else if s.cal.writing.all (fun w => w.inTime s.now) then .success
  else .failure .timeout

/-- R180, R182: what a page holds after the `n`-th write that did not succeed: the values written, when the write reached
the EEPROM although the part took it as failed; else what it held, or a torn page (log entry 3). -/
def failedPage (n : Nat) (w : PageWrite) (m : Eeprom) : List Byte :=
  if Config.writeReached n then w.values.page
  else if Config.writeTouched n then tornPage n
  else m.page w.page

/-- R182: the end of the write in progress: the entry that ended, and the state; none when no write is in
progress. The page holds the values written, or after a failure what `failedPage` gives. -/
def endWrite (o : WriteOutcome) (s : State) : Option (Except Nat (WriteEntry × PageWrite × State)) :=
  match s.cal.writing, s.cal.queue with
  | some w, e :: rest =>
    match o with
    | .success =>
      match s.eeprom.writePage w.page w.values.page with
      | none => some (.error w.page)
      | some m =>
        let s1 := (s.setEeprom m).onCal fun c =>
          (({ c with writing := none, queue := rest } : CalStore).succeed e w rest).settled
        some (.ok (e, w, sendNotice (.calStored e.record w.values s1.cal.state s1.now) s1))
    | .failure cause =>
      match s.eeprom.writePage w.page (failedPage s.torn w s.eeprom) with
      | none => some (.error w.page)
      | some m =>
        let s1 := ((s.setEeprom m).setTorn (s.torn + 1)).onCal fun c =>
          (({ c with writing := none, queue := rest } : CalStore).fail e w).settled
        some (.ok (e, w, noticeStoreFault e.record cause s1))
  | _, _ => none

/-- R182: a reset during a write may leave the page torn. -/
def tornByReset (s : State) : State :=
  match s.cal.writing with
  | none => s
  | some w =>
    match s.eeprom.writePage w.page (failedPage s.torn w s.eeprom) with
    | none => s
    | some m => (s.setEeprom m).setTorn (s.torn + 1)

/-! ## Requests (R178, R183, R186) -/

/-- R178: a request refused while LOADING, ahead of its other checks. -/
def whenLoaded (s : State) (k : Handled) : Handled := if s.cal.state == .loading then refuse .notReady s else k

/-- R183: CAL_READ; targets HEADER 0, COUNTER 1, CONSTANTS 2, CHANNEL 3. A channel field that comes with another target
than CHANNEL is not looked at (log entry 48). -/
def calRead (target : Nat) (channel : Option Nat) (s : State) : Handled :=
  whenLoaded s <|
    match target, channel with
    | 0, _ => acceptWith (.calHeader s.cal.headerStored) s
    | 1, _ => acceptWith (.calCounter s.cal.counter s.cal.available s.cal.current s.cal.counterStored) s
    | 2, _ => acceptWith (.calConstants s.cal.constants) s
    | 3, some n =>
      match s.cal.channels[n]? with
      | some c => acceptWith (.calChannel c) s
      | none => refuse .badField s
    | _, _ => refuse .badField s

/-- R183, R184: the station owning a channel's function is not IDLE. -/
def channelBusy (n : Nat) (s : State) : Bool :=
  match ownerOf (s.sig.channels.getD n Channel.reset).fn with
  | some st => !stationIdle st s
  | none => false

/-- R184: a collection in progress on a channel. -/
def collectingOn (n : Nat) (s : State) : Bool := s.cal.collection.any (fun c => c.channel == n)

/-- R183: a channel record set in the image, its write queued. -/
def CalStore.writeChannel (c : CalStore) (n : Nat) (f : ChannelCal → ChannelCal) : CalStore :=
  CalStore.enqueue { c with channels := tableMod c.channels n (fun r => { f r with stored := false }) }
    (.channel n)

/-- R183: CAL_WRITE; targets CHANNEL 0, CONSTANTS 1. A channel field that comes with CONSTANTS is not looked at (log
entry 48). -/
def calWrite (target : Nat) (channel : Option Nat) (content : RawCal) (s : State) : Handled :=
  whenLoaded s <|
    match target, channel, content with
    | 0, some n, .channel z g v =>
      if !channelOk n || !channelCalOk z g v then refuse .badField s
      else if collectingOn n s || channelBusy n s || !s.cal.hasRoom then refuse .busy s
      else accept (s.onCal fun c =>
        c.writeChannel n (fun r => { r with zcal := z, gain := g, valid := v == 1 }))
    | 1, _, .constants dd ds plate sp =>
      if !constantsOk dd ds plate sp then refuse .badField s
      else if !stationIdle .entry s || !stationIdle .brake s || !s.cal.hasRoom then refuse .busy s
      else accept (s.onCal fun c =>
        CalStore.enqueue { c with constants := { dd := dd, ds := ds, plate := plate, testSpeed := sp,
                                                 valid := true, stored := false } } .constants)
    | _, _, _ => refuse .badField s

/-- A counter entry is in the queue. -/
def CalStore.counterQueued (c : CalStore) : Bool :=
  c.queue.any (fun e => match e with
    | .commit | .setCounter _ => true
    | .header | .constants | .channel _ => false)

/-- R186: SET_COUNTER. -/
def setCounter (v : Nat) (s : State) : Handled :=
  whenLoaded s <|
    if 4294967295 < v then refuse .badField s
    else if s.cal.counterQueued || !s.cal.hasRoom then refuse .busy s
    else if s.cal.available && decide (v ≤ s.cal.counter) then refuse .state s
    else accept (s.onCal fun c => c.enqueue (.setCounter v))

/-! ## Collections (R184, R101) -/

/-- The request kinds of CAL_ZERO and CAL_SPAN. -/
def CollectionKind.code : CollectionKind → Nat
  | .zero => 0x1D
  | .span _ => 0x1E

/-- A collection begins; its reply is withheld. -/
def beginCollection (n tag : Nat) (k : CollectionKind) (s : State) : Handled :=
  if s.cal.collection.isSome || channelBusy n s || !s.cal.hasRoom then refuse .busy s
  else
    { reply := none
      state := s.onCal fun c =>
        { c with collection := some { channel := n, kind := k, tag := tag, count := 0, total := 0,
                                      places := c.newEntries } } }

/-- R184: CAL_ZERO. -/
def calZero (tag n : Nat) (s : State) : Handled :=
  whenLoaded s <| if !channelOk n then refuse .badField s else beginCollection n tag .zero s

/-- The record of a channel in the image. -/
def CalStore.channel (c : CalStore) (n : Nat) : ChannelCal := c.channels.getD n ChannelCal.bad

/-- R184: CAL_SPAN. -/
def calSpan (tag n reference : Nat) (s : State) : Handled :=
  whenLoaded s <|
    if !channelOk n || reference = 0 || 65535 < reference then refuse .badField s
    else if (s.cal.channel n).zcal.isNone then refuse .state s
    else beginCollection n tag (.span reference) s

/-- A collection ends with its reply; its places are released. -/
def endCollection (c : Collection) (st : Status) (b : ReplyBody) (s : State) : State :=
  postReply c.kind.code c.tag st b (s.onCal fun k => { k with collection := none })

/-- R184: a collection is abandoned with BUSY. -/
def abandonCollection (s : State) : State :=
  match s.cal.collection with
  | none => s
  | some c => endCollection c .busy .none s

/-- R184: what a full collection of total `t` gives: a zero or a gain, none when it is refused. -/
def collectionResult (c : Collection) (t : Nat) (r : ChannelCal) : Option (ReplyBody × (ChannelCal → ChannelCal)) :=
  match c.kind with
  | .zero =>
    let z := roundDiv t 64
    if z = 0 || 16380 ≤ z then none else some (.zero z, fun r => { r with zcal := some z })
  | .span reference =>
    match r.zcal with
    | none => none
    | some z =>
      match spanGain reference t z with
      | none => none
      | some g => some (.gain g, fun r => { r with gain := some g, valid := true })

/-- R184: the 64th sum: the result is worked out and its write queued in the place held. -/
def finishCollection (c : Collection) (t : Nat) (s : State) : State :=
  match collectionResult c t (s.cal.channel c.channel) with
  | none => endCollection c .badField .none s
  | some (body, f) =>
    endCollection c .ok body (s.onCal fun k =>
      ({ k with collection := none } : CalStore).writeChannel c.channel f)

/-- R184: the collection takes the window's sum of its channel. -/
def collectSum (s : State) : State :=
  match s.cal.collection with
  | none => s
  | some c =>
    let ch := s.sig.channels.getD c.channel Channel.reset
    if ch.lastFaulted then endCollection c .state .none s
    else if c.count + 1 ≥ 64 then finishCollection c (c.total + ch.lastSum) s
    else s.onCal fun k =>
      { k with collection := some { c with count := c.count + 1, total := c.total + ch.lastSum } }

/-- R184: the collection is abandoned once its channel's station is not IDLE. Its BUSY stands behind the reply of the
request that brought this about (DESIGN CHOICE, log entry 42). -/
def guardCollection (s : State) : State :=
  match s.cal.collection with
  | none => s
  | some c => if channelBusy c.channel s then endCollection c .busy .none s else s

/-- R178: GET_STATUS STORE. -/
def storeReport (s : State) : StoreReport :=
  let c := s.cal
  { state := c.state, header := c.headerStored, copyA := c.copyA.stored, copyB := c.copyB.stored
    constants := c.constants.stored, channels := c.channels.map ChannelCal.stored, counter := c.counter
    available := c.available, current := c.current, queue := c.queue, writing := c.writing.isSome
    collection := c.collection }

end Sys2Proof.Machine
end

