-- ==== Sys2Proof/Machine/Printing.lean ====
section
/-! DEFINITION. What a certificate prints (R166 to R168): the text lines, the brake curves, and the plan of a
pass. -/

namespace Sys2Proof.Machine

/-! ## Text (R166; spacing and dashes: log entry 14) -/

/-- The codes of a string's characters. -/
def txt (s : String) : Text := s.toList.map Char.toNat

/-- The decimal digits of a number, most significant first, before `acc`. -/
def digitsFrom : (fuel : Nat) → Nat → Text → Text
  | 0, _, acc => acc
  | f + 1, n, acc => if n < 10 then (48 + n) :: acc else digitsFrom f (n / 10) ((48 + n % 10) :: acc)

/-- R166: a number in decimal without leading zeros. -/
def dec (n : Nat) : Text := digitsFrom 20 n []

/-- A number in decimal with `w` digits. -/
def decW (w n : Nat) : Text := List.replicate (w - (dec n).length) 48 ++ dec n

/-- R166: an absent value is one dash. -/
def decOpt : Option Nat → Text
  | some n => dec n
  | none => [45]

/-- A value in tenths with one decimal. -/
def tenths (n : Nat) : Text := dec (n / 10) ++ 46 :: dec (n % 10)

/-- R167: a side-slip in m/km with one decimal and a sign. -/
def slipText : Option Int → Text
  | none => [45]
  | some v => (if v < 0 then [45] else if 0 < v then [43] else []) ++ tenths v.natAbs

/-- Two texts with a slash between. -/
def slash (a b : Text) : Text := a ++ 47 :: b

/-- Words joined by single spaces, empty words left out. -/
def joinWords : List Text → Text
  | [] => []
  | w :: ws =>
    let rest := joinWords ws
    if w.isEmpty then rest else if rest.isEmpty then w else w ++ 32 :: rest

/-- The letters of the flags that are set. -/
def letters (fs : List (Bool × Char)) : Text := (fs.filter Prod.fst).map (fun p => p.2.toNat)

/-- A LINE frame of words in style NORMAL. -/
def normal (ws : List Text) : PrinterFrame := .line .normal (joinWords ws)

/-- R166: a date-time as YYYY-MM-DD HH:MM:SS. -/
def dateText (d : DateTime) : Text :=
  decW 4 d.year ++ 45 :: decW 2 d.month ++ 45 :: decW 2 d.day ++ 32 :: decW 2 d.hour ++ 58 :: decW 2 d.minute
    ++ 58 :: decW 2 d.second

/-! ## Axle lines (R167) -/

def endCauseText : EndCause → Text
  | .slipStopL => txt "SL"
  | .slipStopR => txt "SR"
  | .release => txt "RL"
  | .timeout => txt "TO"
  | .guidanceEnd => txt "GE"

def skipCauseText : SkipCause → Text
  | .guidance => txt "GUIDANCE"
  | .host => txt "HOST"
  | .notTested => txt "NOT_TESTED"
  | .missing => txt "MISSING"

def verdictLetter : Verdict → Text
  | .pass => txt "P"
  | .fail => txt "F"
  | .notTested => txt "N"

def verdictWord : Verdict → Text
  | .pass => txt "PASS"
  | .fail => txt "FAIL"
  | .notTested => txt "NOT TESTED"

def overallWord : Overall → Text
  | .pass => txt "PASS"
  | .fail => txt "FAIL"
  | .incomplete => txt "INCOMPLETE"

/-- R167: the axle line. -/
def axleLine (n : Nat) (a : Axle) : PrinterFrame :=
  normal [txt "AXLE", dec n, txt "W", slash (decOpt a.weightL) (decOpt a.weightR), txt "SS", slipText a.sideSlip,
          letters [(a.unsettled, 'U'), (a.overrange, 'O'), (a.addedAtRollers, 'A')]]

/-- R167: a service or parking line, beginning with S or P. -/
def resultLine (head : Text) (r : Option AxleResult) : PrinterFrame :=
  match r with
  | none => normal [head, txt "NOT TESTED"]
  | some r =>
    normal [head, slash (dec r.maxL) (dec r.maxR), txt "D", slash (dec r.dragL) (dec r.dragR), txt "I",
            (match r.imbalanceMax with
              | some v => tenths v
              | none => [45]), txt "F", decOpt r.pedalAtMax, endCauseText r.endCause,
            letters [(r.zeroSubstituted, 'Z'), (r.overrange, 'O'), (r.traceTruncated, 'T'), (r.noTrace, 'N'),
                     (r.pedalPartial, 'P')]]

/-- R167: the verdict line. -/
def verdictLine (v : AxleVerdicts) : PrinterFrame :=
  normal ([txt "V", txt "IMB", verdictLetter v.imbalance, txt "DRG",
           slash (verdictLetter v.dragL) (verdictLetter v.dragR), txt "SS", verdictLetter v.sideSlip]
    ++ (match v.weight with
      | some w => [txt "WT", verdictLetter w]
      | none => []))

/-- R167: the lines of an axle in order. -/
def axleLines (n : Nat) (a : Axle) (v : Option AxleVerdicts) : List PrinterFrame :=
  [axleLine n a, resultLine (txt "S") a.service]
  ++ (if a.parking then [resultLine (txt "P") a.parkingResult] else [])
  ++ (v.map verdictLine).toList
  ++ (match a.skip with
    | some c => [normal [txt "SKIPPED", skipCauseText c]]
    | none => [])

/-! ## Total lines (R167) -/

/-- R167: an efficiency line. -/
def effLine (label : Text) (eff : Option Nat) (bound : Bool) (v : Verdict) : PrinterFrame :=
  match eff with
  | none => normal [label, [45], txt "NOT TESTED"]
  | some e => normal [label, if bound then txt ">=" else [], tenths e, verdictWord v]

/-- R167: the total lines. -/
def totalLines (t : Totals) : List PrinterFrame :=
  [ normal [txt "MASS", dec t.mass ++ (if t.massPartial then [42] else [])]
  , effLine (txt "SERVICE EFF") t.serviceEff t.serviceBound t.verdicts.service ]
  ++ (match t.verdicts.parking with
    | some v => [effLine (txt "PARKING EFF") t.parkingEff t.parkingBound v]
    | none => [])
  ++ [.line .double (joinWords [txt "RESULT", overallWord t.verdicts.overall])]

/-! ## The plan of a pass (R166) -/

/-- One place of the plan: a frame, or the strip of a result, formed when its label is formed. -/
inductive PlanItem where
  | frame (f : PrinterFrame)
  | strip (axle : Nat) (phase : Phase) (result : Option AxleResult)

/-- R166 item 6: the notes. -/
def noteLines (r : Record) : List PrinterFrame :=
  (if r.axlesExceeded then [normal [txt "NOTE AXLES EXCEEDED"]] else [])
  ++ (if r.axlesMissing then [normal [txt "NOTE AXLES MISSING"]] else [])

/-- R166: the lines before the axles. -/
def headLines (j : Job) (r : Record) : List PrinterFrame :=
  j.headers.map (fun h => .line h.style h.text)
  ++ [ .line .double (joinWords [txt "CERTIFICATE", decW 10 (j.number.getD 0)])
     , normal [txt "DATE", (match j.printedDate with
        | some (some d) => dateText d
        | some none | none => txt "----")]
     , .line .bold (joinWords [txt "VEHICLE", displayedId r])
     , normal [txt "CLASS", dec j.cls, j.className] ]
  ++ noteLines r

/-- The lines of every axle. -/
def allAxleLines (r : Record) : List PrinterFrame :=
  let vs := match r.totals with
    | some t => t.verdicts.axles
    | none => []
  r.axles.zipIdx.flatMap (fun p => axleLines (p.2 + 1) p.1 vs[p.2]?)

/-- R168: the strips of every axle, service before parking. -/
def strips (r : Record) : List PlanItem :=
  r.axles.zipIdx.flatMap (fun p =>
    PlanItem.strip (p.2 + 1) .service p.1.service
      :: (match p.1.parkingResult with
        | some q => [PlanItem.strip (p.2 + 1) .parking (some q)]
        | none => []))

/-- R166: the plan of a pass. -/
def planOf (j : Job) (r : Record) : List PlanItem :=
  (headLines j r ++ allAxleLines r ++ ((r.totals.map totalLines).getD [])).map PlanItem.frame
  ++ (if j.curves then strips r else [])
  ++ [.frame (.feed 4), .frame .cut]

/-! ## Curves (R168) -/

/-- The force of a stored sample on a side. -/
def sampleForce (side : Side) : TraceSample → Option Nat
  | .brake l r _ _ _ _ _ => match side with
    | .left => l
    | .right => r
  | .entry _ _ _ => none

/-- The largest present value of a list. -/
def largest (l : List (Option Nat)) : Option Nat := l.foldl raise none

/-- R168: the scale of a strip. -/
def curveScale (samples : List TraceSample) : Nat :=
  let m := (largest (samples.map (sampleForce .left) ++ samples.map (sampleForce .right))).getD 0
  max 500 ((m + 499) / 500 * 500)

/-- R168: the row of a force's dot. -/
def dotRow (scale f : Nat) : Nat := 127 - roundDiv (f * 127) scale

/-- R168: the samples that column `c` covers. -/
def columnSamples (c : Nat) (samples : List TraceSample) : List TraceSample :=
  let n := samples.length
  (samples.drop (c * n / 384)).take ((c + 1) * n / 384 - c * n / 384)

/-- R168: the dot rows of column `c`, left and right; the right in even columns only. -/
def columnDots (samples : List TraceSample) (c : Nat) : Option Nat × Option Nat :=
  let scale := curveScale samples
  let xs := columnSamples c samples
  ((largest (xs.map (sampleForce .left))).map (dotRow scale),
   if c % 2 = 0 then (largest (xs.map (sampleForce .right))).map (dotRow scale) else none)

/-- R202: eight dots as a byte, the leftmost in bit 7. -/
def dotByte (row : Nat) (cols : List (Option Nat × Option Nat)) : Byte :=
  cols.foldl (fun acc p => acc * 2 + (if p.1 == some row || p.2 == some row then 1 else 0)) 0

/-- R168: row `row` of a strip as 48 bytes. -/
def stripRow (cols : List (Option Nat × Option Nat)) (row : Nat) : List Byte :=
  (List.range 48).map (fun b => dotByte row ((cols.drop (8 * b)).take 8))

/-- R168: the 16 ROWS frames of a curve. -/
def curveFrames (samples : List TraceSample) : List PrinterFrame :=
  let cols := (List.range 384).map (columnDots samples)
  (List.range 16).map (fun k => .rows ((List.range 8).map (fun i => stripRow cols (8 * k + i))))

/-- R168: the trace of a result, if a live CLOSED descriptor still is it. -/
def traceOf (slot axle : Nat) (ph : Phase) (r : Option AxleResult) (t : TraceStore) : Option Descriptor :=
  match r with
  | none => none
  | some q =>
    match q.traceId.bind t.find with
    | none => none
    | some d =>
      let kind := match ph with
        | .service => TraceKind.service
        | .parking => TraceKind.parking
      match d.closeTime with
      | none => none
      | some c =>
        if d.closed && d.kind == kind && d.slot == slot && d.axle == some axle
            && !(c - (q.completed - 10)).msb then some d
        else none

/-- R168: the label of a strip with its trace id and scale, each a dash where it is lacking. -/
def stripLabel (axle : Nat) (ph : Phase) (id scale : Option Nat) : PrinterFrame :=
  normal [txt "CURVE", dec axle, (match ph with
    | .service => txt "SERVICE"
    | .parking => txt "PARKING"), txt "T", decOpt id, decOpt scale]

/-- R168: a strip as formed when its label is formed. -/
def formStrip (slot axle : Nat) (ph : Phase) (r : Option AxleResult) (t : TraceStore) :
    PrinterFrame × List PrinterFrame :=
  match traceOf slot axle ph r t with
  | none => (stripLabel axle ph (r.bind AxleResult.traceId) none, [normal [txt "NO CURVE"]])
  | some d =>
    (stripLabel axle ph (some d.id) (some (curveScale d.samples)),
     curveFrames d.samples ++ (if d.truncated then [normal [txt "CURVE TRUNCATED"]] else []))

end Sys2Proof.Machine
end

