-- ==== Sys2Proof/Machine/Certificates.lean ====
section
/-! DEFINITION. The Certificate Unit (chapter 9): jobs and their ends, numbering, the printer link, what the
transmitter sends, and the write queue's work for both this unit and the Calibration Store (R161, R181,
R185). -/

namespace Sys2Proof.Machine

/-! ## Jobs (R158, R172) -/

/-- The head job changed. -/
def modHead (f : Job → Job) (s : State) : State :=
  s.onCert fun c => { c with queue := match c.queue with
    | j :: js => f j :: js
    | [] => [] }

/-- A void becomes owed (R169). -/
def oweVoid (s : State) : State := s.onCert fun c => { c with void := .owed }

/-- R172 steps 1 to 5: a job ends. CERT_DONE names the record the job was for, and step 5 concerns that record as long
as it is there: the binding tried again in step 2 may have evicted it (log entry 18). -/
def closeJob (j : Job) (o : JobOutcome) (cause : Option JobCause) (restart : Bool) (s : State) : State :=
  let s1 := s.onCert fun c =>
    { c with strip := if c.queue.head?.any (fun h => h.slot == j.slot) then [] else c.strip
             queue := c.queue.filter (fun h => h.slot != j.slot) }
  let s2 := writeRec j.slot (fun r => { r with job := false }) s1
  let s3 := if restart then s2 else retryBinding s2
  let s4 := clearSlotHolds j.slot s3
  let s5 := sendNotice (.certDone j.slot (displayedId (s2.record j.slot)) j.number o cause j.pass s.now) s4
  if j.abortPending && (s5.record j.slot).state == .complete then restartRecord j.slot s5 else s5

/-- R160, R161: the counter is unavailable or used up. -/
def counterSpent (s : State) : Bool := !s.cal.available || decide (4294967295 ≤ s.cal.counter)

/-- R161: a QUEUED head enters NUMBERING, or ends FAILED; with `fuel` for the jobs behind it. -/
def numberHead : (fuel : Nat) → State → State
  | 0, s => s
  | f + 1, s =>
    match s.cert.queue with
    | [] => s
    | j :: _ =>
      if j.state != .queued then s
      else if counterSpent s then numberHead f (closeJob j .failed (some .store) false s)
      else (modHead (fun j => { j with state := .numbering }) s).onCal fun c =>
        { c with queue := c.queue ++ [.commit] }

/-- The queue of 4 jobs bounds the jobs that may end one after the other. -/
def numberNext (s : State) : State := numberHead 5 s

/-- R172: a job ends outside RESTART. -/
def endJob (j : Job) (o : JobOutcome) (cause : Option JobCause) (s : State) : State :=
  numberNext (closeJob j o cause false s)

/-- R161: the head's commit has been written. -/
def numberFixed (v : Nat) (s : State) : State :=
  match s.cert.queue with
  | [] => s
  | j :: _ =>
    if j.state != .numbering then s
    else
      let j' := { j with number := some v, printedDate := some (convertTime s.time s.now), state := .printing,
                         position := 0, started := false, pass := 0, planPos := 0 }
      if j.abortPending then endJob { j' with state := .numbering } .aborted (some .restart) s
      else modHead (fun _ => j') (s.onCert fun c => { c with strip := [] })

/-- R161: the head's commit has failed. -/
def commitFailed (s : State) : State :=
  match s.cert.queue with
  | [] => s
  | j :: _ =>
    if j.state != .numbering then s
    else if j.abortPending then endJob j .aborted (some .restart) s
    else endJob j .failed (some .store) s

/-- R181, R185: the oldest entry begins; a commit that cannot be written ends at once. -/
def pumpWrites : (fuel : Nat) → State → State
  | 0, s => s
  | f + 1, s =>
    if s.cal.writing.isNone && s.cal.commitFails then
      pumpWrites f (commitFailed (noticeStoreFault .counter .counter
        (s.onCal fun c => CalStore.settled { c with queue := c.queue.drop 1 })))
    else s.onCal (CalStore.beginWrite s.now)

/-- R182, R161: the end of the write in progress and the report of a commit. -/
def finishWrite (o : WriteOutcome) (s : State) : Out :=
  match endWrite o s with
  | none => .next s
  | some (.error page) => .fault (.eepromAddress page)
  | some (.ok (e, w, s1)) =>
    if e == .commit then
      match o with
      | .success => .next (numberFixed w.values.counterValue s1)
      | .failure _ => .next (commitFailed s1)
    else .next s1

/-! ## Requests (R160, R173, R174) -/

/-- R160 item 2: the header lines, or none when one is refused. -/
def headersOf (hs : List RawHeader) : Option (List HeaderLine) :=
  if 4 < hs.length then none else readAll headerOf hs

/-- The axle results of a record. -/
def allResults (r : Record) : List AxleResult :=
  r.axles.filterMap Axle.service ++ r.axles.filterMap Axle.parkingResult

/-- R160 item 7. -/
def resultsStale (r : Record) (s : State) : Bool :=
  s.cert.resultAgeMax != 0
    && (allResults r).any (fun q => decide (s.cert.resultAgeMax * 60000 < s.since q.completed))

/-- R160: a job as admitted. Its position is 0 and started is clear from then on, of which R158 and R160 say nothing
(DESIGN CHOICE, log entry 52). -/
def Job.admitted (slot : Nat) (hs : List HeaderLine) (r : Record) (c : ClassEntry) : Job :=
  { slot := slot, headers := hs, cls := r.cls, className := c.name, curves := c.printCurves, state := .queued,
    number := none, printedDate := none, abortPending := false, pass := 0, position := 0, started := false,
    planPos := 0 }

/-- R160: CERT_QUEUE. -/
def certQueue (slot : Nat) (headers : List RawHeader) (s : State) : Handled :=
  if s.cal.state == .loading then refuse .notReady s
  else
    match headersOf headers with
    | none => refuse .badField s
    | some hs =>
      if 31 < slot then refuse .badField s
      else
        let r := s.record slot
        if r.state == .free then refuse .noSuch s
        else if r.state != .complete then refuse .state s
        else
          match classEntry s r.cls with
          | none => refuse .noClass s
          | some c =>
            if r.job then refuse .duplicate s
            else if resultsStale r s then refuse .stale s
            else if counterSpent s then refuse .store s
            else if 4 ≤ s.cert.queue.length then refuse .queueFull s
            else
              let s1 := modRec slot (fun r => { r with job := true })
                (s.onCert fun k => { k with queue := k.queue ++ [Job.admitted slot hs r c] })
              acceptWith (.place s1.cert.queue.length) (numberNext s1)

/-- R173: CERT_ABORT. -/
def certAbort (slot : Nat) (s : State) : Handled :=
  if s.cal.state == .loading then refuse .notReady s
  else if 31 < slot then refuse .badField s
  else
    match s.cert.queue.find? (fun j => j.slot == slot) with
    | none => refuse .noSuch s
    | some j =>
      if j.state == .numbering then refuse .busy s
      else
        let s1 := if j.state == .printing && j.started then oweVoid s else s
        accept (endJob j .aborted (some .host) s1)

/-- R174: the Certificate Unit as reported. -/
def certReport (s : State) : CertReport :=
  let c := s.cert
  { jobs := c.queue.map (fun j =>
      { slot := j.slot, id := displayedId (s.record j.slot), state := j.state, number := j.number,
        printedDate := j.printedDate, pass := j.pass, position := j.position, started := j.started,
        abortPending := j.abortPending })
    link := c.link, condition := c.condition, window := c.window, outstanding := c.outstanding
    voidOwed := c.void != .none }

/-- R174: CERT_LIST. -/
def certList (s : State) : Handled :=
  if s.cal.state == .loading then refuse .notReady s else acceptWith (.certList (certReport s)) s

/-- R176: one job on RESTART. -/
def restartJob (s : State) (j : Job) : State :=
  match j.state with
  | .numbering =>
    s.onCert fun c => { c with queue := c.queue.map (fun h =>
      if h.slot == j.slot then { h with abortPending := true } else h) }
  | .printing => closeJob j .aborted (some .restart) true (if j.started then oweVoid s else s)
  | .queued | .held => closeJob j .aborted (some .restart) true s

/-- R176: the jobs of the queue on RESTART, in queue order. -/
def restartJobs (s : State) : State := s.cert.queue.foldl restartJob s

/-! ## The printer link (R163 to R165, R169, R170) -/

/-- R163: PRINTER_STATE as the link stands. -/
def noticePrinter (s : State) : State :=
  sendNotice (.printerState s.cert.link s.cert.condition s.cert.window s.cert.outstanding s.now) s

/-- The head job is PRINTING with started set. -/
def passStarted (s : State) : Bool := s.cert.queue.head?.any (fun j => j.state == .printing && j.started)

/-- R165, R170: a void whose LINE has been sent starts again from its LINE. -/
def rewindVoid (s : State) : State :=
  s.onCert fun c => { c with void := if c.void == .lineSent then .owed else c.void }

/-- R169: a started pass is interrupted: the job is HELD and a void is owed. The position and started flag that are
discarded stand at 0 and clear (DESIGN CHOICE, log entry 52). -/
def interrupt (s : State) : State :=
  if passStarted s then
    oweVoid (modHead (fun j => { j with state := .held, position := 0, started := false, planPos := 0 })
      (s.onCert fun c => { c with strip := [] }))
  else s

/-- R169: a HELD head is printed again with a new pass. -/
def reprint (s : State) : State :=
  modHead (fun j => if j.state == .held then
      { j with state := .printing, position := 0, started := false, planPos := 0, pass := bump 255 j.pass }
    else j) s

/-- R163, R169: the link state after a change; leaving READY interrupts, entering READY reprints. -/
def setLink (l : LinkState) (s : State) : State :=
  let s1 := s.onCert fun c => { c with link := l }
  if s.cert.link == .ready && l != .ready then interrupt (rewindVoid s1)
  else if s.cert.link != .ready && l == .ready then reprint s1
  else s1

/-- R163: a STATUS frame that arrived at `t`. -/
def takeStatus (cond : PrinterCondition) (t : LaneTime) (s : State) : State :=
  let l := if PrinterCondition.isEmpty cond then LinkState.ready else LinkState.paused
  let told := s.cert.link != l || (l == .paused && s.cert.condition != some cond)
  let s1 := setLink l (s.onCert fun c => { c with condition := some cond, silence := some (later t 2000) })
  if told then noticePrinter s1 else s1

/-- R163: the silence expiry. -/
def printerSilent (s : State) : State :=
  if s.due s.cert.silence then
    noticePrinter (setLink .offline (s.onCert fun c => { c with condition := none, silence := none }))
  else s

/-- R164, R170: a HELLO frame. -/
def takeHello (w : Nat) (s : State) : State :=
  let s1 := interrupt (rewindVoid (s.onCert fun c => { c with window := w, outstanding := 0 }))
  if s.cert.link == .ready then reprint s1 else s1

/-- R166: the job's pass has begun its CUT: no place of its plan is left. -/
def passSent (j : Job) (s : State) : Bool :=
  j.started && s.cert.strip.isEmpty && decide ((planOf j (s.record j.slot)).length ≤ j.planPos)

/-- R171: the head job is complete. -/
def completeJob (s : State) : State :=
  match s.cert.queue with
  | [] => s
  | j :: _ =>
    if j.state == .printing && s.cert.outstanding == 0 && s.cert.void == .none && passSent j s then
      endJob j .done none s
    else s

/-- R164, R171: a CREDIT frame. -/
def takeCredit (n : Nat) (s : State) : State :=
  completeJob (s.onCert fun c =>
    { c with outstanding := c.outstanding - n
             creditExcess := bumpBy 65535 c.creditExcess (n - c.outstanding) })

/-! ## The printer receiver (R162, R202) -/

/-- A bad frame counted. -/
def CertUnit.countBad (c : CertUnit) : CertUnit := { c with badFrames := bump 65535 c.badFrames }

/-- R162: a byte with no frame in collection. -/
def CertUnit.huntByte (c : CertUnit) (b : Byte) (ok : Bool) (now : LaneTime) : CertUnit :=
  if ok && b == 0xAA then { c with frame := some { bytes := [b], last := now } } else c

/-- R202: the payload length of a frame in collection. -/
def printerLength (bytes : List Byte) : Nat := leNat (field bytes 2 2)

/-- R202, R162: what a complete frame carries; none for a bad one. -/
def printerMsg (bytes : List Byte) : Option PrinterMsg :=
  let n := bytes.length
  let v := (bytes.getD 4 0).toNat
  if crc8 ((bytes.drop 1).take (n - 2)) != bytes.getD (n - 1) 0 || printerLength bytes != 1 then none
  else
    match (bytes.getD 1 0).toNat with
    | 0x81 => if 1 ≤ v && v ≤ 32 then some (.hello v) else none
    | 0x82 => (conditionOf v).map .status
    | 0x83 => if 1 ≤ v && v ≤ 32 then some (.credit v) else none
    | _ => none

/-- R162: a complete frame is checked. -/
def CertUnit.completeFrame (c : CertUnit) (bytes : List Byte) (now : LaneTime) : CertUnit :=
  match printerMsg bytes with
  | some m => { c with frame := none, inbox := c.inbox ++ [(m, now)] }
  | none => CertUnit.countBad { c with frame := none }

/-- R162: a byte from the printer. -/
def CertUnit.takeByte (c : CertUnit) (b : Byte) (ok : Bool) (now : LaneTime) : CertUnit :=
  match c.frame with
  | none => c.huntByte b ok now
  | some f =>
    if 10 < (now - f.last).toNat then (CertUnit.countBad { c with frame := none }).huntByte b ok now
    else if !ok then CertUnit.countBad { c with frame := none }
    else
      let bytes := f.bytes ++ [b]
      if bytes.length = 4 && 1 < printerLength bytes then CertUnit.countBad { c with frame := none }
      else if 4 < bytes.length && bytes.length = 5 + printerLength bytes then c.completeFrame bytes now
      else { c with frame := some { bytes := bytes, last := now } }

/-- R162: a frame from the printer is taken (log entry 6): the oldest one on its way when it is this one;
with none on its way, a frame that completes at this moment. `ok` says that its field is in its range. -/
def takePrinter (m : PrinterMsg) (ok : Bool) (k : LaneTime → State → State) (s : State) : State :=
  match s.cert.inbox with
  | (x, t) :: rest => if x = m then k t (s.onCert fun c => { c with inbox := rest }) else s
  | [] => if ok then k s.now s else s.onCert CertUnit.countBad

/-! ## The transmitter (R165) -/

/-- R165: the void's LINE; code 80h is the long dash. -/
def voidLine : PrinterFrame := .line .bold (txt "VOID " ++ 0x80 :: txt " PRINT INTERRUPTED")

/-- R164: a frame begins transmission. -/
def startFrame (f : PrinterFrame) (s : State) : State :=
  s.onCert fun c => { c with transmitting := some f, outstanding := c.outstanding + 1 }

/-- A frame of the head job begins: its position rises and started is set; `step` is how far the plan moves. -/
def sendJobFrame (f : PrinterFrame) (step : Nat) (strip : List PrinterFrame) (s : State) : State :=
  startFrame f (modHead (fun j => { j with position := j.position + 1, started := true,
                                           planPos := j.planPos + step })
    (s.onCert fun c => { c with strip := strip }))

/-- R165 item 2: the head job's next frame. -/
def sendNextOf (j : Job) (s : State) : State :=
  match s.cert.strip with
  | f :: rest => sendJobFrame f 0 rest s
  | [] =>
    match (planOf j (s.record j.slot))[j.planPos]? with
    | none => s
    | some (.frame f) => sendJobFrame f 1 [] s
    | some (.strip n ph r) =>
      let t := formStrip j.slot n ph r s.traces
      sendJobFrame t.1 1 t.2 s

/-- R165: the transmitter begins the next frame when its conditions hold. -/
def beginPrinter (s : State) : State :=
  let c := s.cert
  if c.transmitting.isSome || c.link != .ready || c.window ≤ c.outstanding then s
  else
    match c.void with
    | .owed => startFrame voidLine (s.onCert fun c => { c with void := .lineSent })
    | .lineSent => startFrame .cut (s.onCert fun c => { c with void := .none })
    | .none =>
      match c.queue with
      | [] => s
      | j :: _ => if j.state == .printing then sendNextOf j s else s

/-- R165: the frame in transmission ends. -/
def endPrinter (s : State) : State := s.onCert fun c => { c with transmitting := none }

end Sys2Proof.Machine
end

