-- ==== Sys2Proof/Machine/HostCodec.lean ====
section
/-! DEFINITION. Reading a host request from its frame (R199, R200, section 11.5): the fields of each kind from
the bytes of the payload. -/

namespace Sys2Proof.Machine

/-- What is left of a payload, with a value read from its front; none when the bytes do not reach. -/
abbrev Read (α : Type) := Option (α × List Byte)

/-- R199: an unsigned number of `w` bytes. -/
def readU (w : Nat) (b : List Byte) : Read Nat :=
  if b.length < w then none else some (leNat (b.take w), b.drop w)

/-- R199: an optional number of `w` bytes. -/
def readOpt (w : Nat) (b : List Byte) : Read (Option Nat) :=
  if b.length < w then none else some (optNat (b.take w), b.drop w)

/-- R199: text. -/
def readText (b : List Byte) : Read Text :=
  match b with
  | [] => none
  | n :: rest =>
    if rest.length < n.toNat then none
    else some ((rest.take n.toNat).map BitVec.toNat, rest.drop n.toNat)

/-- `n` entries one after another. -/
def readN {α : Type} (f : List Byte → Read α) : (n : Nat) → List Byte → Read (List α)
  | 0, b => some ([], b)
  | n + 1, b =>
    match f b with
    | none => none
    | some (x, b1) =>
      match readN f n b1 with
      | none => none
      | some (xs, b2) => some (x :: xs, b2)

/-- R199: a list with a count of one byte. -/
def readList {α : Type} (f : List Byte → Read α) (b : List Byte) : Read (List α) :=
  match b with
  | [] => none
  | n :: rest => readN f n.toNat rest

/-- A value read, then the rest handed on. -/
def andThen {α β : Type} (r : Read α) (f : α → List Byte → Option β) : Option β :=
  match r with
  | none => none
  | some (x, b) => f x b

/-- The payload is used up: otherwise its length does not fit the kind (R191). -/
def done {α : Type} (x : α) (b : List Byte) : Option α := if b.isEmpty then some x else none

/-- R199: an entry of SET_CONFIG. -/
def readSetting (b : List Byte) : Read (Nat × Nat) :=
  andThen (readU 1 b) fun i b => andThen (readU 4 b) fun v b => some ((i, v), b)

/-- An entry of SET_CHANNELS. -/
def readAssignment (b : List Byte) : Read (Nat × Nat) :=
  andThen (readU 1 b) fun c b => andThen (readU 1 b) fun f b => some ((c, f), b)

/-- R199: an entry of SET_LINES. -/
def readLine (b : List Byte) : Read RawLine :=
  andThen (readU 1 b) fun l b => andThen (readU 1 b) fun f b => andThen (readU 1 b) fun a b =>
    andThen (readU 1 b) fun d b => some ({ line := l, fn := f, level := a, debounce := d }, b)

/-- R199: a step in 13 bytes. -/
def readStep (b : List Byte) : Read RawStep :=
  andThen (readU 1 b) fun prompt b => andThen (readU 1 b) fun red b => andThen (readU 1 b) fun amber b =>
    andThen (readU 1 b) fun green b => andThen (readU 1 b) fun sk b => andThen (readU 1 b) fun wk b =>
    andThen (readU 2 b) fun n b => andThen (readU 2 b) fun t b => andThen (readU 1 b) fun na b =>
    andThen (readU 1 b) fun nt b => andThen (readU 1 b) fun rq b =>
      some ({ prompt := prompt, red := red, amber := amber, green := green, showKind := sk, waitKind := wk,
              threshold := n, timeout := t, nextAdvance := na, nextTimeout := nt, request := rq }, b)

/-- R24: the fields of a loaded class. -/
def readClass (b : List Byte) : Read RawClass :=
  andThen (readText b) fun name b => andThen (readU 2 b) fun se b => andThen (readU 2 b) fun pe b =>
    andThen (readU 2 b) fun im b => andThen (readU 2 b) fun dr b => andThen (readU 2 b) fun ss b =>
    andThen (readU 2 b) fun wt b => andThen (readU 1 b) fun ep b => andThen (readU 1 b) fun bp b =>
    andThen (readU 1 b) fun pc b =>
      some ({ name := name, minServiceEff := se, minParkingEff := pe, maxImbalance := im, maxDrag := dr,
              maxSideSlip := ss, maxAxleWeight := wt, entryProgram := ep, brakeProgram := bp,
              printCurves := pc }, b)

/-- R124: what LOAD_PROGRAM carries when it loads. -/
def readProgram (b : List Byte) : Read RawProgram :=
  andThen (readU 1 b) fun first b => andThen (readU 1 b) fun last b => andThen (readU 1 b) fun entry b =>
    andThen (readList readStep b) fun steps b =>
      some ({ first := first, last := last, entryStep := entry, steps := steps }, b)

/-- R160: a header line. -/
def readHeader (b : List Byte) : Read RawHeader :=
  andThen (readU 1 b) fun st b => andThen (readText b) fun t b => some ({ style := st, text := t }, b)

/-- R183: what CAL_WRITE carries after its target and channel (targets CHANNEL 0, CONSTANTS 1); another target carries
nothing (DESIGN CHOICE, log entry 48). -/
def readCal (target : Nat) (b : List Byte) : Read RawCal :=
  match target with
  | 0 => andThen (readOpt 2 b) fun z b => andThen (readOpt 3 b) fun g b => andThen (readU 1 b) fun v b =>
      some (.channel z g v, b)
  | 1 => andThen (readU 2 b) fun dd b => andThen (readU 2 b) fun ds b => andThen (readU 2 b) fun p b =>
      andThen (readU 2 b) fun sp b => some (.constants dd ds p sp, b)
  | _ => some (.none, b)

/-- LOAD_CLASS: the fields follow a loaded indication of 1. -/
def readLoadClass (tag : Nat) (b : List Byte) : Option Instr :=
  andThen (readU 1 b) fun c b => andThen (readU 1 b) fun l b =>
    if l = 1 then andThen (readClass b) fun f b => done (.loadClass tag c l (some f)) b
    else done (.loadClass tag c l none) b

/-- LOAD_PROGRAM: the content follows an unload indication of 0. -/
def readLoadProgram (tag : Nat) (b : List Byte) : Option Instr :=
  andThen (readU 1 b) fun p b => andThen (readU 1 b) fun u b =>
    if u = 0 then andThen (readProgram b) fun c b => done (.loadProgram tag p u (some c)) b
    else done (.loadProgram tag p u none) b

/-- BOOK_VEHICLE. -/
def readBook (tag : Nat) (b : List Byte) : Option Instr :=
  andThen (readText b) fun id b => andThen (readU 1 b) fun c b => andThen (readOpt 1 b) fun e b =>
    andThen (readList (readU 1) b) fun pk b => done (.bookVehicle tag id c e pk) b

/-- SET_CLOCK. -/
def readClock (tag : Nat) (b : List Byte) : Option Instr :=
  andThen (readU 2 b) fun y b => andThen (readU 1 b) fun mo b => andThen (readU 1 b) fun d b =>
    andThen (readU 1 b) fun h b => andThen (readU 1 b) fun mi b => andThen (readU 1 b) fun s b =>
      done (.setClock tag y mo d h mi s) b

/-- One field of one byte. -/
def readOne (f : Nat → Instr) (b : List Byte) : Option Instr := andThen (readU 1 b) fun x b => done (f x) b

/-- R191: what a taken frame turns out to be. -/
inductive TakenFrame where
  | unknownKind
  | badLength
  | request (i : Instr)

/-- The request of a kind that reads its payload with `r`. -/
def taken (r : Option Instr) : TakenFrame :=
  match r with
  | some i => .request i
  | none => .badLength

/-- R191, section 11.5: the request of a frame. -/
def readRequest (kind tag : Nat) (b : List Byte) : TakenFrame :=
  match kind with
  | 0x01 => taken (readOne (.getStatus tag) b)
  | 0x02 => taken (done (.restart tag) b)
  | 0x03 => taken (readClock tag b)
  | 0x04 => taken (andThen (readList readSetting b) fun es b => done (.setConfig tag es) b)
  | 0x05 => taken (done (.getConfig tag) b)
  | 0x06 => taken (andThen (readList readAssignment b) fun as b => done (.setChannels tag as) b)
  | 0x07 => taken (andThen (readList readLine b) fun es b => done (.setLines tag es) b)
  | 0x08 => taken (readLoadClass tag b)
  | 0x09 => taken (readLoadProgram tag b)
  | 0x0A => taken (readBook tag b)
  | 0x0B => taken (andThen (readOpt 1 b) fun sl b => done (.armVehicle tag sl) b)
  | 0x0C => taken (andThen (readU 1 b) fun sl b => andThen (readText b) fun id b =>
      andThen (readOpt 1 b) fun c b => done (.bindVehicle tag sl id c) b)
  | 0x0D => taken (readOne (.discardVehicle tag) b)
  | 0x0E => taken (readOne (.getVehicle tag) b)
  | 0x0F => taken (done (.listLane tag) b)
  | 0x10 => taken (done (.skipAxle tag) b)
  | 0x11 => taken (done (.releaseVehicle tag) b)
  | 0x12 => taken (done (.ackFault tag) b)
  | 0x13 => taken (andThen (readU 1 b) fun st b => andThen (readU 1 b) fun d b => done (.setLive tag st d) b)
  | 0x14 => taken (andThen (readU 1 b) fun sel b => andThen (readU 2 b) fun st b => done (.traceList tag sel st) b)
  | 0x15 => taken (andThen (readU 2 b) fun id b => andThen (readU 3 b) fun f b => andThen (readU 2 b) fun c b =>
      done (.traceRead tag id f c) b)
  | 0x16 => taken (andThen (readU 2 b) fun id b => done (.traceRelease tag id) b)
  | 0x17 => taken (andThen (readU 2 b) fun x b => andThen (readU 2 b) fun y b => done (.setPartitions tag x y) b)
  | 0x18 => taken (andThen (readU 1 b) fun sl b => andThen (readList readHeader b) fun hs b =>
      done (.certQueue tag sl hs) b)
  | 0x19 => taken (readOne (.certAbort tag) b)
  | 0x1A => taken (done (.certList tag) b)
  | 0x1B => taken (andThen (readU 1 b) fun t b => andThen (readOpt 1 b) fun c b => done (.calRead tag t c) b)
  | 0x1C => taken (andThen (readU 1 b) fun t b => andThen (readOpt 1 b) fun c b =>
      andThen (readCal t b) fun k b => done (.calWrite tag t c k) b)
  | 0x1D => taken (readOne (.calZero tag) b)
  | 0x1E => taken (andThen (readU 1 b) fun c b => andThen (readU 2 b) fun r b => done (.calSpan tag c r) b)
  | 0x1F => taken (andThen (readU 4 b) fun v b => done (.setCounter tag v) b)
  | _ => .unknownKind

end Sys2Proof.Machine
end

