-- ==== Sys2Proof/Machine/Encode.lean ====
section
/-! DEFINITION. The bytes the part sends (R199, R200, R202, R203): notices, live frames and replies to the
host, frames to the printer and to the prompt boards. Where a rule lists what a reply reports without a byte
layout, the fields stand in the order of its list, and the flags of one report take the bits of one field where the first
of them stands; an entry of a list, an optional group and a station of GUIDANCE are records of their own (log entry 15). -/

namespace Sys2Proof.Machine

/-! ## Fields (R199) -/

/-- An enumeration's byte. -/
def enumByte {α : Type} [DecidableEq α] (order : List α) (x : α) : List Byte := leBytes 1 (codeIn order x)

/-- An optional enumeration's byte. -/
def optEnum {α : Type} [DecidableEq α] (order : List α) (x : Option α) : List Byte :=
  optBytes 1 (x.map (codeIn order))

/-- A lane time. -/
def timeBytes (t : LaneTime) : List Byte := leBytes 4 t.toNat

/-- An optional lane time. -/
def optTime (t : Option LaneTime) : List Byte := optBytes 5 (t.map BitVec.toNat)

/-- A signed number of `w` bytes: its value plus 2^(8w−1) − 1. -/
def signedBytes (w : Nat) (v : Int) : List Byte := leBytes w (v + (2 ^ (8 * w - 1) - 1)).toNat

/-- An optional signed number. -/
def optSigned (w : Nat) : Option Int → List Byte
  | some v => signedBytes w v
  | none => List.replicate w 0xFF

/-- Text. -/
def textBytes (t : Text) : List Byte := leBytes 1 t.length ++ t.map (BitVec.ofNat 8)

/-- The flags of one record in one field of `w` bytes. -/
def flagField (w : Nat) (l : List Bool) : List Byte := leBytes w (bitsOf l)

/-- A record's only flag. -/
def flagByte (b : Bool) : List Byte := flagField 1 [b]

/-- A list with a count of one byte. -/
def listBytes {α : Type} (f : α → List Byte) (l : List α) : List Byte := leBytes 1 l.length ++ l.flatMap f

/-- An optional group: 00h and its fields, or FFh. -/
def optGroup {α : Type} (f : α → List Byte) : Option α → List Byte
  | some x => 0x00 :: f x
  | none => [0xFF]

/-- A date-time. -/
def dateBytes (d : DateTime) : List Byte :=
  leBytes 2 d.year ++ leBytes 1 d.month ++ leBytes 1 d.day ++ leBytes 1 d.hour ++ leBytes 1 d.minute
    ++ leBytes 1 d.second

/-! ## Records (R1, R2, R4, R99, R102) -/

/-- R4: an axle result. -/
def resultBytes (r : AxleResult) : List Byte :=
  leBytes 2 r.maxL ++ leBytes 2 r.maxR ++ leBytes 2 r.dragL ++ leBytes 2 r.dragR ++ optBytes 2 r.imbalanceMax
    ++ optBytes 2 r.pedalAtMax ++ enumByte endCauses r.endCause ++ timeBytes r.completed
    ++ leBytes 1 (resultFlags r) ++ optBytes 3 r.traceId

/-- R2: axle entry `n`. -/
def axleBytes (n : Nat) (a : Axle) : List Byte :=
  leBytes 1 n ++ optBytes 2 a.weightL ++ optBytes 2 a.weightR ++ leBytes 1 (axleFlags a) ++ optSigned 2 a.sideSlip
    ++ optEnum skipCauses a.skip ++ leBytes 1 a.attempts ++ optGroup resultBytes a.service
    ++ optGroup resultBytes a.parkingResult

/-- R102: an axle's verdicts. -/
def axleVerdictBytes (v : AxleVerdicts) : List Byte :=
  enumByte verdicts v.imbalance ++ enumByte verdicts v.dragL ++ enumByte verdicts v.dragR
    ++ enumByte verdicts v.sideSlip ++ optEnum verdicts v.weight

/-- R99, R102: totals. The verdict set is the two efficiencies, a counted list of the axles' items with an optional weight,
and the overall verdict last (DESIGN CHOICE, log entry 15). -/
def totalsBytes (t : Totals) : List Byte :=
  leBytes 3 t.mass ++ leBytes 1 (totalsFlags t) ++ optBytes 2 t.serviceEff ++ optBytes 2 t.parkingEff
    ++ enumByte verdicts t.verdicts.service ++ optEnum verdicts t.verdicts.parking
    ++ listBytes axleVerdictBytes t.verdicts.axles ++ enumByte overalls t.verdicts.overall

/-- R1, R11: a record with its displayed id. The axle list stands in the place R1 gives it, before the totals, and the
displayed id comes last, where R11 names the fields of R1, the displayed id and then the axle entries; the job reference is a
marker byte with nothing after it (DESIGN CHOICE, log entry 15). -/
def recordBytes (r : Record) (displayed : Text) : List Byte :=
  textBytes r.id ++ enumByte origins r.origin ++ enumByte recStates r.state ++ leBytes 1 r.cls
    ++ optBytes 1 r.expected ++ leBytes 2 (recordFlags r) ++ optBytes 2 r.entryNumber ++ timeBytes r.lastActivity
    ++ optGroup (fun _ => []) (if r.job then some () else none)
    ++ leBytes 1 r.axles.length ++ r.axles.zipIdx.flatMap (fun p => axleBytes (p.2 + 1) p.1)
    ++ optGroup totalsBytes r.totals ++ textBytes displayed

/-! ## Notices and live frames (section 11.5) -/

/-- The record a store notice names: HEADER 0, COUNTER 1, CONSTANTS 2, CHANNEL 3 with its number. -/
def storeRecordBytes : StoreRecord → List Byte
  | .header => leBytes 1 0 ++ optBytes 1 none
  | .counter => leBytes 1 1 ++ optBytes 1 none
  | .constants => leBytes 1 2 ++ optBytes 1 none
  | .channel n => leBytes 1 3 ++ optBytes 1 (some n)

/-- A notice's kind and payload. -/
def noticeBytes : Notice → Nat × List Byte
  | .vehicleEntered slot id origin cls entry t =>
      (0x40, leBytes 1 slot ++ textBytes id ++ enumByte origins origin ++ leBytes 1 cls ++ leBytes 2 entry
        ++ timeBytes t)
  | .axleMeasured slot id axle wl wr u o a slip t =>
      (0x41, leBytes 1 slot ++ textBytes id ++ leBytes 1 axle ++ optBytes 2 wl ++ optBytes 2 wr
        ++ flagField 1 [u, o, a] ++ optSigned 2 slip ++ timeBytes t)
  | .axleTested slot id axle ph reason attempts result t =>
      (0x42, leBytes 1 slot ++ textBytes id ++ leBytes 1 axle ++ enumByte phases ph
        ++ leBytes 1 (if reason.isSome then 1 else 0) ++ optEnum abortReasons reason ++ leBytes 1 attempts
        ++ optGroup resultBytes result ++ timeBytes t)
  | .vehicleComplete slot id cls axles overall cause t =>
      (0x43, leBytes 1 slot ++ textBytes id ++ leBytes 1 cls ++ leBytes 1 axles ++ enumByte overalls overall
        ++ enumByte leaveCauses cause ++ timeBytes t)
  | .vehicleRemoved slot id cause => (0x44, leBytes 1 slot ++ textBytes id ++ enumByte removalCauses cause)
  | .entryState st slot cause t =>
      (0x45, enumByte stations .entry ++ enumByte entryNames st ++ optBytes 1 slot ++ optEnum blockCauses cause
        ++ timeBytes t)
  | .brakeState st slot axle ph t =>
      (0x45, enumByte stations .brake ++ enumByte brakeStates st ++ optBytes 1 slot ++ optBytes 1 axle
        ++ optEnum phases ph ++ timeBytes t)
  | .traceReady n oldest => (0x46, leBytes 1 n ++ leBytes 2 oldest)
  | .certDone slot id number outcome cause pass t =>
      (0x47, leBytes 1 slot ++ textBytes id ++ optBytes 5 number ++ enumByte jobOutcomes outcome
        ++ optEnum jobCauses cause ++ leBytes 1 pass ++ timeBytes t)
  | .printerState st cond window out t =>
      (0x48, enumByte linkStates st ++ optBytes 1 (cond.map conditionBits) ++ leBytes 1 window ++ leBytes 1 out
        ++ timeBytes t)
  | .pedalState st cause unit battery t =>
      (0x49, enumByte pedalStates st ++ enumByte pedalCauses cause ++ optBytes 3 unit ++ optBytes 1 battery
        ++ timeBytes t)
  | .calStored r v st t => (0x4A, storeRecordBytes r ++ v.fields ++ enumByte storeStates st ++ timeBytes t)
  | .storeFault r c st t =>
      (0x4B, storeRecordBytes r ++ enumByte storeCauses c ++ enumByte storeStates st ++ timeBytes t)
  | .sensorFault ch fn entered t =>
      (0x4C, leBytes 1 0 ++ leBytes 1 ch ++ enumByte channelFns fn ++ leBytes 1 (if entered then 0 else 1)
        ++ timeBytes t)
  | .brakeFault c slot axle entered t =>
      (0x4C, leBytes 1 1 ++ enumByte brakeCauses c ++ optBytes 1 slot ++ optBytes 1 axle
        ++ leBytes 1 (if entered then 0 else 1) ++ timeBytes t)

/-- R64, R87: a brake sample with its speeds, without its clamp notes (DESIGN CHOICE, log entry 46). -/
def brakeSampleBytes (x : BrakeSample) : List Byte :=
  optBytes 2 x.forceL ++ optBytes 2 x.forceR ++ leBytes 2 x.slipL ++ leBytes 2 x.slipR ++ optBytes 4 x.speedL
    ++ optBytes 4 x.speedR ++ optBytes 2 x.pedal ++ timeBytes x.time

/-- A live frame's payload. Neither sample carries its clamp notes (R47, R60, R64, R87; DESIGN CHOICE, log entry 46). -/
def liveBytes : LiveFrame → List Byte
  | .entry st slot x =>
      enumByte stations .entry ++ enumByte entryNames st ++ optBytes 1 slot ++ optBytes 2 x.weightL
        ++ optBytes 2 x.weightR ++ optSigned 3 x.plate ++ timeBytes x.time
  | .brake st slot axle ph x =>
      enumByte stations .brake ++ enumByte brakeStates st ++ optBytes 1 slot ++ optBytes 1 axle
        ++ optEnum phases ph ++ brakeSampleBytes x

/-! ## Replies (R191) and reports -/

/-- R143, R154: a stored sample as returned by TRACE_READ: the fields of R143, in the 10 or 6 bytes of its sample size
(log entry 46). -/
def traceSampleBytes : TraceSample → List Byte
  | .brake l r sl sr p _ _ => optBytes 2 l ++ optBytes 2 r ++ leBytes 2 sl ++ leBytes 2 sr ++ optBytes 2 p
  | .entry l r d => optBytes 2 l ++ optBytes 2 r ++ optSigned 2 d

/-- R143, R153: a descriptor summary. -/
def summaryBytes (t : TraceSummary) : List Byte :=
  leBytes 2 t.id ++ enumByte traceKinds t.kind
    ++ enumByte stations (if t.kind = .entry then .entry else .brake) ++ leBytes 1 t.slot ++ optBytes 1 t.axle
    ++ timeBytes t.openTime ++ optTime t.firstTime ++ optTime t.closeTime ++ leBytes 3 t.samples
    ++ leBytes 1 (if t.kind = .entry then 6 else 10) ++ leBytes 2 t.blocks ++ leBytes 1 (if t.closed then 1 else 0)
    ++ leBytes 1 (traceFlags t) ++ leBytes 2 t.pedalGaps ++ leBytes 1 t.excess

/-- R11: LIST_LANE. -/
def laneBytes (r : LaneReport) : List Byte :=
  listBytes (leBytes 1) r.queue ++ optBytes 1 r.armed ++ leBytes 1 r.booked ++ leBytes 1 r.dynamic
    ++ leBytes 1 r.dynMax ++ leBytes 2 r.entryCount ++ flagByte r.blocked

/-- R196: GET_CONFIG; its settings are a counted list in the form of SET_CONFIG's entries (DESIGN CHOICE, log entry
15). -/
def configBytes (r : ConfigReport) : List Byte :=
  listBytes (fun e => leBytes 1 e.1 ++ leBytes 4 e.2) r.settings ++ r.channels.flatMap (enumByte channelFns)
    ++ r.lines.flatMap (fun l => enumByte lineFns l.1 ++ enumByte levels l.2.1 ++ leBytes 1 l.2.2)
    ++ r.programs.flatMap (optGroup fun p => leBytes 1 p.first ++ leBytes 1 p.last ++ leBytes 1 p.entryStep)

/-- R174: the Certificate Unit. A printed date is FFh when absent, 00h FFh when unset, and 00h 00h with the date when it
is set (DESIGN CHOICE, log entry 15). A job's two flags take the bits in the order of R158's table, abort pending before
started (R199). -/
def certBytes (r : CertReport) : List Byte :=
  listBytes (fun j =>
      leBytes 1 j.slot ++ textBytes j.id ++ enumByte jobStates j.state ++ optBytes 5 j.number
        ++ optGroup (optGroup dateBytes) j.printedDate ++ leBytes 1 j.pass ++ leBytes 2 j.position
        ++ flagField 1 [j.abortPending, j.started]) r.jobs
    ++ enumByte linkStates r.link ++ optBytes 1 (r.condition.map conditionBits) ++ leBytes 1 r.window
    ++ leBytes 1 r.outstanding ++ flagByte r.voidOwed

/-- R195: the port summary; NOTICE_OVERFLOW and whether the live slot holds a frame are its flags. The rate is its number of
bit/s in 3 bytes (DESIGN CHOICE, log entry 15). -/
def portBytes (p : PortSummary) : List Byte :=
  leBytes 1 p.buffered ++ leBytes 1 p.places ++ leBytes 1 p.refusals ++ leBytes 1 p.notices
    ++ flagField 1 [p.overflow, p.live] ++ optBytes 3 p.lastNotice ++ leBytes 1 p.entryDivider ++ leBytes 1 p.brakeDivider
    ++ leBytes 2 p.gapDiscards ++ leBytes 2 p.lengthDiscards ++ leBytes 2 p.framingDiscards
    ++ leBytes 2 p.crcDiscards ++ leBytes 2 p.unanswered ++ leBytes 3 (if p.fast then 460800 else 115200)

/-- R42: SIGNALS. A sensor state is OK 0 or SENSOR_FAULT 1 (R33). -/
def signalsBytes (r : SignalsReport) : List Byte :=
  timeBytes r.now ++ flagByte r.clockSet ++ optGroup dateBytes r.date
    ++ r.channels.flatMap (fun c => enumByte channelFns c.fn ++ enumByte [false, true] c.faulted ++ leBytes 2 c.sum
        ++ optTime c.endTime)
    ++ r.counters.flatMap (fun p => leBytes 1 p.1 ++ leBytes 2 p.2)
    ++ r.lines.flatMap (fun l => enumByte lineFns l.fn ++ optBytes 1 (l.on.map (fun b => bitsOf [b])))

/-- R60: ENTRY. The plate tracker is FREE 0 or CROSSING 1 (R45); the report's flags are its two marks and the
barrier-cleared flag. The plate tracker's count is reported too, and both counts take 4 bytes (DESIGN CHOICE, log entry
12). -/
def entryBytes (r : EntryReport) : List Byte :=
  enumByte entryNames r.state ++ optBytes 1 r.slot ++ enumByte [false, true] r.plate.crossing
    ++ optSigned 3 r.plate.peak ++ leBytes 4 r.plate.count
    ++ flagField 1 [r.plate.partialMark, r.plate.faultMark, r.cleared]
    ++ enumByte scalePhases r.scale ++ optTime r.onTime ++ leBytes 4 r.samples
    ++ listBytes (optSigned 2) r.crossings ++ leBytes 1 r.passed ++ optTime r.quiet ++ optBytes 3 r.openTrace

/-- R62, R87: the running values but their flags. Beside those of R62's list stand the maximum of L+R, the drags and the end
cause (DESIGN CHOICE, log entry 45). -/
def runningBytes (r : Running) : List Byte :=
  leBytes 2 r.maxL ++ leBytes 2 r.maxR ++ leBytes 2 r.maxLR ++ leBytes 3 r.dragSumL ++ leBytes 3 r.dragSumR
    ++ leBytes 2 r.dragL ++ leBytes 2 r.dragR ++ optBytes 2 r.imbalanceMax ++ optBytes 2 r.pedalAtMax
    ++ optEnum endCauses r.endCause

/-- R87: BRAKE; its flags are the substitution marks, the flags of the running values, PEDAL_PARTIAL before OVERRANGE (DESIGN
CHOICE, log entry 15), and RUN_L and RUN_R ON; each slip run is its count and its start (log entry 45). -/
def brakeBytes (r : BrakeReport) : List Byte :=
  enumByte brakeStates r.state ++ optBytes 1 r.slot ++ optBytes 1 r.axle ++ enumByte phases r.phase
    ++ leBytes 2 r.zeroL ++ leBytes 2 r.zeroR
    ++ flagField 1 [r.subL, r.subR, r.run.pedalPartial, r.run.overrange, r.runL, r.runR] ++ runningBytes r.run
    ++ leBytes 1 r.slipRunL ++ optTime r.slipStartL ++ leBytes 1 r.slipRunR ++ optTime r.slipStartR
    ++ leBytes 1 r.held ++ leBytes 1 r.release ++ leBytes 1 r.speed ++ leBytes 1 r.stop ++ leBytes 1 r.drag ++ r.expiries.flatMap optTime ++ optEnum brakeCauses r.cause
    ++ optBytes 3 r.openTrace ++ optGroup brakeSampleBytes r.last

/-- R120: PEDAL. The framing state is HUNTING 0 or FRAMED 1 (R106). -/
def pedalBytes (r : PedalReport) : List Byte :=
  enumByte pedalStates r.state ++ enumByte [false, true] r.framed ++ optBytes 3 r.unit ++ optBytes 2 r.seq ++ optTime r.extended
    ++ optTime r.offset ++ optSigned 5 r.lastError ++ leBytes 1 r.inWindow ++ leBytes 1 r.outRun
    ++ optBytes 1 r.battery ++ optTime r.silence ++ leBytes 1 r.entries ++ optTime r.oldest ++ optTime r.newest
    ++ r.counts.flatMap (leBytes 2)

/-- R139: a station of GUIDANCE; END is FFh. The set of the station's event flags (R125, R128) and whether a SHOW frame is
pending share one field: 8 or 9 event names and one flag. -/
def guideBytes (st : Station) (r : GuideReport) : List Byte :=
  leBytes 1 r.program ++ leBytes 1 (r.step.getD 255) ++ timeBytes r.entryTime ++ optTime r.timeout
    ++ flagField 2 ((stationEventNames st).map (fun e => r.flags.contains e) ++ [r.pending])

/-- R156: an open trace. -/
def openTraceBytes (t : OpenTraceReport) : List Byte := leBytes 2 t.id ++ leBytes 3 t.samples ++ flagByte t.truncated

/-- R156: TRACES. -/
def tracesBytes (r : TracesReport) : List Byte :=
  leBytes 2 r.brakeSize ++ leBytes 2 r.brakeFree ++ leBytes 2 r.entrySize ++ leBytes 2 r.entryFree
    ++ leBytes 2 r.unassigned ++ leBytes 1 r.live ++ leBytes 1 r.recording ++ leBytes 2 r.nextId ++ leBytes 1 r.drain
    ++ optBytes 3 r.oldest ++ optGroup openTraceBytes r.entryOpen ++ optGroup openTraceBytes r.brakeOpen

/-- R181: an entry of the write queue, its kind numbered in R181's order (DESIGN CHOICE, log entry 15). -/
def writeEntryBytes (e : WriteEntry) : List Byte :=
  match e with
  | .header => leBytes 1 0
  | .commit => leBytes 1 1
  | .setCounter v => leBytes 1 2 ++ leBytes 4 v
  | .constants => leBytes 1 3
  | .channel n => leBytes 1 4 ++ leBytes 1 n

/-- R178, R184: a collection in progress; its sums taken are their count (DESIGN CHOICE, log entry 15). -/
def collectionBytes (c : Collection) : List Byte :=
  leBytes 1 c.channel ++ leBytes 1 (match c.kind with
    | .zero => 0
    | .span _ => 1) ++ leBytes 1 c.count

/-- R178: STORE; its flags are the stored marks, the available flag, and whether the oldest entry of the queue is the write
in progress. -/
def storeBytes (r : StoreReport) : List Byte :=
  enumByte storeStates r.state
    ++ flagField 4 ([r.header, r.copyA, r.copyB, r.constants] ++ r.channels ++ [r.available, r.writing])
    ++ leBytes 4 r.counter ++ enumByte copies r.current ++ listBytes writeEntryBytes r.queue
    ++ optGroup collectionBytes r.collection

/-- R195: a section's report. -/
def reportBytes : Report → List Byte
  | .signals r => signalsBytes r
  | .entry r => entryBytes r
  | .brake r => brakeBytes r
  | .pedal r => pedalBytes r
  | .guidance e b => guideBytes .entry e ++ guideBytes .brake b
  | .traces r => tracesBytes r
  | .certificates r bad excess => certBytes r ++ leBytes 2 bad ++ leBytes 2 excess
  | .store r => storeBytes r
  | .port => []

/-- The fields of a reply. CAL_READ HEADER carries the good signature and format also while the header is not stored,
and CAL_READ CONSTANTS whether the constants are valid (R183; DESIGN CHOICE, log entry 51). -/
def bodyBytes : ReplyBody → List Byte
  | .none => []
  | .slot n | .place n => leBytes 1 n
  | .vehicle r d => recordBytes r d
  | .lane r => laneBytes r
  | .config r => configBytes r
  | .traceList l more => listBytes summaryBytes l ++ flagByte more
  | .traceRead id first xs => leBytes 2 id ++ leBytes 3 first ++ listBytes traceSampleBytes xs
  | .certList r => certBytes r
  | .calHeader stored => [0x5A, 0x4C, 0x01] ++ flagByte stored
  | .calCounter n available current stored =>
      leBytes 4 n ++ flagField 1 [available, stored] ++ enumByte copies current
  | .calConstants c =>
      (StoredValues.constants c.dd c.ds c.plate c.testSpeed).fields ++ flagField 1 [c.valid, c.stored]
  | .calChannel c => optBytes 2 c.zcal ++ optBytes 3 c.gain ++ flagField 1 [c.valid, c.stored]
  | .zero z => leBytes 2 z
  | .gain g => leBytes 2 g
  | .status p r => portBytes p ++ reportBytes r

/-- R191, R199: a reply's payload; the fields go with OK only. -/
def replyBytes (r : Reply) : List Byte :=
  leBytes 1 r.kind ++ enumByte statuses r.status ++ (if r.status = .ok then bodyBytes r.body else [])

/-! ## Frames (R200, R202, R203) -/

/-- R200: a host frame; its length, tag and check least significant byte first (log entry 49). -/
def hostFrame (kind tag : Nat) (payload : List Byte) : List Byte :=
  let body := leBytes 2 payload.length ++ leBytes 1 kind ++ leBytes 2 tag ++ payload
  0xA5 :: body ++ leBytes 2 (crc16 body).toNat

/-- R202: a frame to the printer; its length least significant byte first (log entry 49). -/
def PrinterFrame.bytes (f : PrinterFrame) : List Byte :=
  let p : Nat × List Byte := match f with
    | .line st t => (0x01, enumByte styles st ++ textBytes t)
    | .rows rs => (0x02, leBytes 1 rs.length ++ rs.flatten)
    | .feed n => (0x03, leBytes 1 n)
    | .cut => (0x04, [])
  let body := leBytes 1 p.1 ++ leBytes 2 p.2.length ++ p.2
  0xAA :: body ++ [crc8 body]

/-- R203: a SHOW frame on the prompt line. -/
def ShowFrame.bytes (f : ShowFrame) : List Byte :=
  let lampBits := codeIn lamps f.red + 4 * codeIn lamps f.amber + 16 * codeIn lamps f.green
  let body := leBytes 1 f.board ++ leBytes 1 f.prompt ++ leBytes 1 lampBits ++ enumByte showKinds f.showKind
    ++ leBytes 1 f.values.length ++ f.values.flatMap (optSigned 2)
  0xC5 :: body ++ [crc8 body]

end Sys2Proof.Machine
end

