-- ==== Sys2Proof/Machine/Guidance.lean ====
section
/-! DEFINITION. Guidance (chapter 7): the built-in programs, the values of the two stations, selection, step
entry, advance, timeout, station requests, prompt boards and LOAD_PROGRAM. -/

namespace Sys2Proof.Machine

/-! ## Steps and programs (R122, R123) -/

/-- A row of R123: prompt, lamps, show, wait, timeout and the two successors. -/
def builtin (prompt : Nat) (red amber green : Lamp) (sk : ShowKind) (w : GEvent) (timeout : Nat)
    (advance timeoutTo : Option Nat) : Step :=
  { prompt := prompt, red := red, amber := amber, green := green, showKind := sk, wait := .event w,
    timeout := timeout, nextAdvance := advance, nextTimeout := timeoutTo, request := .none }

/-- R123: steps 0..15. -/
def builtinSteps : List Step :=
  [ builtin 2 .on .off .off .none .vehicleAtBarrier 1 (some 3) (some 1)
  , builtin 1 .off .off .on .none .entryBlocked 0 (some 2) none
  , builtin 2 .on .off .off .none .brakeFree 20 (some 1) (some 1)
  , builtin 3 .on .off .off .axleNumber .axleOnSlip 0 (some 4) none
  , builtin 4 .on .off .off .sideSlip .axleOnScale 100 (some 5) (some 3)
  , builtin 5 .on .off .off .axleWeight .weightSettled 120 (some 6) (some 3)
  , builtin 6 .on .on .off .axleWeight .axleOffScale 0 (some 7) none
  , builtin 7 .on .off .off .sideSlip .axleOnSlip 50 (some 4) (some 3)
  , builtin 9 .off .on .off .axleNumber .stationFault 1 (some 15) (some 9)
  , builtin 9 .off .on .off .axleNumber .wheelsPresent 0 (some 10) none
  , builtin 10 .off .flash .off .forceLR .dragDone 150 (some 11) (some 9)
  , builtin 11 .off .off .on .forceLR .axleDone 300 (some 12) (some 9)
  , builtin 12 .off .off .flash .axleNumber .atSpeed 30 (some 13) (some 9)
  , builtin 13 .off .flash .off .forceLR .dragDone 150 (some 14) (some 9)
  , builtin 14 .off .off .on .forceLR .axleDone 300 (some 12) (some 9)
  , builtin 15 .flash .off .off .none .wheelsPresent 20 (some 8) (some 8) ]

/-- The content of a step: fixed for 0..15, loaded for 16..95. -/
def stepAt (g : Guidance) (n : Nat) : Option Step :=
  if n < 16 then builtinSteps[n]? else (g.steps[n - 16]?).join

/-- R122: the range and entry step of a program; programs 0 and 1 are always loaded. -/
def programAt (g : Guidance) (p : Nat) : Option Program :=
  match p with
  | 0 => some { first := 0, last := 7, entryStep := 0 }
  | 1 => some { first := 8, last := 15, entryStep := 8 }
  | p + 2 => (g.programs[p]?).join

/-- Guidance's state for a station. -/
def Guidance.at (g : Guidance) : Station → StationGuide
  | .entry => g.entry
  | .brake => g.brake

/-- Guidance's state for a station changed. -/
def Guidance.modAt (g : Guidance) (st : Station) (f : StationGuide → StationGuide) : Guidance :=
  match st with
  | .entry => { g with entry := f g.entry }
  | .brake => { g with brake := f g.brake }

/-- The same within the whole state. -/
def modGuide (st : Station) (f : StationGuide → StationGuide) (s : State) : State :=
  s.onGuide fun g => g.modAt st f

/-- The step a station stands in; none at END. -/
def stepInHand (st : Station) (s : State) : Option Step := ((s.guide.at st).step).bind (stepAt s.guide)

/-! ## Values the stations offer (R59, R86, R130, R136) -/

/-- A weight or count as a shown value. -/
def shown : Option Nat → Option Int := Option.map Int.ofNat

/-- R59: AXLE_WEIGHT of the entry station. While WEIGHING with both sides of the latest sample absent it is absent, where
R47 counts an absent side as 0 in a sample's axle weight (DESIGN CHOICE, log entry 26). -/
def entryAxleWeight (s : State) : Option Nat :=
  match s.entry.scale.phase with
  | .weighing => (s.entry.scale.last20.getLast?).bind (fun w => presentSum w.left w.right)
  | .taken => presentSum s.entry.scale.takenL s.entry.scale.takenR
  | .empty =>
    match s.entry.vehicle with
    | none => none
    | some v => ((s.record v).axles.getLast?).bind (fun a => presentSum a.weightL a.weightR)

/-- R59: AXLE_NUMBER of the entry station. -/
def entryAxleNumber (s : State) : Option Nat :=
  match s.entry.vehicle with
  | none => none
  | some v =>
    if s.entry.scale.phase == .taken then s.entry.scale.takenNumber
    else if (s.record v).axles.length < 12 then some ((s.record v).axles.length + 1)
    else none

/-- R59: SIDE_SLIP of the entry station. -/
def entrySideSlip (s : State) : Option Int := if s.entry.vehicle.isSome then s.entry.lastCrossing else none

/-- R86: the entry of the axle in hand. -/
def axleEntryInHand (s : State) : Option Axle :=
  match s.brake.vehicle, axleInHand s with
  | some v, some n => (s.record v).axle n
  | _, _ => none

/-- R86: a value of the brake station's last sample. -/
def lastBrake {α : Type} (f : BrakeSample → Option α) (s : State) : Option α := s.brake.lastSample.bind f

/-- R136: the values of a show kind for a station. -/
def showValues (st : Station) (k : ShowKind) (s : State) : List (Option Int) :=
  match k, st with
  | .none, _ => []
  | .forceLR, .entry => [none, none]
  | .forceLR, .brake => [shown (lastBrake BrakeSample.forceL s), shown (lastBrake BrakeSample.forceR s)]
  | .pedal, .entry => [none]
  | .pedal, .brake => [shown (lastBrake BrakeSample.pedal s)]
  | .axleWeight, .entry => [shown (entryAxleWeight s)]
  | .axleWeight, .brake => [shown ((axleEntryInHand s).bind (fun a => presentSum a.weightL a.weightR))]
  | .sideSlip, .entry => [entrySideSlip s]
  | .sideSlip, .brake => [(axleEntryInHand s).bind Axle.sideSlip]
  | .axleNumber, .entry => [shown (entryAxleNumber s)]
  | .axleNumber, .brake => [shown (axleInHand s)]

/-- R130: the lower of two values, absent when either is. -/
def lowerOf : Option Nat → Option Nat → Option Nat
  | some a, some b => some (min a b)
  | _, _ => none

/-- R130: a threshold condition holds on the brake station's last sample. -/
def thresholdMet (w : Wait) (s : State) : Bool :=
  match w with
  | .event _ => false
  | .pedalAbove n => (lastBrake BrakeSample.pedal s).any (fun v => decide (n ≤ v))
  | .forceAbove n => (lastBrake (fun b => bothSum b.forceL b.forceR) s).any (fun v => decide (n ≤ v))
  | .speedAbove n => (lastBrake (fun b => lowerOf b.speedL b.speedR) s).any (fun v => decide (n ≤ v))

/-! ## Coming to rest: lamps and boards (R133, R135 to R138) -/

/-- R135: the board of a station. -/
def boardOf : Station → Nat
  | .entry => 1
  | .brake => 2

/-- R136, R133: the SHOW frame of a station as it stands. -/
def showFrame (st : Station) (s : State) : ShowFrame :=
  match stepInHand st s with
  | some x => { board := boardOf st, prompt := x.prompt, red := x.red, amber := x.amber, green := x.green,
                showKind := x.showKind, values := showValues st x.showKind s }
  | none => { board := boardOf st, prompt := 0, red := .off, amber := .off, green := .off,
              showKind := .none, values := [] }

/-- R135: a frame made pending for a station's board replaces an unsent one. -/
def makePending (st : Station) (s : State) : State :=
  modGuide st (fun x => { x with slot := some { frame := showFrame st s, since := s.now, sending := false } }) s

/-- R137: the refresh period of a station as it stands. -/
def refreshPeriod (st : Station) (s : State) : Nat :=
  match stepInHand st s with
  | some x => if x.showKind == .none then 1000 else 200
  | none => 1000

/-- R138: the lamp output functions of a station from its SHOW frame. -/
def setLamps (st : Station) (f : ShowFrame) (s : State) : State :=
  s.onSig fun g => { g with outputs :=
    match st with
    | .entry => { g.outputs with entryRed := f.red, entryGreen := f.green }
    | .brake => { g.outputs with brakeRed := f.red, brakeAmber := f.amber, brakeGreen := f.green } }

/-- R127, R137, R138: Guidance comes to rest for a station: lamps, SHOW frame, refresh time. -/
def comeToRest (st : Station) (s : State) : State :=
  modGuide st (fun x => { x with refresh := later s.now (refreshPeriod st s) })
    (makePending st (setLamps st (showFrame st s) s))

/-! ## Entering steps (R127, R129, R131 to R134) -/

/-- R128: the standing flags that hold for a station: what a step entry sets. One that no longer holds is cleared by the next
entry only (R132; DESIGN CHOICE, log entry 54). -/
def standingFlags (st : Station) (s : State) : List GEvent :=
  match st with
  | .entry => if s.entry.blocked then [.entryBlocked] else []
  | .brake => if s.brake.state == .fault then [.stationFault] else []

/-- R134: the brake station's steps issue their requests. -/
def issueRequest (st : Station) (r : StationRequest) (s : State) : State :=
  if st == .brake && r != .none then s.onGuide (fun g => { g with requests := g.requests ++ [r] }) else s

/-- R133: a station goes to END (the time of going there stands as the entry time, log entry 11). -/
def goToEnd (st : Station) (s : State) : State :=
  modGuide st (fun x => { x with step := none, entryTime := s.now, timeout := none, flags := [] }) s

/-- R127 actions 1 to 5 for one step. -/
def enterOnce (st : Station) (n : Nat) (s : State) : State :=
  match stepAt s.guide n with
  | none => goToEnd st s
  | some x =>
    issueRequest st x.request (modGuide st (fun y =>
      { y with step := some n, entryTime := s.now, flags := standingFlags st s,
               timeout := if x.timeout = 0 then none else some (later s.now (x.timeout * 100)) }) s)

/-- Enter a successor: a step, or END. -/
def enterNext (st : Station) (next : Option Nat) (s : State) : State :=
  match next with
  | some n => enterOnce st n s
  | none => goToEnd st s

/-- R127 action 6: the step in hand waits on a flag that is set. -/
def flagMet (st : Station) (s : State) : Option (Option Nat) :=
  match stepInHand st s with
  | none => none
  | some x =>
    match x.wait with
    | .event e => if (s.guide.at st).flags.contains e then some x.nextAdvance else none
    | .pedalAbove _ | .forceAbove _ | .speedAbove _ => none

/-- R127: a successor entered, an advance by a standing flag followed once, and coming to rest. -/
def enter (st : Station) (next : Option Nat) (s : State) : State :=
  let s1 := enterNext st next s
  comeToRest st (match flagMet st s1 with
    | some n => enterNext st n s1
    | none => s1)

/-- The entry step of a program; of the built-in program when it is not loaded. -/
def entryStepOf (st : Station) (p : Nat) (g : Guidance) : Nat :=
  match programAt g p with
  | some q => q.entryStep
  | none => match st with
    | .entry => 0
    | .brake => 8

/-- R125: the program of a station for a vehicle. -/
def programFor (st : Station) (slot : Option Nat) (s : State) : Nat :=
  let fallback := match st with
    | .entry => 0
    | .brake => 1
  match slot with
  | none => fallback
  | some v =>
    match classEntry s (s.record v).cls with
    | none => fallback
    | some c =>
      let p := match st with
        | .entry => c.entryProgram
        | .brake => c.brakeProgram
      if (programAt s.guide p).isSome then p else fallback

/-- A program selected and its entry step entered. -/
def runProgram (st : Station) (p : Nat) (s : State) : State :=
  enter st (some (entryStepOf st p s.guide)) (modGuide st (fun x => { x with program := p }) s)

/-- R125: a program is selected on a change of the station's vehicle. -/
def selectProgram (st : Station) (slot : Option Nat) (s : State) : State :=
  runProgram st (programFor st slot s) s

/-- R128: the station whose flags an event sets. -/
def GEvent.station (e : GEvent) : Station := e.raisedBy.getD .entry

/-- R128, R129: an event sets its flag and may advance the step. -/
def raiseFlag (e : GEvent) (s : State) : State :=
  let st := e.station
  match stepInHand st s with
  | none => s
  | some x =>
    if (s.guide.at st).flags.contains e then s
    else
      let s1 := modGuide st (fun y => { y with flags := addEvent y.flags e }) s
      if x.wait = .event e then enter st x.nextAdvance s1 else s1

/-- R132: the brake station's program is moved to its entry step; one that has been unloaded since it went to
END gives way to program 1 (log entry 39). -/
def moveToEntry (s : State) : State :=
  let p := s.guide.brake.program
  runProgram .brake (if (programAt s.guide p).isSome then p else 1) s

/-- R132: STATION_FAULT moves the brake program to its entry step; the event then sets its flag. -/
def takeEvent (e : GEvent) (s : State) : State :=
  if e = .stationFault then raiseFlag e (moveToEntry s) else raiseFlag e s

/-- R130: the brake station's sample values reach a threshold step. -/
def compareSample (s : State) : State :=
  match stepInHand .brake s with
  | none => s
  | some x => if thresholdMet x.wait s then enter .brake x.nextAdvance s else s

/-- R126: Guidance takes one result. -/
def takeItem (s : State) (i : GuideItem) : State :=
  match i with
  | .vehicle st slot => selectProgram st slot s
  | .event e => takeEvent e s
  | .brakeSample => compareSample s

/-- R131: a step's timeout. -/
def stepTimedOut (st : Station) (s : State) : State :=
  match stepInHand st s with
  | none => s
  | some x => if s.due (s.guide.at st).timeout then enter st x.nextTimeout s else s

/-- R137: a refresh time. -/
def refreshShow (st : Station) (s : State) : State :=
  if s.due (some (s.guide.at st).refresh) then
    modGuide st (fun x => { x with refresh := later x.refresh (refreshPeriod st s) }) (makePending st s)
  else s

/-- R126, R134: the brake station takes the station request at the front; none if it is another. -/
def takeRequest (r : StationRequest) (s : State) : Option State :=
  match s.guide.requests with
  | q :: rest => if q = r then some (s.onGuide fun g => { g with requests := rest }) else none
  | [] => none

/-! ## The prompt line (R135) -/

/-- The station whose pending frame the free line sends. -/
def promptChoice (s : State) : Option Station :=
  match s.guide.entry.slot, s.guide.brake.slot with
  | none, none => none
  | some _, none => some .entry
  | none, some _ => some .brake
  | some a, some b => if s.since a.since < s.since b.since then some .brake else some .entry

/-- R135: the free line starts to send. -/
def beginPrompt (s : State) : State :=
  if s.guide.transmitting.isSome then s
  else
    match promptChoice s with
    | none => s
    | some st =>
      match (s.guide.at st).slot with
      | none => s
      | some p =>
        modGuide st (fun x => { x with slot := some { p with sending := true } })
          (s.onGuide fun g => { g with transmitting := some p.frame })

/-- R135: a slot whose frame has been sent empties; a frame made pending meanwhile stays. -/
def StationGuide.sent (x : StationGuide) : StationGuide :=
  match x.slot with
  | some p => if p.sending then { x with slot := none } else x
  | none => x

/-- R135: the last byte of the frame in transmission is sent. -/
def endPrompt (s : State) : State :=
  match s.guide.transmitting with
  | none => s
  | some _ => s.onGuide fun g =>
      { g with transmitting := none, entry := g.entry.sent, brake := g.brake.sent }

/-! ## LOAD_PROGRAM (R124), reset and reports (R139, R140) -/

/-- R124: a step whose advance by a standing flag would lead to a step that waits on the same flag. -/
def chained (first : Nat) (steps : List Step) (x : Step) : Bool :=
  match x.wait, x.nextAdvance with
  | .event e, some n =>
    (e == .entryBlocked || e == .stationFault)
      && (steps[n - first]?).any (fun y => decide (y.wait = .event e))
  | _, _ => false

/-- R124 item 1: the steps of a load, or none when a field is refused. -/
def loadedSteps (p : RawProgram) : Option (List Step) :=
  if decide (16 ≤ p.first) && decide (p.first ≤ 95) && decide (16 ≤ p.last) && decide (p.last ≤ 95)
      && decide (p.first ≤ p.last) && decide (p.first ≤ p.entryStep) && decide (p.entryStep ≤ p.last)
      && decide (p.steps.length = p.last - p.first + 1) then
    match readAll (stepOf p.first p.last) p.steps with
    | none => none
    | some steps => if steps.any (chained p.first steps) then none else some steps
  else none

/-- R124 item 2: another loaded program owns a step of the range. -/
def rangeTaken (p first last : Nat) (g : Guidance) : Bool :=
  g.programs.zipIdx.any (fun q =>
    q.2 + 2 != p && q.1.any (fun r => decide (first ≤ r.last) && decide (r.first ≤ last)))

/-- R124 item 3: a station stands in a step of the program. -/
def programBusy (p : Nat) (g : Guidance) : Bool :=
  (g.entry.program == p && g.entry.step.isSome) || (g.brake.program == p && g.brake.step.isSome)

/-- R124: the steps of a range lose their content. -/
def clearRange (r : Option Program) (steps : List (Option Step)) : List (Option Step) :=
  match r with
  | none => steps
  | some q => (List.range steps.length).map (fun i =>
      if q.first ≤ i + 16 && i + 16 ≤ q.last then none else (steps[i]?).join)

/-- R124: the steps of a list written from step `first` on. -/
def writeRange (first : Nat) (new : List Step) (steps : List (Option Step)) : List (Option Step) :=
  (List.range steps.length).map (fun i =>
    if first ≤ i + 16 && i + 16 < first + new.length then new[i + 16 - first]? else (steps[i]?).join)

/-- R124: LOAD_PROGRAM; the unload indication is 1 with no content, 0 with content, any other number is refused (DESIGN
CHOICE, log entry 43). -/
def loadProgram (p unload : Nat) (content : Option RawProgram) (s : State) : Handled :=
  if p < 2 || 7 < p then refuse .badField s
  else
    match unload, content with
    | 1, none =>
      if programBusy p s.guide then refuse .busy s
      else accept (s.onGuide fun g =>
        { g with programs := g.programs.set (p - 2) none, steps := clearRange (programAt g p) g.steps })
    | 0, some c =>
      match loadedSteps c with
      | none => refuse .badField s
      | some steps =>
        if rangeTaken p c.first c.last s.guide then refuse .state s
        else if programBusy p s.guide then refuse .busy s
        else accept (s.onGuide fun g =>
          { g with programs := g.programs.set (p - 2)
                     (some { first := c.first, last := c.last, entryStep := c.entryStep })
                   steps := writeRange c.first steps (clearRange (programAt g p) g.steps) })
    | _, _ => refuse .badField s

/-- R140: both stations enter their built-in programs with empty slots and no flags. -/
def restartGuidance (s : State) : State :=
  let clear := fun (x : StationGuide) => { x with slot := none, flags := [], timeout := none }
  runProgram .brake 1 (runProgram .entry 0
    (s.onGuide fun g => { g with entry := clear g.entry, brake := clear g.brake }))

/-- R139. -/
def guideReport (x : StationGuide) : GuideReport :=
  { program := x.program, step := x.step, entryTime := x.entryTime, timeout := x.timeout, flags := x.flags,
    pending := x.slot.isSome }

end Sys2Proof.Machine
end

