-- ==== Sys2Proof/Machine/Pedal.lean ====
section
/-! DEFINITION. The Pedal Link (chapter 6): framing, the filter, sequence numbers, the offset, the pedal sample
ring, its settings and its reset. -/

namespace Sys2Proof.Machine

/-! ## The receiver (R106) -/

/-- R201: the start delimiter. -/
def pedalDelimiter : Byte := 0x7E

/-- A framing loss: the receiver goes to HUNTING with no frame in collection. -/
def PedalLink.loseFrame (p : PedalLink) : PedalLink :=
  { p with framed := false, frame := none, framingLosses := bump 65535 p.framingLosses }

/-- R106: a byte with no frame in collection; `quiet` is an idle time of at least 2 ms. -/
def PedalLink.openByte (p : PedalLink) (b : Byte) (ok quiet : Bool) : PedalLink :=
  if p.framed then
    if ok && b == pedalDelimiter then { p with frame := some [b] } else p.loseFrame
  else if ok && quiet && b == pedalDelimiter then { p with frame := some [b] }
  else p

/-- R106, R201: the CRC of a complete frame matches. -/
def pedalCrcOk (bytes : List Byte) : Bool := crc8 (bytes.take 15) == bytes.getD 15 0

/-- R106: a frame is complete at `now`. -/
def PedalLink.complete (p : PedalLink) (bytes : List Byte) (now : LaneTime) : PedalLink :=
  if pedalCrcOk bytes then
    { p with framed := true, frame := none, completed := p.completed ++ [(bytes, now)] }
  else { p with framed := false, frame := none, crcErrors := bump 65535 p.crcErrors }

/-- R106: a byte arrives. -/
def PedalLink.takeByte (p : PedalLink) (b : Byte) (ok : Bool) (idleUs : Nat) (now : LaneTime) : PedalLink :=
  let quiet := decide (2000 ≤ idleUs)
  match p.frame with
  | none => p.openByte b ok quiet
  | some f =>
    if quiet then (p.loseFrame).openByte b ok quiet
    else if !ok then p.loseFrame
    else if (f ++ [b]).length ≥ 16 then p.complete (f ++ [b]) now
    else { p with frame := some (f ++ [b]) }

/-! ## Frames (R107, R201) -/

/-- A unit frame's fields as read. -/
structure UnitFrame where
  unit : BitVec 16
  seq : BitVec 8
  time : BitVec 16
  samples : List (Option Nat)
  battery : Nat

/-- Two bytes of a pedal unit frame, least significant first (R107 and R201 give no order: DESIGN CHOICE, log entry 49). -/
def word16 (lo hi : Byte) : BitVec 16 := hi ++ lo

/-- R107: a sample as read. -/
def readSample (v : Nat) : Option Nat := if v = 65535 then none else some (min 2000 v)

/-- R107, R201: the fields of a frame of 16 bytes. -/
def unitFrame (b : List Byte) : UnitFrame :=
  let at16 := fun i => word16 (b.getD i 0) (b.getD (i + 1) 0)
  { unit := at16 1, seq := b.getD 3 0, time := at16 4
    samples := [6, 8, 10, 12].map (fun i => readSample (at16 i).toNat)
    battery := min 100 (b.getD 14 0).toNat }

/-! ## Link states (R109, R116) -/

/-- R109: PEDAL_STATE as the link stands. -/
def noticePedal (c : PedalCause) (s : State) : State :=
  let f := s.pedal.following
  sendNotice (.pedalState s.pedal.state c (f.map (fun f => f.unit.toNat)) (f.map Following.battery) s.now) s

/-- R116: what ABSENT holds. -/
def PedalLink.absented (p : PedalLink) : PedalLink :=
  { p with state := .absent, following := none, offset := none, lastError := none, inWindow := 0, outRun := 0 }

/-- R116: the link enters ABSENT with a cause. -/
def enterAbsent (c : PedalCause) (s : State) : State :=
  if s.pedal.state == .absent then s else noticePedal c (s.onPedal PedalLink.absented)

/-- R109: the link enters another state with a cause. -/
def enterLink (st : PedalState) (c : PedalCause) (s : State) : State :=
  noticePedal c (s.onPedal fun p => { p with state := st })

/-! ## Offset and ring (R112, R115, R117) -/

/-- R112: the offset taken from a frame. -/
def takenOffset (arrival extended : LaneTime) (latency : Nat) : LaneTime :=
  arrival - extended - BitVec.ofNat 32 latency

/-- R112: the error of a frame. -/
def frameError (arrival extended offset : LaneTime) (latency : Nat) : Int :=
  (arrival - (extended + offset + BitVec.ofNat 32 latency)).toInt

/-- R115: the offset trimmed by an error. -/
def trimmed (offset : LaneTime) (e : Int) : LaneTime := offset + BitVec.ofInt 32 (roundDivInt e 8)

/-- R117: one present sample placed or dropped. -/
def placeOne (p : PedalLink) (e : RingEntry) : PedalLink :=
  let later := match p.ring.getLast? with
    | none => true
    | some n => decide (0 < (e.time - n.time).toInt)
  if later then { p with ring := (if p.ring.length ≥ 32 then p.ring.drop 1 else p.ring) ++ [e] }
  else { p with dropped := bump 65535 p.dropped }

/-- R117: a frame's samples from index `k` on. -/
def placeFrom (base : LaneTime) : (k : Nat) → List (Option Nat) → PedalLink → PedalLink
  | _, [], p => p
  | k, v :: vs, p =>
    placeFrom base (k + 1) vs (match v with
      | none => p
      | some n => placeOne p { time := later base (10 * k), force := n })

/-- R117: a frame's samples placed with the offset as it stands. -/
def PedalLink.place (p : PedalLink) (samples : List (Option Nat)) : PedalLink :=
  match p.following, p.offset with
  | some f, some o => placeFrom (later (f.extended + o) 120) 0 samples p
  | _, _ => p

/-- R112: the link takes the offset anew. -/
def PedalLink.retake (p : PedalLink) (arrival : LaneTime) : PedalLink :=
  match p.following with
  | some f => { p with offset := some (takenOffset arrival f.extended p.latency), inWindow := 0 }
  | none => p

/-! ## Acceptance (R108, R110, R111, R113 to R116) -/

/-- R108: a unit id passes a filter. -/
def passes (unit : BitVec 16) (mask mtch : Nat) : Bool := (unit &&& BitVec.ofNat 16 mask).toNat == mtch

/-- R110, R113: a frame becomes the base. -/
def baseOf (f : UnitFrame) (arrival : LaneTime) : Following :=
  { unit := f.unit, seq := f.seq, unitTime := f.time, extended := BitVec.setWidth 32 f.time,
    battery := f.battery, silence := later arrival 200 }

/-- R111: a frame extends the unit time. -/
def Following.extend (g : Following) (f : UnitFrame) (arrival : LaneTime) : Following :=
  { unit := g.unit, seq := f.seq, unitTime := f.time,
    extended := g.extended + BitVec.setWidth 32 (f.time - g.unitTime), battery := f.battery,
    silence := later arrival 200 }

/-- R110: the gap of a sequence number. -/
def seqGap (last seq : BitVec 8) : Nat := (seq - last - 1).toNat

/-- R110: a jump re-bases the link in UNSYNC. -/
def rebase (f : UnitFrame) (arrival : LaneTime) (s : State) : State :=
  let s1 := s.onPedal fun p =>
    { p with following := some (baseOf f arrival), offset := none, inWindow := 0, outRun := 0 }
  if s.pedal.state == .unsync then s1 else enterLink .unsync .sequenceJump s1

/-- R114: a frame in TENTATIVE with its error. -/
def tentativeFrame (f : UnitFrame) (arrival : LaneTime) (e : Int) (s : State) : State :=
  if e.natAbs ≤ s.pedal.window then
    let s1 := s.onPedal fun p => { p with inWindow := p.inWindow + 1 }
    if s1.pedal.inWindow ≥ 8 then
      (enterLink .sync .locked (s1.onPedal fun p => { p with outRun := 0 })).onPedal
        fun p => p.place f.samples
    else s1
  else s.onPedal fun p => p.retake arrival

/-- R115: a frame in SYNC with its error. -/
def syncFrame (f : UnitFrame) (arrival : LaneTime) (e : Int) (s : State) : State :=
  if e.natAbs ≤ s.pedal.window then
    s.onPedal fun p =>
      PedalLink.place { p with outRun := 0, offset := p.offset.map (fun o => trimmed o e) } f.samples
  else
    let s1 := s.onPedal fun p => { p with outRun := p.outRun + 1, withheld := bump 65535 p.withheld }
    if s1.pedal.outRun ≥ 3 then enterLink .tentative .outOfWindow (s1.onPedal fun p => p.retake arrival)
    else s1

/-- R112: the error of the frame just extended, from the offset as it stands. -/
def PedalLink.errorOf (p : PedalLink) (arrival : LaneTime) : Int :=
  match p.following, p.offset with
  | some g, some o => frameError arrival g.extended o p.latency
  | _, _ => 0

/-- R113 to R115: an extended frame by the link's state. One that takes the offset in UNSYNC passes no window test and
leaves the last error as it was (DESIGN CHOICE, log entry 47). -/
def handleFrame (f : UnitFrame) (arrival : LaneTime) (s : State) : State :=
  let e := s.pedal.errorOf arrival
  let tested := s.onPedal fun p => { p with lastError := some e }
  match s.pedal.state with
  | .absent => s
  | .unsync => enterLink .tentative .offsetTaken (s.onPedal fun p => p.retake arrival)
  | .tentative => tentativeFrame f arrival e tested
  | .sync => syncFrame f arrival e tested

/-- R110: lost frames counted and handed to the open brake trace. -/
def countGap (gap : Nat) (s : State) : State :=
  if gap = 0 then s
  else addPedalGap s.brake.openTrace gap (s.onPedal fun p => { p with lost := bumpBy 65535 p.lost gap })

/-- R110: an accepted frame of the followed unit. -/
def followFrame (g : Following) (f : UnitFrame) (arrival : LaneTime) (s : State) : State :=
  let gap := seqGap g.seq f.seq
  if gap = 255 then s.onPedal fun p => { p with duplicates := bump 65535 p.duplicates }
  else if 9 ≤ gap then rebase f arrival s
  else
    handleFrame f arrival ((countGap gap s).onPedal fun p => { p with following := some (g.extend f arrival) })

/-- R108: the link takes a frame with its arrival time. -/
def linkFrame (bytes : List Byte) (arrival : LaneTime) (s : State) : State :=
  let f := unitFrame bytes
  if !passes f.unit s.pedal.idMask s.pedal.idMatch then
    s.onPedal fun p => { p with filtered := bump 65535 p.filtered }
  else
    match s.pedal.following with
    | none => enterLink .unsync .firstFrame (s.onPedal fun p => { p with following := some (baseOf f arrival) })
    | some g =>
      if g.unit = f.unit then followFrame g f arrival s
      else s.onPedal fun p => { p with foreign := bump 65535 p.foreign }

/-- R106, R108: a complete frame is taken (log entry 6): the oldest one the receiver has handed on when it
is this one; with none handed on, a frame that completes at this moment. -/
def takePedalFrame (bytes : List Byte) (s : State) : State :=
  match s.pedal.completed with
  | (b, t) :: rest =>
    if b = bytes then linkFrame bytes t (s.onPedal fun p => { p with completed := rest }) else s
  | [] =>
    if bytes.length = 16 && bytes.head? == some pedalDelimiter then
      if pedalCrcOk bytes then linkFrame bytes s.now (s.onPedal fun p => { p with framed := true })
      else s.onPedal fun p => { p with framed := false, crcErrors := bump 65535 p.crcErrors }
    else s

/-- R116: the silence expiry. -/
def pedalSilent (s : State) : State :=
  if s.due (s.pedal.following.map Following.silence) then enterAbsent .silence s else s

/-! ## Settings, reports, RESTART (R119 to R121) -/

/-- R119: an accepted change of LATENCY. -/
def setLatency (v : Nat) (p : PedalLink) : PedalLink :=
  { p with latency := v,
           offset := p.offset.map (fun o => o + BitVec.ofInt 32 ((p.latency : Int) - (v : Int))) }

/-- R119: the followed unit is held to the filter after a change. -/
def applyFilter (s : State) : State :=
  match s.pedal.following with
  | none => s
  | some g => if passes g.unit s.pedal.idMask s.pedal.idMatch then s else enterAbsent .filterChanged s

/-- R120: GET_STATUS PEDAL. -/
def pedalReport (s : State) : PedalReport :=
  let p := s.pedal
  let f := p.following
  { state := p.state, framed := p.framed, unit := f.map (fun f => f.unit.toNat),
    seq := f.map (fun f => f.seq.toNat), extended := f.map Following.extended, offset := p.offset,
    lastError := p.lastError, inWindow := p.inWindow, outRun := p.outRun,
    battery := f.map Following.battery, silence := f.map Following.silence, entries := p.ring.length,
    oldest := p.ring.head?.map RingEntry.time, newest := p.ring.getLast?.map RingEntry.time,
    counts := [p.framingLosses, p.crcErrors, p.filtered, p.foreign, p.lost, p.duplicates, p.withheld,
               p.dropped] }

/-- R121: the link on RESTART. -/
def restartPedal (s : State) : State :=
  (enterAbsent .restart (s.onPedal fun p => { p with framed := false, frame := none })).onPedal
    fun p => { p with ring := [] }

end Sys2Proof.Machine
end

