-- ==== Sys2Proof/Machine/Signals.lean ====
section
/-! DEFINITION. The Lane Time Base and Signal Acquisition (chapter 2): conversions, pulse counts, windows, line
debounce and edges, SET_CLOCK, SET_CHANNELS and SET_LINES, and their reports. -/

namespace Sys2Proof.Machine

/-! ## Lane time and the wall clock (R27 to R29) -/

/-- R27: one millisecond passes. -/
def TimeBase.tick (b : TimeBase) : TimeBase := { b with now := b.now + 1 }

/-- R29: the reference moves forward once lane time has reached reference + 2^30. -/
def TimeBase.advance (b : TimeBase) : TimeBase :=
  if (b.now - b.refLane).toNat < 2 ^ 30 then b
  else if lastMs < b.refMs + 2 ^ 30 then { b with clockSet := false }
  else { b with refLane := b.refLane + BitVec.ofNat 32 (2 ^ 30), refMs := b.refMs + 2 ^ 30 }

/-- R28: SET_CLOCK. -/
def setClock (y mo d h mi sec : Nat) (s : State) : Handled :=
  if dateOk y mo d h mi sec then
    accept (s.onTime fun b => { b with refLane := b.now, refMs := msOfDate y mo d h mi sec, clockSet := true })
  else refuse .badField s

/-! ## Conversions (R30, R33) -/

/-- R33: a conversion at a rail. -/
def atRail (v : Nat) : Bool := v == 0 || decide (4095 ≤ v)

/-- R33: the runs and sensor state after a conversion. -/
def Channel.sense (c : Channel) (v : Nat) : Channel :=
  if c.faulted then
    if atRail v then { c with goodRun := 0 }
    else if c.goodRun + 1 ≥ 400 then { c with faulted := false, railRun := 0, goodRun := 0 }
    else { c with goodRun := c.goodRun + 1 }
  else if atRail v then
    { c with railRun := c.railRun + 1, goodRun := 0, faulted := decide (8 ≤ c.railRun + 1) }
  else { c with railRun := 0 }

/-- R30, R33: a channel takes a conversion. -/
def Channel.convert (c : Channel) (v : Nat) : Channel :=
  let d := c.sense v
  { d with total := d.total + v }

/-- R33: the FAULT notice of a channel whose sensor state changed. -/
def noticeSensor (old new : Channel) (n : Nat) (s : State) : State :=
  if old.faulted != new.faulted && old.fn != .unused then
    sendNotice (.sensorFault n old.fn new.faulted s.now) s
  else s

/-- The channels after one conversion of each. -/
def convertAll : List Channel → List Nat → List Channel
  | c :: cs, v :: vs => c.convert v :: convertAll cs vs
  | cs, [] => cs
  | [], _ => []

/-- R33: the notices of the changes between two channel tables. Of several on one conversion that of the lowest channel is
made first (DESIGN CHOICE, log entry 42). -/
def noticeSensors : (n : Nat) → List Channel → List Channel → State → State
  | n, a :: as, b :: bs, s => noticeSensors (n + 1) as bs (noticeSensor a b n s)
  | _, _, _, s => s

/-- R30: a conversion of every channel; a window holds at most four. -/
def takeConversion (values : List Nat) (s : State) : State :=
  if 4 ≤ s.sig.convs then s
  else
    let new := convertAll s.sig.channels values
    noticeSensors 0 s.sig.channels new
      (s.onSig fun g => { g with channels := new, convs := g.convs + 1 })

/-! ## Pulses (R35, R36) -/

/-- R35: a rising edge through the prescaler. -/
def Pulse.edge (p : Pulse) : Pulse :=
  if p.residue + 1 ≥ p.inForce then { p with residue := 0, total := bump 65535 p.total }
  else { p with residue := p.residue + 1 }

/-- A pulse counter changed. -/
def Signals.modPulse (g : Signals) (i : PulseInput) (f : Pulse → Pulse) : Signals :=
  match i with
  | .driveL => { g with driveL := f g.driveL }
  | .driveR => { g with driveR := f g.driveR }
  | .senseL => { g with senseL := f g.senseL }
  | .senseR => { g with senseR := f g.senseR }

/-- R36: an accepted prescaler; it takes effect from the next window. A change clears the residue and keeps the units
counted (log entry 38). -/
def Pulse.setPrescale (p : Pulse) (v : Nat) : Pulse :=
  if p.prescale = v then p else { p with prescale := v, residue := 0 }

/-- R35, R36: the total closes at a window end; a changed prescaler takes effect, and no residue of the old one goes
into its window (log entry 38). -/
def Pulse.close (p : Pulse) : Pulse :=
  { p with lastTotal := p.total, total := 0, inForce := p.prescale,
           residue := if p.inForce = p.prescale then p.residue else 0 }

/-- R36: RESTART. -/
def Pulse.restart (p : Pulse) : Pulse := { p with total := 0, residue := 0 }

/-! ## Windows (R30, R35, R44) -/

/-- R30: the sum of a window of `n` conversions. -/
def windowSum (n total : Nat) : Nat := if n = 4 then total else roundDiv (total * 4) n

/-- R30, R44: a channel at the end of a window of `n` conversions. -/
def Channel.close (n : Nat) (c : Channel) : Channel :=
  { c with total := 0, lastSum := windowSum n c.total, lastFaulted := c.faulted }

/-- R30: the sum of the channel that holds a function, from the closed channels. -/
def readingOf (f : ChannelFn) (cs : List Channel) : Option Reading :=
  (cs.findIdx? (fun c => c.fn == f)).bind fun i =>
    (cs[i]?).map fun c => { channel := i, sum := c.lastSum, faulted := c.lastFaulted }

/-- R35: the closed totals. -/
def Signals.totals (g : Signals) : PulseTotals :=
  { driveL := g.driveL.lastTotal, driveR := g.driveR.lastTotal, senseL := g.senseL.lastTotal,
    senseR := g.senseR.lastTotal }

/-- R30, R35: a window closed at lane time `t`. -/
def Signals.close (g : Signals) (t : LaneTime) : Signals :=
  { g with channels := g.channels.map (Channel.close g.convs), convs := 0, lastEnd := some t,
           driveL := g.driveL.close, driveR := g.driveR.close, senseL := g.senseL.close,
           senseR := g.senseR.close }

/-- R30: what a closed window delivers to a station. -/
def Signals.delivery (g : Signals) (t : LaneTime) : Delivery :=
  { stamp := t, brakeL := readingOf .brakeL g.channels, brakeR := readingOf .brakeR g.channels,
    weighL := readingOf .weighL g.channels, weighR := readingOf .weighR g.channels,
    plate := readingOf .plate g.channels, totals := g.totals }

/-- A closed window put on its way to both stations. -/
def Signals.deliver (g : Signals) (t : LaneTime) : Signals :=
  { g with entryInbox := g.entryInbox ++ [g.delivery t], brakeInbox := g.brakeInbox ++ [g.delivery t] }

/-- R27, R30: a window ends now: lane time is a multiple of 10 and the window holds a conversion. -/
def windowDue (s : State) : Bool := s.now.toNat % 10 == 0 && decide (0 < s.sig.convs)

/-- R30, R35: the window end at Signal Acquisition. -/
def closeWindow (s : State) : State := s.onSig fun g => (g.close s.now).deliver s.now

/-! ## Lane lines (R37 to R41) -/

/-- The other of the two levels. -/
def Level.other : Level → Level
  | .high => .low
  | .low => .high

/-- R37: a level reads active. -/
def Line.reads (l : Line) (high : Bool) : Bool :=
  match l.level with
  | .high => high
  | .low => !high

/-- R38: a line after a sample, with whether its debounced state changed. -/
def Line.sample (l : Line) (high : Bool) (now : LaneTime) : Line × Bool :=
  if !l.fn.isInput then (l, false)
  else if l.reads high == l.debounced then ({ l with change := none }, false)
  else
    let start := l.change.getD now
    if l.debounce ≤ (now - start).toNat then
      ({ l with debounced := !l.debounced, change := none }, true)
    else ({ l with change := some start }, false)

/-- R38: the lines from number `n` on after a sample, and the edges they give. -/
def sampleLines : (n : Nat) → (levels : BitVec 24) → LaneTime → List Line → List Line × List Edge
  | _, _, _, [] => ([], [])
  | n, levels, now, l :: ls =>
    let (l', changed) := l.sample (levels.getLsbD n) now
    let (rest, es) := sampleLines (n + 1) levels now ls
    (l' :: rest, (if changed then [{ fn := l'.fn, active := l'.debounced, stamp := now }] else []) ++ es)

/-- R38: every input line sampled. -/
def takeLineSample (levels : BitVec 24) (s : State) : State :=
  s.onSig fun g =>
    let r := sampleLines 0 levels s.now g.lines
    { g with lines := r.1, edges := g.edges ++ r.2 }

/-- The first edge of a function removed. -/
def dropEdge (f : LineFn) : List Edge → List Edge
  | [] => []
  | e :: es => if e.fn = f then es else e :: dropEdge f es

/-- R38, R37: an edge of a function reaches its owner (log entry 6): the oldest one on its way if it is of
this direction; with none on its way, a change of the line's debounced state at this moment. Gives its
stamp. -/
def takeEdge (f : LineFn) (active : Bool) (s : State) : Option (LaneTime × State) :=
  match s.sig.edges.find? (fun e => e.fn == f) with
  | some e =>
    if e.active == active then some (e.stamp, s.onSig fun g => { g with edges := dropEdge f g.edges })
    else none
  | none =>
    match lineWith f s with
    | none => none
    | some i =>
      if inputActive f s == active then none
      else some (s.now, s.onSig fun g =>
        { g with lines := tableMod g.lines i (fun l => { l with debounced := active, change := none }) })

/-- An owner takes an edge of a function, with its stamp; nothing where there is none. -/
def onEdge (f : LineFn) (active : Bool) (k : LaneTime → State → State) (s : State) : State :=
  match takeEdge f active s with
  | some (t, s') => k t s'
  | none => s

/-- R40: a line restarted with a new setting, and the inactive edge its old function gives. An output line or one without a
function stores the debounce byte carried, which R199 calls not used, and GET_CONFIG reports it (DESIGN CHOICE, log
entry 53). -/
def restartLine (now : LaneTime) (e : Nat × LineFn × Level × Nat) (g : Signals) : Signals :=
  let old := g.lines.getD e.1 Line.reset
  { g with
      lines := g.lines.set e.1
        { fn := e.2.1, level := e.2.2.1, debounce := e.2.2.2, debounced := false, change := none }
      edges := if old.fn.isInput && old.debounced then
          g.edges ++ [{ fn := old.fn, active := false, stamp := now }]
        else g.edges }

/-- No function but NONE stands twice in a list. -/
def linesDistinct (ls : List Line) : Bool :=
  distinct ((ls.filter (fun l => l.fn != .none)).map (fun l => codeIn lineFns l.fn))

/-- R40: SET_LINES. -/
def setLines (entries : List RawLine) (s : State) : Handled :=
  match readAll lineOf entries with
  | none => refuse .badField s
  | some es =>
    if es.isEmpty || 24 < es.length || !distinct (es.map Prod.fst) then refuse .badField s
    else
      let s' := s.onSig fun g => es.foldl (fun g e => restartLine s.now e g) g
      if !linesDistinct s'.sig.lines then refuse .badField s
      else if !stationIdle .entry s || !stationIdle .brake s then refuse .busy s
      else accept s'

/-! ## Channels (R31, R32) -/

/-- R32: the channel table after assignments. -/
def assignChannels (as : List (Nat × ChannelFn)) (cs : List Channel) : List Channel :=
  as.foldl (fun cs a => tableMod cs a.1 (fun c => { c with fn := a.2 })) cs

/-- R31: no function but UNUSED stands twice. -/
def channelsDistinct (cs : List Channel) : Bool :=
  distinct ((cs.filter (fun c => c.fn != .unused)).map (fun c => codeIn channelFns c.fn))

/-- R32 check 3: the owner of a function is not IDLE. -/
def ownerBusy (f : ChannelFn) (s : State) : Bool :=
  match ownerOf f with
  | some st => !stationIdle st s
  | none => false

/-- R32 check 3: an assignment that changes a function whose owners are not both IDLE. -/
def assignmentBusy (s : State) (a : Nat × ChannelFn) : Bool :=
  let old := (s.sig.channels.getD a.1 Channel.reset).fn
  old != a.2 && (ownerBusy old s || ownerBusy a.2 s)

/-- R32: SET_CHANNELS at Signal Acquisition. -/
def setChannelTable (assignments : List (Nat × Nat)) (s : State) : Handled :=
  match readAll assignmentOf assignments with
  | none => refuse .badField s
  | some as =>
    if as.isEmpty || 16 < as.length || !distinct (as.map Prod.fst) then refuse .badField s
    else if !channelsDistinct (assignChannels as s.sig.channels) then refuse .badField s
    else if as.any (assignmentBusy s) then refuse .busy s
    else accept (s.onSig fun g => { g with channels := assignChannels as g.channels })

/-! ## Reports (R42) and RESTART (R36, R39, R41) -/

/-- R39: a lamp is lit at a lane time. -/
def Lamp.lit (l : Lamp) (t : LaneTime) : Bool :=
  match l with
  | .off => false
  | .on => true
  | .flash => decide (t.toNat % 1000 < 500)

/-- R39: an output function is lit; none for an input or NONE. -/
def outputLit (f : LineFn) (s : State) : Option Bool :=
  let o := s.sig.outputs
  match f with
  | .runL => some o.runL
  | .runR => some o.runR
  | .entryRed => some (o.entryRed.lit s.now)
  | .entryGreen => some (o.entryGreen.lit s.now)
  | .brakeRed => some (o.brakeRed.lit s.now)
  | .brakeAmber => some (o.brakeAmber.lit s.now)
  | .brakeGreen => some (o.brakeGreen.lit s.now)
  | .entryBarrier | .slipPlateSwitch | .exitBarrier | .wheelL | .wheelR | .driveReadyL | .driveReadyR
  | .estop | .none => none

/-- R39: the level a line drives: its active level while its function is lit, the other while it is not; none for an
input and for NONE, which is at high impedance (R40). -/
def Line.driven (l : Line) (s : State) : Option Level :=
  (outputLit l.fn s).map fun lit => if lit then l.level else Level.other l.level

/-- R42: a line as reported. -/
def lineReport (s : State) (l : Line) : LineReport :=
  { fn := l.fn, on := if l.fn.isInput then some l.debounced else outputLit l.fn s }

/-- R42: GET_STATUS SIGNALS. A counter's prescaler is the setting last accepted, which a window may still run without
(log entry 41). -/
def signalsReport (s : State) : SignalsReport :=
  { now := s.now, clockSet := s.time.clockSet, date := convertTime s.time s.now
    channels := s.sig.channels.map (fun c =>
      { fn := c.fn, faulted := c.lastFaulted, sum := c.lastSum, endTime := s.sig.lastEnd })
    counters := [s.sig.driveL, s.sig.driveR, s.sig.senseL, s.sig.senseR].map
      (fun p => (p.prescale, p.lastTotal))
    lines := s.sig.lines.map (lineReport s) }

/-- R36, R39, R41: Signal Acquisition on RESTART. -/
def restartSignals (s : State) : State :=
  s.onSig fun g =>
    { g with outputs := Outputs.off, driveL := g.driveL.restart, driveR := g.driveR.restart,
             senseL := g.senseL.restart, senseR := g.senseR.restart }

end Sys2Proof.Machine
end

