-- ==== Sys2Proof/Machine/HostPort.lean ====
section
/-! DEFINITION. The Host Port (chapter 11): receiver, receive buffer, requests and replies, the transmitter,
SET_LIVE, GET_STATUS, SET_CONFIG, GET_CONFIG and RESTART. -/

namespace Sys2Proof.Machine

/-! ## The receiver (R189) -/

/-- R189: a byte in hunting; only one with a good stop bit starts a frame (log entry 16). -/
def HostPort.huntByte (p : HostPort) (b : Byte) (ok : Bool) (now : LaneTime) : HostPort :=
  if ok && b == 0xA5 then { p with frame := some { bytes := [b], last := now } } else p

/-- R200: the payload length of a frame in collection. -/
def hostLength (bytes : List Byte) : Nat := leNat (field bytes 1 2)

/-- R200: the frame a complete byte sequence holds; none when the check does not match. -/
def hostFrameOf (bytes : List Byte) : Option HostFrame :=
  let n := bytes.length
  if (crc16 ((bytes.drop 1).take (n - 3))).toNat = leNat (field bytes (n - 2) 2) then
    some { kind := (bytes.getD 3 0).toNat, tag := leNat (field bytes 4 2), payload := field bytes 6 (n - 8) }
  else none

/-- R189: the last byte of a frame has arrived. -/
def HostPort.completeFrame (p : HostPort) (bytes : List Byte) : HostPort :=
  match hostFrameOf bytes with
  | some f => { p with frame := none, completed := p.completed ++ [f] }
  | none => { p with frame := none, crcDiscards := bump 65535 p.crcDiscards }

/-- R189: a byte from the host. -/
def HostPort.takeByte (p : HostPort) (b : Byte) (ok : Bool) (now : LaneTime) : HostPort :=
  match p.frame with
  | none => p.huntByte b ok now
  | some f =>
    if 50 < (now - f.last).toNat then
      HostPort.huntByte { p with frame := none, gapDiscards := bump 65535 p.gapDiscards } b ok now
    else if !ok then { p with frame := none, framingDiscards := bump 65535 p.framingDiscards }
    else
      let bytes := f.bytes ++ [b]
      if bytes.length = 3 && 1024 < hostLength bytes then
        { p with frame := none, lengthDiscards := bump 65535 p.lengthDiscards }
      else if 3 ≤ bytes.length && bytes.length = 8 + hostLength bytes then p.completeFrame bytes
      else { p with frame := some { bytes := bytes, last := now } }

/-! ## The receive buffer (R190) -/

/-- R190: a complete frame reaches the buffer, or is answered BUSY, or is dropped unanswered. -/
def bufferFrame (f : HostFrame) (s : State) : State :=
  if s.port.buffer.length < 4 then s.onPort fun p => { p with buffer := p.buffer ++ [f] }
  else if refusalCount s.port < 4 then
    s.onPort fun p => { p with replies := p.replies
      ++ [{ kind := f.kind, tag := f.tag, status := .busy, body := .none, refusal := true }] }
  else s.onPort fun p => { p with unanswered := bump 65535 p.unanswered }

/-- R190: HOST_FRAME_RECEIVED (log entry 6): the oldest complete frame when it is this one; with none
waiting, a frame that completes at this moment. -/
def takeHostFrame (f : HostFrame) (s : State) : State :=
  match s.port.completed with
  | g :: rest => if g = f then bufferFrame f (s.onPort fun p => { p with completed := rest }) else s
  | [] => if f.payload.length ≤ 1024 then bufferFrame f s else s

/-! ## Requests (R191) -/

/-- R191: the head frame is taken when the reply queue has a free place. -/
def takeRequestFrame (s : State) : State :=
  match s.port.buffer with
  | [] => s
  | f :: rest =>
    if 4 ≤ placesHeld s then s
    else
      let s1 := s.onPort fun p => { p with buffer := rest }
      match readRequest f.kind f.tag f.payload with
      | .unknownKind => postReply f.kind f.tag .unknownKind .none s1
      | .badLength => postReply f.kind f.tag .badLength .none s1
      | .request i => s1.onPort fun p => { p with handed := p.handed ++ [i] }

/-- What an owner's answer puts into the held place; nothing for a withheld reply. It stands before the BUSY of a
collection that the request's retried binding abandons (DESIGN CHOICE, log entry 42). -/
def postAnswer (kind tag : Nat) (h : Handled) : State :=
  match h.reply with
  | some (st, b) => postReply kind tag st b h.state
  | none => h.state

/-- R191: a request can reach its owner (log entry 6): the Host Port has handed it on, or the reply queue has a
free place, so that it is taken at this moment. R191 orders the taking of requests and not their owners' acting on them: of the
requests handed on any one may be carried out next, not the oldest only, RESTART among them (DESIGN CHOICE, log entry 6). -/
def reachesOwner (i : Instr) (s : State) : Bool := s.port.handed.contains i || decide (placesHeld s < 4)

/-- The state as the owner meets it: the request, if it was handed on, is with the Host Port no longer. -/
def atOwner (i : Instr) (s : State) : State :=
  if s.port.handed.contains i then s.onPort fun p => { p with handed := p.handed.erase i } else s

/-- R191: a request is answered by its owner into the place held for it. -/
def answer (i : Instr) (kind tag : Nat) (op : State → Handled) (s : State) : State :=
  if reachesOwner i s then postAnswer kind tag (op (atOwner i s)) else s

/-! ## The transmitter (R188, R194) -/

/-- R194: the live frame. -/
def liveFrameBytes (f : LiveFrame) : List Byte := hostFrame 0x4D 0 (liveBytes f)

/-- R194: a notice's frame with its number. -/
def noticeFrameBytes (n : Nat × Notice) : List Byte := hostFrame (noticeBytes n.2).1 n.1 (noticeBytes n.2).2

/-- R191, R194: a reply's frame. -/
def replyFrameBytes (r : Reply) : List Byte := hostFrame 0x80 r.tag (replyBytes r)

/-- R194: the next frame begins: a reply, else a notice, else the live frame; its first byte needs CTS. -/
def HostPort.begin (p : HostPort) : HostPort :=
  if p.transmitting.isSome || !p.cts then p
  else
    match p.replies, p.notices, p.live with
    | r :: rest, _, _ => { p with replies := rest, transmitting := some { bytes := replyFrameBytes r } }
    | [], n :: rest, _ => { p with notices := rest, transmitting := some { bytes := noticeFrameBytes n } }
    | [], [], some f => { p with live := none, transmitting := some { bytes := liveFrameBytes f } }
    | [], [], none => p

/-! ## SET_LIVE and GET_STATUS (R193, R195) -/

/-- R193: SET_LIVE. -/
def setLive (station divider : Nat) (s : State) : Handled :=
  if 100 < divider then refuse .badField s
  else
    match ofCode stations station with
    | some .entry => accept (s.onPort fun p => { p with entryDivider := divider, entryLiveCount := 0 })
    | some .brake => accept (s.onPort fun p => { p with brakeDivider := divider, brakeLiveCount := 0 })
    | none => refuse .badField s

/-- R195: the port summary; the request's own place is among those held. -/
def portSummary (s : State) : PortSummary :=
  let p := s.port
  { buffered := p.buffer.length, places := placesHeld s + 1, refusals := refusalCount p,
    notices := p.notices.length, overflow := p.overflow, lastNotice := p.lastNotice,
    entryDivider := p.entryDivider, brakeDivider := p.brakeDivider, live := p.live.isSome,
    gapDiscards := p.gapDiscards, lengthDiscards := p.lengthDiscards, framingDiscards := p.framingDiscards,
    crcDiscards := p.crcDiscards, unanswered := p.unanswered, fast := p.fast }

/-- R195: the report of a section. -/
def reportOf (sect : Nat) (s : State) : Option Report :=
  match sect with
  | 0 => some (.signals (signalsReport s))
  | 1 => some (.entry (entryReport s))
  | 2 => some (.brake (brakeReport s))
  | 3 => some (.pedal (pedalReport s))
  | 4 => some (.guidance (guideReport s.guide.entry) (guideReport s.guide.brake))
  | 5 => some (.traces (tracesReport s))
  | 6 => some (.certificates (certReport s) s.cert.badFrames s.cert.creditExcess)
  | 7 => some (.store (storeReport s))
  | 8 => some .port
  | _ => none

/-- R195, R192: GET_STATUS reports and clears NOTICE_OVERFLOW. -/
def getStatus (sect : Nat) (s : State) : Handled :=
  match reportOf sect s with
  | none => refuse .badField s
  | some r => acceptWith (.status (portSummary s) r) (s.onPort fun p => { p with overflow := false })

/-! ## Settings (R196) -/

/-- R196: the settings by identifier. -/
def settingsOf (s : State) : List (Nat × Nat) :=
  [ (1, s.vt.dynMax), (2, s.vt.ageLimit), (3, s.vt.defaultClass), (4, s.sig.driveL.prescale)
  , (5, s.sig.driveR.prescale), (6, s.sig.senseL.prescale), (7, s.sig.senseR.prescale), (8, s.entry.axleOn)
  , (9, s.entry.settleBand), (10, s.brake.slipLimit), (11, s.brake.imbFloor), (12, s.pedal.idMask)
  , (13, s.pedal.idMatch), (14, s.pedal.latency), (15, s.pedal.window)
  , (16, if s.traces.hostHold then 1 else 0), (17, s.traces.drainLevel), (18, s.cert.resultAgeMax) ]

/-- The value a request carries for an identifier. -/
def carried (es : List (Nat × Nat)) (i : Nat) : Option Nat := (es.find? (fun e => e.1 == i)).map Prod.snd

/-- The value of a setting as it would stand after the request. -/
def afterwards (es : List (Nat × Nat)) (i : Nat) (s : State) : Nat :=
  (carried es i).getD (((settingsOf s).lookup i).getD 0)

/-- R196 check 1. -/
def configListOk (es : List (Nat × Nat)) : Bool :=
  !es.isEmpty && decide (es.length ≤ 18) && es.all (fun e => decide (1 ≤ e.1) && decide (e.1 ≤ 18))
    && distinct (es.map Prod.fst)

/-- R119: the joint range of LATENCY and WINDOW, when a Pedal Link setting is carried. -/
def jointOk (es : List (Nat × Nat)) (s : State) : Bool :=
  !es.any (fun e => decide (12 ≤ e.1) && decide (e.1 ≤ 15)) || decide (afterwards es 14 s + afterwards es 15 s < 120)

/-- R6: the state check of DYN_MAX. -/
def dynMaxOk (es : List (Nat × Nat)) (s : State) : Bool :=
  match carried es 1 with
  | none => true
  | some v => decide (dynamicCount s ≤ v) && decide (bookedCount s ≤ 32 - v)

/-- The station that must be IDLE for a setting to change (R36, R46, R63, R95, R119). -/
def settingOwner (i : Nat) : Option Station :=
  if i = 8 || i = 9 then some .entry
  else if (4 ≤ i && i ≤ 7) || (10 ≤ i && i ≤ 15) then some .brake
  else none

/-- R196 check 5: an entry that changes a setting whose station is not IDLE. -/
def settingBusy (s : State) (e : Nat × Nat) : Bool :=
  match settingOwner e.1 with
  | none => false
  | some st => (settingsOf s).lookup e.1 != some e.2 && !stationIdle st s

/-- R196: every value carried is taken. -/
def storeSetting (s : State) (e : Nat × Nat) : State :=
  match e.1 with
  | 1 => s.onVt fun v => { v with dynMax := e.2 }
  | 3 => s.onVt fun v => { v with defaultClass := e.2 }
  | 4 => s.onSig fun g => g.modPulse .driveL (fun p => p.setPrescale e.2)
  | 5 => s.onSig fun g => g.modPulse .driveR (fun p => p.setPrescale e.2)
  | 6 => s.onSig fun g => g.modPulse .senseL (fun p => p.setPrescale e.2)
  | 7 => s.onSig fun g => g.modPulse .senseR (fun p => p.setPrescale e.2)
  | 8 => s.onEntry fun x => { x with axleOn := e.2 }
  | 9 => s.onEntry fun x => { x with settleBand := e.2 }
  | 10 => s.onBrake fun b => { b with slipLimit := e.2 }
  | 11 => s.onBrake fun b => { b with imbFloor := e.2 }
  | 12 => s.onPedal fun p => { p with idMask := e.2 }
  | 13 => s.onPedal fun p => { p with idMatch := e.2 }
  | 14 => s.onPedal (setLatency e.2)
  | 15 => s.onPedal fun p => { p with window := e.2 }
  | 16 => s.onTraces fun t => { t with hostHold := e.2 == 1 }
  | 17 => s.onTraces fun t => { t with drainLevel := e.2 }
  | 18 => s.onCert fun c => { c with resultAgeMax := e.2 }
  | _ => s

/-- R152: TRACE_READY for a lowered DRAIN_LEVEL. -/
def drainLowered (old : Nat) (s : State) : State :=
  let n := s.traces.drain.length
  if s.traces.drainLevel ≤ n && n < old then sendNotice (.traceReady n (s.traces.drain.headD 0)) s else s

/-- R196: the effects of an accepted request: the values, then what each owner's rule adds. -/
def applyConfig (es : List (Nat × Nat)) (s : State) : State :=
  let s1 := es.foldl storeSetting s
  let s2 := if s1.vt.dynMax = s.vt.dynMax then s1 else noteRetry s1
  let s3 := match carried es 2 with
    | some v => setAgeLimit v s2
    | none => s2
  applyFilter (drainLowered s.traces.drainLevel s3)

/-- R196: SET_CONFIG. -/
def setConfig (es : List (Nat × Nat)) (s : State) : Handled :=
  if !configListOk es then refuse .badField s
  else if !es.all (fun e => settingOk e.1 e.2) then refuse .badField s
  else if !jointOk es s then refuse .badField s
  else if !dynMaxOk es s then refuse .state s
  else if es.any (settingBusy s) then refuse .busy s
  else accept (applyConfig es s)

/-- R196: GET_CONFIG. -/
def getConfig (s : State) : Handled :=
  acceptWith (.config
    { settings := settingsOf s, channels := s.sig.channels.map Channel.fn
      lines := s.sig.lines.map (fun l => (l.fn, l.level, l.debounce))
      programs := (List.range 8).map (programAt s.guide) }) s

/-! ## SET_CHANNELS as a whole (R32, R184) -/

/-- R184: the function of the channel in collection changed. -/
def collectionMoved (s s' : State) : Bool :=
  s.cal.collection.any (fun c =>
    (s.sig.channels.getD c.channel Channel.reset).fn != (s'.sig.channels.getD c.channel Channel.reset).fn)

/-- R32, R184: SET_CHANNELS; a change of the channel in collection abandons the collection, whose BUSY reply is made
before the OK of SET_CHANNELS (DESIGN CHOICE, log entry 42). -/
def setChannels (assignments : List (Nat × Nat)) (s : State) : Handled :=
  let h := setChannelTable assignments s
  if collectionMoved s h.state then { h with state := abandonCollection h.state } else h

/-! ## RESTART and reset (R26, R197, R25, R187, R198) -/

/-- R197: the Host Port on RESTART. -/
def restartPort (s : State) : State :=
  s.onPort fun p => { p with entryDivider := 0, brakeDivider := 0, entryLiveCount := 0, brakeLiveCount := 0,
                             live := none }

/-- R26, R157, R197: RESTART: jobs, stations and lane, print holds, records, then the other blocks. Of the two stations
the entry station returns to IDLE and closes its trace first, and both return before Guidance enters its programs
(R140; DESIGN CHOICE, log entry 42). A printer frame in collection and the frames in transmission stay, of which R176
and R140 say nothing (DESIGN CHOICE, log entry 21). -/
def restartPart (s : State) : State :=
  let lane := emptyLane (restartBrake (restartEntry (restartJobs s)))
  let records := restartRecords (clearPrintHolds (fun _ => true) lane)
  restartPort (restartGuidance (restartPedal (restartSignals records)))

/-- R188: the rate a strap level selects (log entry 5): HIGH selects 460 800 bit/s. -/
def strapFast : Level → Bool
  | .high => true
  | .low => false

/-- R25, R27, R182, R187, R198: power-on and the reset line. The EEPROM keeps its contents but for a page in
the middle of a write; the level of CTS is the host's, and the commands waiting are not the part's. -/
def resetPart (strap : Level) (s : State) : State :=
  let t := tornByReset s
  { State.reset with
      pending := s.pending, eeprom := t.eeprom, torn := t.torn
      port := { HostPort.reset with fast := strapFast strap, cts := s.port.cts } }

end Sys2Proof.Machine
end

