-- ==== Sys2Proof/Machine/Settle.lean ====
section
/-! DEFINITION. What follows within one event after its own effect: writes begin, the brake station is told of
a change of head, a waiting binding and a waiting axle are tried again, a collection is held to its station,
and Guidance takes the results in order (R12, R65, R67, R126, R181, R184). -/

namespace Sys2Proof.Machine

/-- R181, R185: the write queue; every commit that cannot be written leaves it, so its length bounds the work. -/
def settleWrites (s : State) : State := pumpWrites (s.cal.queue.length + 1) s

/-- R65: the brake station is told of a change of head, if there was one. -/
def settleHead (s : State) : State :=
  if s.work.headMoved then headChanged (s.onWork fun w => { w with headMoved := false }) else s

/-- R12: a waiting binding is tried again, if an event asks for it. -/
def settleRetry (s : State) : State :=
  if s.work.retry then retryBinding (s.onWork fun w => { w with retry := false }) else s

/-- R67: a waiting axle is matched again, if an event asks for it. -/
def settleRematch (s : State) : State :=
  if s.work.rematch then rematchAxle (s.onWork fun w => { w with rematch := false }) else s

/-- R126: Guidance takes the results handed to it; nothing is owed afterwards. -/
def settleGuidance (s : State) : State :=
  s.work.items.foldl takeItem (s.onWork fun _ => Work.none)

/-- What follows an event's own effect. A request's own reply is made before it, and the BUSY of a collection abandoned
here stands behind that reply (DESIGN CHOICE, log entry 42). -/
def settle (s : State) : State :=
  settleGuidance (guardCollection (settleRematch (settleHead (settleRetry (settleHead (settleWrites s))))))

/-- A command's outcome: its effect and what follows it. -/
def finish (s : State) : Out := .next (settle s)

/-- The same for an effect that may end in a fault. -/
def finishOut : Out → Out
  | .next s => finish s
  | .fault f => .fault f
  | .refused r => .refused r

end Sys2Proof.Machine
end

