-- ==== Sys2Proof/Machine/ExecEdges.lean ====
section
/-! DEFINITION. Meanings of the edge events of the lane lines as their owners take them:
ENTRY_BARRIER_ACTIVE to ESTOP_INACTIVE. -/

namespace Sys2Proof.Machine

/-- ENTRY_BARRIER_ACTIVE (R48, R49, R56). -/
def execEntryBarrierActive (s : State) : Out :=
  finish (onEdge .entryBarrier true (fun _ => barrierActive) s)

/-- ENTRY_BARRIER_INACTIVE (R49, R56). -/
def execEntryBarrierInactive (s : State) : Out :=
  finish (onEdge .entryBarrier false (fun _ => barrierInactive) s)

/-- SLIP_PLATE_SWITCH_ACTIVE (R50). -/
def execSlipPlateSwitchActive (s : State) : Out :=
  finish (onEdge .slipPlateSwitch true (fun _ => plateActive) s)

/-- SLIP_PLATE_SWITCH_INACTIVE (R51). -/
def execSlipPlateSwitchInactive (s : State) : Out :=
  finish (onEdge .slipPlateSwitch false (fun _ => plateInactive) s)

/-- EXIT_BARRIER_BROKEN (R20): the input reads active. -/
def execExitBarrierBroken (s : State) : Out :=
  finish (onEdge .exitBarrier true (fun _ => exitBroken) s)

/-- EXIT_BARRIER_CLEAR (R20): the input reads inactive. -/
def execExitBarrierClear (s : State) : Out :=
  finish (onEdge .exitBarrier false (fun _ => exitCleared) s)

/-- WHEEL_ACTIVE (R66, R77). -/
def execWheelActive (side : Side) (s : State) : Out :=
  finish (onEdge (wheelFn side) true (wheelCame side) s)

/-- WHEEL_INACTIVE (R66, R67, R77, R79). -/
def execWheelInactive (side : Side) (s : State) : Out :=
  finish (onEdge (wheelFn side) false (wheelWent side) s)

/-- DRIVE_READY_ACTIVE (R70). -/
def execDriveReadyActive (side : Side) (s : State) : Out :=
  finish (onEdge (readyFn side) true (fun _ => driveCame) s)

/-- DRIVE_READY_INACTIVE (R70, R80). -/
def execDriveReadyInactive (side : Side) (s : State) : Out :=
  finish (onEdge (readyFn side) false (fun _ => driveWent) s)

/-- ESTOP_ACTIVE (R80). -/
def execEstopActive (s : State) : Out := finish (onEdge .estop true (fun _ => estopCame) s)

/-- ESTOP_INACTIVE (R81): the input goes inactive; only ACK_FAULT leaves FAULT. -/
def execEstopInactive (s : State) : Out := finish (onEdge .estop false (fun _ t => t) s)

end Sys2Proof.Machine
end

