-- ==== Sys2Proof/Machine/ExecLinks.lean ====
section
/-! DEFINITION. Meanings of what the serial lines and Guidance's times bring: PEDAL_BYTE to
HOST_TRANSMIT_END. -/

namespace Sys2Proof.Machine

/-- PEDAL_BYTE (R106). -/
def execPedalByte (byte : Byte) (stopOk : Bool) (idleUs : Nat) (s : State) : Out :=
  finish (s.onPedal fun p => p.takeByte byte stopOk idleUs s.now)

/-- PEDAL_FRAME (R108 to R117). -/
def execPedalFrame (bytes : List Byte) (s : State) : Out := finish (takePedalFrame bytes s)

/-- PEDAL_SILENCE_EXPIRY (R116). -/
def execPedalSilenceExpiry (s : State) : Out := finish (pedalSilent s)

/-- STEP_TIMEOUT (R131). -/
def execStepTimeout (station : Station) (s : State) : Out := finish (stepTimedOut station s)

/-- SHOW_REFRESH (R137). -/
def execShowRefresh (station : Station) (s : State) : Out := finish (refreshShow station s)

/-- PROMPT_TRANSMIT_BEGIN (R135). -/
def execPromptTransmitBegin (s : State) : Out := finish (beginPrompt s)

/-- PROMPT_TRANSMIT_END (R135). -/
def execPromptTransmitEnd (s : State) : Out := finish (endPrompt s)

/-- PRINTER_BYTE (R162). -/
def execPrinterByte (byte : Byte) (stopOk : Bool) (s : State) : Out :=
  finish (s.onCert fun c => c.takeByte byte stopOk s.now)

/-- HELLO (R164, R170). -/
def execHello (window : Nat) (s : State) : Out :=
  finish (takePrinter (.hello window) (decide (1 ≤ window) && decide (window ≤ 32))
    (fun _ => takeHello window) s)

/-- STATUS (R163). -/
def execStatus (condition : PrinterCondition) (s : State) : Out :=
  finish (takePrinter (.status condition) true (fun t => takeStatus condition t) s)

/-- CREDIT (R164, R171). -/
def execCredit (n : Nat) (s : State) : Out :=
  finish (takePrinter (.credit n) (decide (1 ≤ n) && decide (n ≤ 32)) (fun _ => takeCredit n) s)

/-- PRINTER_SILENCE_EXPIRY (R163). -/
def execPrinterSilenceExpiry (s : State) : Out := finish (printerSilent s)

/-- PRINTER_TRANSMIT_BEGIN (R164, R165). -/
def execPrinterTransmitBegin (s : State) : Out := finish (beginPrinter s)

/-- PRINTER_TRANSMIT_END (R165). -/
def execPrinterTransmitEnd (s : State) : Out := finish (endPrinter s)

/-- EEPROM_WRITE_END (R182): the EEPROM acknowledges the write, or answers NO_ACK. -/
def execEepromWriteEnd (ack : Bool) (s : State) : Out := finishOut (finishWrite (writeEnded ack s) s)

/-- EEPROM_ACK_TIMEOUT (R182): nothing before 10 ms have passed since the transfer. -/
def execEepromAckTimeout (s : State) : Out :=
  if s.cal.writing.any (fun w => w.timedOut s.now) then finishOut (finishWrite (.failure .timeout) s) else finish s

/-- CTS_CHANGE (R188). -/
def execCtsChange (asserted : Bool) (s : State) : Out :=
  finish (s.onPort fun p => { p with cts := asserted })

/-- HOST_BYTE (R189). -/
def execHostByte (byte : Byte) (stopOk : Bool) (s : State) : Out :=
  finish (s.onPort fun p => p.takeByte byte stopOk s.now)

/-- HOST_FRAME_RECEIVED (R190). -/
def execHostFrameReceived (kind tag : Nat) (payload : List Byte) (s : State) : Out :=
  finish (takeHostFrame { kind := kind, tag := tag, payload := payload } s)

/-- REQUEST_TAKEN (R191). -/
def execRequestTaken (s : State) : Out := finish (takeRequestFrame s)

/-- HOST_TRANSMIT_BEGIN (R188, R194). -/
def execHostTransmitBegin (s : State) : Out := finish (s.onPort HostPort.begin)

/-- HOST_TRANSMIT_END (R194). -/
def execHostTransmitEnd (s : State) : Out := finish (s.onPort fun p => { p with transmitting := none })

end Sys2Proof.Machine
end

