-- ==== Sys2Proof/Machine/ExecRequests.lean ====
section
/-! DEFINITION. Meanings of the host requests, each with the request's kind and tag: GET_STATUS to SET_COUNTER
(section 11.5). A request's reply goes into the place held for it (R191). -/

namespace Sys2Proof.Machine

/-- GET_STATUS (R195). -/
def execGetStatus (tag sect : Nat) (s : State) : Out :=
  finish (answer (.getStatus tag sect) 0x01 tag (getStatus sect) s)

/-- RESTART (R26, R197). -/
def execRestart (tag : Nat) (s : State) : Out :=
  finish (answer (.restart tag) 0x02 tag (fun t => accept (restartPart t)) s)

/-- SET_CLOCK (R28). -/
def execSetClock (tag year month day hour minute second : Nat) (s : State) : Out :=
  finish (answer (.setClock tag year month day hour minute second) 0x03 tag
    (setClock year month day hour minute second) s)

/-- SET_CONFIG (R196). -/
def execSetConfig (tag : Nat) (entries : List (Nat × Nat)) (s : State) : Out :=
  finish (answer (.setConfig tag entries) 0x04 tag (setConfig entries) s)

/-- GET_CONFIG (R196). -/
def execGetConfig (tag : Nat) (s : State) : Out :=
  finish (answer (.getConfig tag) 0x05 tag getConfig s)

/-- SET_CHANNELS (R32). -/
def execSetChannels (tag : Nat) (assignments : List (Nat × Nat)) (s : State) : Out :=
  finish (answer (.setChannels tag assignments) 0x06 tag (setChannels assignments) s)

/-- SET_LINES (R40). -/
def execSetLines (tag : Nat) (entries : List RawLine) (s : State) : Out :=
  finish (answer (.setLines tag entries) 0x07 tag (setLines entries) s)

/-- LOAD_CLASS (R24). -/
def execLoadClass (tag cls loaded : Nat) (fields : Option RawClass) (s : State) : Out :=
  finish (answer (.loadClass tag cls loaded fields) 0x08 tag (loadClass cls loaded fields) s)

/-- LOAD_PROGRAM (R124). -/
def execLoadProgram (tag program unload : Nat) (content : Option RawProgram) (s : State) : Out :=
  finish (answer (.loadProgram tag program unload content) 0x09 tag (loadProgram program unload content) s)

/-- BOOK_VEHICLE (R8). -/
def execBookVehicle (tag : Nat) (id : Text) (cls : Nat) (expected : Option Nat) (parking : List Nat)
    (s : State) : Out :=
  finish (answer (.bookVehicle tag id cls expected parking) 0x0A tag
    (bookVehicle id cls expected parking) s)

/-- ARM_VEHICLE (R9). -/
def execArmVehicle (tag : Nat) (slot : Option Nat) (s : State) : Out :=
  finish (answer (.armVehicle tag slot) 0x0B tag (armVehicle slot) s)

/-- BIND_VEHICLE (R10). -/
def execBindVehicle (tag slot : Nat) (id : Text) (cls : Option Nat) (s : State) : Out :=
  finish (answer (.bindVehicle tag slot id cls) 0x0C tag (bindVehicle slot id cls) s)

/-- DISCARD_VEHICLE (R18). -/
def execDiscardVehicle (tag slot : Nat) (s : State) : Out :=
  finish (answer (.discardVehicle tag slot) 0x0D tag (discardVehicle slot) s)

/-- GET_VEHICLE (R11). -/
def execGetVehicle (tag slot : Nat) (s : State) : Out :=
  finish (answer (.getVehicle tag slot) 0x0E tag (getVehicle slot) s)

/-- LIST_LANE (R11). -/
def execListLane (tag : Nat) (s : State) : Out :=
  finish (answer (.listLane tag) 0x0F tag listLane s)

/-- SKIP_AXLE (R84). -/
def execSkipAxle (tag : Nat) (s : State) : Out :=
  finish (answer (.skipAxle tag) 0x10 tag hostSkip s)

/-- RELEASE_VEHICLE (R21, R85). -/
def execReleaseVehicle (tag : Nat) (s : State) : Out :=
  finish (answer (.releaseVehicle tag) 0x11 tag hostRelease s)

/-- ACK_FAULT (R81). -/
def execAckFault (tag : Nat) (s : State) : Out :=
  finish (answer (.ackFault tag) 0x12 tag ackFault s)

/-- SET_LIVE (R193). -/
def execSetLive (tag station divider : Nat) (s : State) : Out :=
  finish (answer (.setLive tag station divider) 0x13 tag (setLive station divider) s)

/-- TRACE_LIST (R153). -/
def execTraceList (tag selection start : Nat) (s : State) : Out :=
  finish (answer (.traceList tag selection start) 0x14 tag (traceList selection start) s)

/-- TRACE_READ (R154). -/
def execTraceRead (tag trace first count : Nat) (s : State) : Out :=
  finish (answer (.traceRead tag trace first count) 0x15 tag (traceRead trace first count) s)

/-- TRACE_RELEASE (R155). -/
def execTraceRelease (tag trace : Nat) (s : State) : Out :=
  finish (answer (.traceRelease tag trace) 0x16 tag (traceRelease trace) s)

/-- SET_PARTITIONS (R142). -/
def execSetPartitions (tag brakeSize entrySize : Nat) (s : State) : Out :=
  finish (answer (.setPartitions tag brakeSize entrySize) 0x17 tag (setPartitions brakeSize entrySize) s)

/-- CERT_QUEUE (R160). -/
def execCertQueue (tag slot : Nat) (headers : List RawHeader) (s : State) : Out :=
  finish (answer (.certQueue tag slot headers) 0x18 tag (certQueue slot headers) s)

/-- CERT_ABORT (R173). -/
def execCertAbort (tag slot : Nat) (s : State) : Out :=
  finish (answer (.certAbort tag slot) 0x19 tag (certAbort slot) s)

/-- CERT_LIST (R174). -/
def execCertList (tag : Nat) (s : State) : Out :=
  finish (answer (.certList tag) 0x1A tag certList s)

/-- CAL_READ (R183). -/
def execCalRead (tag target : Nat) (channel : Option Nat) (s : State) : Out :=
  finish (answer (.calRead tag target channel) 0x1B tag (calRead target channel) s)

/-- CAL_WRITE (R183). -/
def execCalWrite (tag target : Nat) (channel : Option Nat) (content : RawCal) (s : State) : Out :=
  finish (answer (.calWrite tag target channel content) 0x1C tag (calWrite target channel content) s)

/-- CAL_ZERO (R184). -/
def execCalZero (tag channel : Nat) (s : State) : Out :=
  finish (answer (.calZero tag channel) 0x1D tag (calZero tag channel) s)

/-- CAL_SPAN (R184). -/
def execCalSpan (tag channel reference : Nat) (s : State) : Out :=
  finish (answer (.calSpan tag channel reference) 0x1E tag (calSpan tag channel reference) s)

/-- SET_COUNTER (R186). -/
def execSetCounter (tag value : Nat) (s : State) : Out :=
  finish (answer (.setCounter tag value) 0x1F tag (setCounter value) s)

end Sys2Proof.Machine
end

