-- ==== Sys2Proof/Machine/ExecSignals.lean ====
section
/-! DEFINITION. Meanings of the commands of the part as a whole, the lane time base and signal acquisition:
POWER_ON to LINE_SAMPLE. -/

namespace Sys2Proof.Machine

/-- POWER_ON (R25, R27, R187, R188, R198): every block takes its power-on state. -/
def execPowerOn (strap : Level) (s : State) : Out := .next (resetPart strap s)

/-- RESET_LINE (R25, R27, R187, R188, R198): the reset line does what power-on does. -/
def execResetLine (strap : Level) (s : State) : Out := .next (resetPart strap s)

/-- AUTOLOAD_END (R179, R180). -/
def execAutoloadEnd (nacks : List Nat) (s : State) : Out := finish (endAutoload nacks s)

/-- LANE_TIME_TICK (R27). -/
def execLaneTimeTick (s : State) : Out := finish (s.onTime TimeBase.tick)

/-- CLOCK_REFERENCE_ADVANCE (R29). -/
def execClockReferenceAdvance (s : State) : Out := finish (s.onTime TimeBase.advance)

/-- CONVERSION (R30, R33). -/
def execConversion (values : List Nat) (s : State) : Out := finish (takeConversion values s)

/-- PULSE_EDGE (R35). -/
def execPulseEdge (input : PulseInput) (s : State) : Out :=
  finish (s.onSig fun g => g.modPulse input Pulse.edge)

/-- WINDOW_END (R30, R35): the sums close and go to the stations, and a collection takes its own (R184). -/
def execWindowEnd (s : State) : Out :=
  finish (if windowDue s then collectSum (closeWindow s) else s)

/-- LINE_SAMPLE (R38). -/
def execLineSample (levels : BitVec 24) (s : State) : Out := finish (takeLineSample levels s)

end Sys2Proof.Machine
end

