-- ==== Sys2Proof/Machine/ExecStations.lean ====
section
/-! DEFINITION. Meanings of the aging expiry, the window ends and expiries of the two stations, and the
station requests of Guidance: AGE_EXPIRY to GUIDANCE_RELEASE_VEHICLE. -/

namespace Sys2Proof.Machine

/-- R30: the station takes its oldest window end. -/
def takeEntryWindow (s : State) : State :=
  match s.sig.entryInbox with
  | [] => s
  | d :: rest => entryWindow d (s.onSig fun g => { g with entryInbox := rest })

/-- R30: the station takes its oldest window end. -/
def takeBrakeWindow (s : State) : State :=
  match s.sig.brakeInbox with
  | [] => s
  | d :: rest => brakeWindow d (s.onSig fun g => { g with brakeInbox := rest })

/-- R126, R134: the brake station carries out the station request at the front, when it is this one. -/
def onRequest (r : StationRequest) (k : State → State) (s : State) : State :=
  match takeRequest r s with
  | some s' => k s'
  | none => s

/-- AGE_EXPIRY (R17). -/
def execAgeExpiry (slot : Nat) (s : State) : Out := finish (expireAge slot s)

/-- ENTRY_WINDOW_END (R47). -/
def execEntryWindowEnd (s : State) : Out := finish (takeEntryWindow s)

/-- SETTLE_EXPIRY (R53). -/
def execSettleExpiry (s : State) : Out := finish (settleExpired s)

/-- QUIET_EXPIRY (R57). -/
def execQuietExpiry (s : State) : Out := finish (quietExpired s)

/-- BRAKE_WINDOW_END (R64). -/
def execBrakeWindowEnd (s : State) : Out := finish (takeBrakeWindow s)

/-- PRESENCE_EXPIRY (R66). -/
def execPresenceExpiry (s : State) : Out := finish (presenceExpired s)

/-- SPIN_UP_EXPIRY (R71). -/
def execSpinUpExpiry (s : State) : Out := finish (spinUpExpired s)

/-- BRAKING_EXPIRY (R74). -/
def execBrakingExpiry (s : State) : Out := finish (brakingExpired s)

/-- STOP_EXPIRY (R75). -/
def execStopExpiry (s : State) : Out := finish (stopExpired s)

/-- CLEAR_EXPIRY (R77). -/
def execClearExpiry (s : State) : Out := finish (clearExpired s)

/-- MARK_PARKING (R83). -/
def execMarkParking (s : State) : Out := finish (onRequest .markParking markParking s)

/-- END_AXLE (R83). -/
def execEndAxle (s : State) : Out := finish (onRequest .endAxle endAxle s)

/-- SKIP_AXLE from Guidance (R84). -/
def execGuidanceSkipAxle (s : State) : Out := finish (onRequest .skipAxle guidanceSkip s)

/-- RELEASE_VEHICLE from Guidance (R21, R85). -/
def execGuidanceReleaseVehicle (s : State) : Out := finish (onRequest .releaseVehicle guidanceRelease s)

end Sys2Proof.Machine
end

