-- ==== Sys2Proof/Machine/Dispatch.lean ====
section
/-! DEFINITION. Each command to its meaning. -/

namespace Sys2Proof.Machine

def exec (i : Instr) (s : State) : Host.Outcome State Fault Refusal :=
  match i with
  | .powerOn strap => Sys2Proof.Machine.execPowerOn strap s
  | .resetLine strap => Sys2Proof.Machine.execResetLine strap s
  | .autoloadEnd nacks => Sys2Proof.Machine.execAutoloadEnd nacks s
  | .laneTimeTick => Sys2Proof.Machine.execLaneTimeTick s
  | .clockReferenceAdvance => Sys2Proof.Machine.execClockReferenceAdvance s
  | .conversion values => Sys2Proof.Machine.execConversion values s
  | .pulseEdge input => Sys2Proof.Machine.execPulseEdge input s
  | .windowEnd => Sys2Proof.Machine.execWindowEnd s
  | .lineSample levels => Sys2Proof.Machine.execLineSample levels s
  | .entryBarrierActive => Sys2Proof.Machine.execEntryBarrierActive s
  | .entryBarrierInactive => Sys2Proof.Machine.execEntryBarrierInactive s
  | .slipPlateSwitchActive => Sys2Proof.Machine.execSlipPlateSwitchActive s
  | .slipPlateSwitchInactive => Sys2Proof.Machine.execSlipPlateSwitchInactive s
  | .exitBarrierBroken => Sys2Proof.Machine.execExitBarrierBroken s
  | .exitBarrierClear => Sys2Proof.Machine.execExitBarrierClear s
  | .wheelActive side => Sys2Proof.Machine.execWheelActive side s
  | .wheelInactive side => Sys2Proof.Machine.execWheelInactive side s
  | .driveReadyActive side => Sys2Proof.Machine.execDriveReadyActive side s
  | .driveReadyInactive side => Sys2Proof.Machine.execDriveReadyInactive side s
  | .estopActive => Sys2Proof.Machine.execEstopActive s
  | .estopInactive => Sys2Proof.Machine.execEstopInactive s
  | .ageExpiry slot => Sys2Proof.Machine.execAgeExpiry slot s
  | .entryWindowEnd => Sys2Proof.Machine.execEntryWindowEnd s
  | .settleExpiry => Sys2Proof.Machine.execSettleExpiry s
  | .quietExpiry => Sys2Proof.Machine.execQuietExpiry s
  | .brakeWindowEnd => Sys2Proof.Machine.execBrakeWindowEnd s
  | .presenceExpiry => Sys2Proof.Machine.execPresenceExpiry s
  | .spinUpExpiry => Sys2Proof.Machine.execSpinUpExpiry s
  | .brakingExpiry => Sys2Proof.Machine.execBrakingExpiry s
  | .stopExpiry => Sys2Proof.Machine.execStopExpiry s
  | .clearExpiry => Sys2Proof.Machine.execClearExpiry s
  | .markParking => Sys2Proof.Machine.execMarkParking s
  | .endAxle => Sys2Proof.Machine.execEndAxle s
  | .guidanceSkipAxle => Sys2Proof.Machine.execGuidanceSkipAxle s
  | .guidanceReleaseVehicle => Sys2Proof.Machine.execGuidanceReleaseVehicle s
  | .pedalByte byte stopOk idleUs => Sys2Proof.Machine.execPedalByte byte stopOk idleUs s
  | .pedalFrame bytes => Sys2Proof.Machine.execPedalFrame bytes s
  | .pedalSilenceExpiry => Sys2Proof.Machine.execPedalSilenceExpiry s
  | .stepTimeout station => Sys2Proof.Machine.execStepTimeout station s
  | .showRefresh station => Sys2Proof.Machine.execShowRefresh station s
  | .promptTransmitBegin => Sys2Proof.Machine.execPromptTransmitBegin s
  | .promptTransmitEnd => Sys2Proof.Machine.execPromptTransmitEnd s
  | .printerByte byte stopOk => Sys2Proof.Machine.execPrinterByte byte stopOk s
  | .hello window => Sys2Proof.Machine.execHello window s
  | .status condition => Sys2Proof.Machine.execStatus condition s
  | .credit n => Sys2Proof.Machine.execCredit n s
  | .printerSilenceExpiry => Sys2Proof.Machine.execPrinterSilenceExpiry s
  | .printerTransmitBegin => Sys2Proof.Machine.execPrinterTransmitBegin s
  | .printerTransmitEnd => Sys2Proof.Machine.execPrinterTransmitEnd s
  | .eepromWriteEnd ack => Sys2Proof.Machine.execEepromWriteEnd ack s
  | .eepromAckTimeout => Sys2Proof.Machine.execEepromAckTimeout s
  | .ctsChange asserted => Sys2Proof.Machine.execCtsChange asserted s
  | .hostByte byte stopOk => Sys2Proof.Machine.execHostByte byte stopOk s
  | .hostFrameReceived kind tag payload => Sys2Proof.Machine.execHostFrameReceived kind tag payload s
  | .requestTaken => Sys2Proof.Machine.execRequestTaken s
  | .hostTransmitBegin => Sys2Proof.Machine.execHostTransmitBegin s
  | .hostTransmitEnd => Sys2Proof.Machine.execHostTransmitEnd s
  | .getStatus tag sect => Sys2Proof.Machine.execGetStatus tag sect s
  | .restart tag => Sys2Proof.Machine.execRestart tag s
  | .setClock tag year month day hour minute second => Sys2Proof.Machine.execSetClock tag year month day hour minute second s
  | .setConfig tag entries => Sys2Proof.Machine.execSetConfig tag entries s
  | .getConfig tag => Sys2Proof.Machine.execGetConfig tag s
  | .setChannels tag assignments => Sys2Proof.Machine.execSetChannels tag assignments s
  | .setLines tag entries => Sys2Proof.Machine.execSetLines tag entries s
  | .loadClass tag cls loaded fields => Sys2Proof.Machine.execLoadClass tag cls loaded fields s
  | .loadProgram tag program unload content => Sys2Proof.Machine.execLoadProgram tag program unload content s
  | .bookVehicle tag id cls expected parking => Sys2Proof.Machine.execBookVehicle tag id cls expected parking s
  | .armVehicle tag slot => Sys2Proof.Machine.execArmVehicle tag slot s
  | .bindVehicle tag slot id cls => Sys2Proof.Machine.execBindVehicle tag slot id cls s
  | .discardVehicle tag slot => Sys2Proof.Machine.execDiscardVehicle tag slot s
  | .getVehicle tag slot => Sys2Proof.Machine.execGetVehicle tag slot s
  | .listLane tag => Sys2Proof.Machine.execListLane tag s
  | .skipAxle tag => Sys2Proof.Machine.execSkipAxle tag s
  | .releaseVehicle tag => Sys2Proof.Machine.execReleaseVehicle tag s
  | .ackFault tag => Sys2Proof.Machine.execAckFault tag s
  | .setLive tag station divider => Sys2Proof.Machine.execSetLive tag station divider s
  | .traceList tag selection start => Sys2Proof.Machine.execTraceList tag selection start s
  | .traceRead tag trace first count => Sys2Proof.Machine.execTraceRead tag trace first count s
  | .traceRelease tag trace => Sys2Proof.Machine.execTraceRelease tag trace s
  | .setPartitions tag brakeSize entrySize => Sys2Proof.Machine.execSetPartitions tag brakeSize entrySize s
  | .certQueue tag slot headers => Sys2Proof.Machine.execCertQueue tag slot headers s
  | .certAbort tag slot => Sys2Proof.Machine.execCertAbort tag slot s
  | .certList tag => Sys2Proof.Machine.execCertList tag s
  | .calRead tag target channel => Sys2Proof.Machine.execCalRead tag target channel s
  | .calWrite tag target channel content => Sys2Proof.Machine.execCalWrite tag target channel content s
  | .calZero tag channel => Sys2Proof.Machine.execCalZero tag channel s
  | .calSpan tag channel reference => Sys2Proof.Machine.execCalSpan tag channel reference s
  | .setCounter tag value => Sys2Proof.Machine.execSetCounter tag value s

end Sys2Proof.Machine
end

