-- ==== Sys2Proof/Machine/RequestBytes.lean ====
section
/-! DEFINITION. The payload of each host request as the host writes it (R199, section 11.5): the other direction of
Machine/HostCodec.lean. -/

namespace Sys2Proof.Machine

/-- R24: the fields of a loaded class. -/
def classBytes (c : RawClass) : List Byte :=
  textBytes c.name ++ leBytes 2 c.minServiceEff ++ leBytes 2 c.minParkingEff ++ leBytes 2 c.maxImbalance
    ++ leBytes 2 c.maxDrag ++ leBytes 2 c.maxSideSlip ++ leBytes 2 c.maxAxleWeight ++ leBytes 1 c.entryProgram
    ++ leBytes 1 c.brakeProgram ++ leBytes 1 c.printCurves

/-- R199: a step in 13 bytes. -/
def stepBytes (r : RawStep) : List Byte :=
  leBytes 1 r.prompt ++ leBytes 1 r.red ++ leBytes 1 r.amber ++ leBytes 1 r.green ++ leBytes 1 r.showKind
    ++ leBytes 1 r.waitKind ++ leBytes 2 r.threshold ++ leBytes 2 r.timeout ++ leBytes 1 r.nextAdvance
    ++ leBytes 1 r.nextTimeout ++ leBytes 1 r.request

/-- R124: a program's content. -/
def programBytes (p : RawProgram) : List Byte :=
  leBytes 1 p.first ++ leBytes 1 p.last ++ leBytes 1 p.entryStep ++ listBytes stepBytes p.steps

/-- R199: a line entry. -/
def lineBytes (e : RawLine) : List Byte :=
  leBytes 1 e.line ++ leBytes 1 e.fn ++ leBytes 1 e.level ++ leBytes 1 e.debounce

/-- R160: a header line. -/
def headerBytes (h : RawHeader) : List Byte := leBytes 1 h.style ++ textBytes h.text

/-- R183: what CAL_WRITE carries for its target; none where the two do not go together. -/
def calBytes (target : Nat) : RawCal → Option (List Byte)
  | .channel z g v => if target = 0 then some (optBytes 2 z ++ optBytes 3 g ++ leBytes 1 v) else none
  | .constants dd ds p sp =>
    if target = 1 then some (leBytes 2 dd ++ leBytes 2 ds ++ leBytes 2 p ++ leBytes 2 sp) else none
  | .none => if 2 ≤ target then some [] else none

/-- Section 11.5: the kind and tag of a host request; none for every other command. -/
def requestTag : Instr → Option (Nat × Nat)
  | .getStatus t _ => some (0x01, t)
  | .restart t => some (0x02, t)
  | .setClock t _ _ _ _ _ _ => some (0x03, t)
  | .setConfig t _ => some (0x04, t)
  | .getConfig t => some (0x05, t)
  | .setChannels t _ => some (0x06, t)
  | .setLines t _ => some (0x07, t)
  | .loadClass t _ _ _ => some (0x08, t)
  | .loadProgram t _ _ _ => some (0x09, t)
  | .bookVehicle t _ _ _ _ => some (0x0A, t)
  | .armVehicle t _ => some (0x0B, t)
  | .bindVehicle t _ _ _ => some (0x0C, t)
  | .discardVehicle t _ => some (0x0D, t)
  | .getVehicle t _ => some (0x0E, t)
  | .listLane t => some (0x0F, t)
  | .skipAxle t => some (0x10, t)
  | .releaseVehicle t => some (0x11, t)
  | .ackFault t => some (0x12, t)
  | .setLive t _ _ => some (0x13, t)
  | .traceList t _ _ => some (0x14, t)
  | .traceRead t _ _ _ => some (0x15, t)
  | .traceRelease t _ => some (0x16, t)
  | .setPartitions t _ _ => some (0x17, t)
  | .certQueue t _ _ => some (0x18, t)
  | .certAbort t _ => some (0x19, t)
  | .certList t => some (0x1A, t)
  | .calRead t _ _ => some (0x1B, t)
  | .calWrite t _ _ _ => some (0x1C, t)
  | .calZero t _ => some (0x1D, t)
  | .calSpan t _ _ => some (0x1E, t)
  | .setCounter t _ => some (0x1F, t)
  | .powerOn _ | .resetLine _ | .autoloadEnd _ | .laneTimeTick | .clockReferenceAdvance | .conversion _
  | .pulseEdge _ | .windowEnd | .lineSample _ | .entryBarrierActive | .entryBarrierInactive
  | .slipPlateSwitchActive | .slipPlateSwitchInactive | .exitBarrierBroken | .exitBarrierClear | .wheelActive _
  | .wheelInactive _ | .driveReadyActive _ | .driveReadyInactive _ | .estopActive | .estopInactive
  | .ageExpiry _ | .entryWindowEnd | .settleExpiry | .quietExpiry | .brakeWindowEnd | .presenceExpiry
  | .spinUpExpiry | .brakingExpiry | .stopExpiry | .clearExpiry | .markParking | .endAxle | .guidanceSkipAxle
  | .guidanceReleaseVehicle | .pedalByte _ _ _ | .pedalFrame _ | .pedalSilenceExpiry | .stepTimeout _
  | .showRefresh _ | .promptTransmitBegin | .promptTransmitEnd | .printerByte _ _ | .hello _ | .status _
  | .credit _ | .printerSilenceExpiry | .printerTransmitBegin | .printerTransmitEnd | .eepromWriteEnd _
  | .eepromAckTimeout | .ctsChange _ | .hostByte _ _ | .hostFrameReceived _ _ _ | .requestTaken
  | .hostTransmitBegin | .hostTransmitEnd => none

/-- R199, section 11.5: the payload of a host request; none for every other command, and for fields that no payload
of the kind carries together. -/
def requestPayload : Instr → Option (List Byte)
  | .getStatus _ sect => some (leBytes 1 sect)
  | .restart _ | .getConfig _ | .listLane _ | .skipAxle _ | .releaseVehicle _ | .ackFault _ | .certList _ => some []
  | .setClock _ y mo d h mi s =>
    some (leBytes 2 y ++ leBytes 1 mo ++ leBytes 1 d ++ leBytes 1 h ++ leBytes 1 mi ++ leBytes 1 s)
  | .setConfig _ es => some (listBytes (fun e : Nat × Nat => leBytes 1 e.1 ++ leBytes 4 e.2) es)
  | .setChannels _ as => some (listBytes (fun a : Nat × Nat => leBytes 1 a.1 ++ leBytes 1 a.2) as)
  | .setLines _ es => some (listBytes lineBytes es)
  | .loadClass _ c l (some f) => if l = 1 then some (leBytes 1 c ++ leBytes 1 l ++ classBytes f) else none
  | .loadClass _ c l none => if l = 1 then none else some (leBytes 1 c ++ leBytes 1 l)
  | .loadProgram _ p u (some c) => if u = 0 then some (leBytes 1 p ++ leBytes 1 u ++ programBytes c) else none
  | .loadProgram _ p u none => if u = 0 then none else some (leBytes 1 p ++ leBytes 1 u)
  | .bookVehicle _ id c e pk => some (textBytes id ++ leBytes 1 c ++ optBytes 1 e ++ listBytes (leBytes 1) pk)
  | .armVehicle _ slot => some (optBytes 1 slot)
  | .bindVehicle _ slot id c => some (leBytes 1 slot ++ textBytes id ++ optBytes 1 c)
  | .discardVehicle _ slot | .getVehicle _ slot | .certAbort _ slot => some (leBytes 1 slot)
  | .setLive _ st d => some (leBytes 1 st ++ leBytes 1 d)
  | .traceList _ sel st => some (leBytes 1 sel ++ leBytes 2 st)
  | .traceRead _ id f c => some (leBytes 2 id ++ leBytes 3 f ++ leBytes 2 c)
  | .traceRelease _ id => some (leBytes 2 id)
  | .setPartitions _ b e => some (leBytes 2 b ++ leBytes 2 e)
  | .certQueue _ slot hs => some (leBytes 1 slot ++ listBytes headerBytes hs)
  | .calRead _ t c => some (leBytes 1 t ++ optBytes 1 c)
  | .calWrite _ t c k => (calBytes t k).map (fun b => leBytes 1 t ++ optBytes 1 c ++ b)
  | .calZero _ c => some (leBytes 1 c)
  | .calSpan _ c r => some (leBytes 1 c ++ leBytes 2 r)
  | .setCounter _ v => some (leBytes 4 v)
  | .powerOn _ | .resetLine _ | .autoloadEnd _ | .laneTimeTick | .clockReferenceAdvance | .conversion _
  | .pulseEdge _ | .windowEnd | .lineSample _ | .entryBarrierActive | .entryBarrierInactive
  | .slipPlateSwitchActive | .slipPlateSwitchInactive | .exitBarrierBroken | .exitBarrierClear | .wheelActive _
  | .wheelInactive _ | .driveReadyActive _ | .driveReadyInactive _ | .estopActive | .estopInactive
  | .ageExpiry _ | .entryWindowEnd | .settleExpiry | .quietExpiry | .brakeWindowEnd | .presenceExpiry
  | .spinUpExpiry | .brakingExpiry | .stopExpiry | .clearExpiry | .markParking | .endAxle | .guidanceSkipAxle
  | .guidanceReleaseVehicle | .pedalByte _ _ _ | .pedalFrame _ | .pedalSilenceExpiry | .stepTimeout _
  | .showRefresh _ | .promptTransmitBegin | .promptTransmitEnd | .printerByte _ _ | .hello _ | .status _
  | .credit _ | .printerSilenceExpiry | .printerTransmitBegin | .printerTransmitEnd | .eepromWriteEnd _
  | .eepromAckTimeout | .ctsChange _ | .hostByte _ _ | .hostFrameReceived _ _ _ | .requestTaken
  | .hostTransmitBegin | .hostTransmitEnd => none

end Sys2Proof.Machine
end

