-- ==== Sys2Proof/Safety.lean ====
section
/-! DEFINITION. What a sound state of the part is: the laws the spec states of the device, each as a property
of a state, the part at rest between two commands, when the three settings requests are accepted, the Calibration Store
after a write, the ranges of the calibration records and of the fields of LOAD_CLASS, LOAD_PROGRAM and SET_CLOCK, and
Guidance at rest in a step. -/

namespace Sys2Proof.Machine

/-- Nothing of an event is left over: no result waits for Guidance, no write waits that could begin, and no
collection runs on a channel whose station is busy (R126, R181, R184). -/
def Calm (s : State) : Prop :=
  s.work = Work.none ∧ (s.cal.writing.isSome ∨ s.cal.queue = [])
    ∧ ∀ c, s.cal.collection = some c → channelBusy c.channel s = false

/-- The state after a request has been answered with nothing but its reply in the place held for it (R191). -/
def replyWith (i : Instr) (kind tag : Nat) (st : Status) (b : ReplyBody) (s : State) : State :=
  postReply kind tag st b (atOwner i s)

/-- The events of the two stations and of the Vehicle Table: edges, window ends, expiries, station requests. -/
def stationEvents : List Instr :=
  [ .entryBarrierActive, .entryBarrierInactive, .slipPlateSwitchActive, .slipPlateSwitchInactive, .exitBarrierBroken
  , .exitBarrierClear, .wheelActive .left, .wheelActive .right, .wheelInactive .left, .wheelInactive .right
  , .driveReadyActive .left, .driveReadyActive .right, .driveReadyInactive .left, .driveReadyInactive .right
  , .estopActive, .estopInactive, .entryWindowEnd, .settleExpiry, .quietExpiry, .brakeWindowEnd, .presenceExpiry
  , .spinUpExpiry, .brakingExpiry, .stopExpiry, .clearExpiry, .markParking, .endAxle, .guidanceSkipAxle
  , .guidanceReleaseVehicle ]
  ++ (List.range 32).map .ageExpiry

/-- R70: a RUN output is set only in SPIN_UP, DRAG or BRAKING. -/
def RunLaw (s : State) : Prop :=
  s.sig.outputs.runL = true ∨ s.sig.outputs.runR = true →
    s.brake.state = .spinUp ∨ s.brake.state = .drag ∨ s.brake.state = .braking

/-- R164: the frames outstanding never exceed the window. -/
def CreditLaw (s : State) : Prop := s.cert.outstanding ≤ s.cert.window

/-- R3: no axle list exceeds 12 axles; an expected count is at most 12 (R8). -/
def AxleLaw (s : State) : Prop :=
  ∀ r ∈ s.vt.records, r.axles.length ≤ 12 ∧ ∀ n, r.expected = some n → n ≤ 12

/-- R16, R158: a record has a certificate job while a job of its slot is in the queue, and is COMPLETE then. -/
def JobLaw (s : State) : Prop :=
  (∀ j ∈ s.cert.queue, (s.record j.slot).job = true)
    ∧ ∀ r ∈ s.vt.records, r.job = true → r.state = .complete

/-- R19: at most 3 slots, without duplicates, exactly those of the IN_LANE records; R9: the armed reference names
an ARMED record. -/
def LaneLaw (s : State) : Prop :=
  s.vt.queue.length ≤ 3 ∧ s.vt.queue.Nodup
    ∧ (∀ k, k ∈ s.vt.queue ↔ (s.record k).state = .inLane)
    ∧ ∀ a, s.vt.armed = some a → (s.record a).state = .armed

/-- R6: the dynamic records never number more than DYN_MAX, and the booked ones never more than 32 − DYN_MAX. -/
def ShareLaw (s : State) : Prop := dynamicCount s ≤ s.vt.dynMax ∧ bookedCount s ≤ 32 - s.vt.dynMax

/-- The blocks listed in the live descriptors of a partition (R141). -/
def listedBlocks (brake : Bool) (t : TraceStore) : Nat :=
  ((t.directory.filter (fun d => d.kind.brakePart == brake)).map (fun d => Runs.count d.blocks)).sum

/-- R141: in each partition the free blocks plus the blocks listed in live descriptors equal the partition's size;
R142: both sizes and the unassigned blocks are all the blocks there are; R144: no two live descriptors share an
id; R145: at most 128 of them. -/
def BlockLaw (s : State) : Prop :=
  Runs.count s.traces.brakeFree + listedBlocks true s.traces = s.traces.brakeSize
    ∧ Runs.count s.traces.entryFree + listedBlocks false s.traces = s.traces.entrySize
    ∧ s.traces.brakeSize + s.traces.entrySize + Runs.count s.traces.unassigned = 32768
    ∧ (s.traces.directory.map Descriptor.id).Nodup ∧ s.traces.directory.length ≤ 128

/-! ## When SET_CONFIG, SET_CHANNELS and SET_LINES are accepted, from their operands (R196, R32, R40) -/

/-- R196 check 2: a value lies in the range that its setting's rule gives (R6, R36, R46, R63, R95, R119, R152, R159). -/
def SettingInRange (i v : Nat) : Prop :=
  (i = 1 → v ≤ 32) ∧ (i = 2 → v ≤ 1440) ∧ (i = 3 → v ≤ 7)
    ∧ (4 ≤ i ∧ i ≤ 7 → v ∈ [1, 2, 4, 8, 16, 32, 64, 128])
    ∧ (i = 8 → 50 ≤ v ∧ v ≤ 5000) ∧ (i = 9 ∨ i = 10 → 1 ≤ v ∧ v ≤ 1000) ∧ (i = 11 → 1 ≤ v ∧ v ≤ 6000)
    ∧ (i = 12 ∨ i = 13 → v ≤ 65535) ∧ (i = 14 → v ≤ 100) ∧ (i = 15 → 1 ≤ v ∧ v ≤ 50)
    ∧ (i = 16 → v ≤ 1) ∧ (i = 17 → 1 ≤ v ∧ v ≤ 128) ∧ (i = 18 → v ≤ 1440)

/-- A setting's value as it would stand after a request: the one carried, else the present one. -/
def StandsAfter (es : List (Nat × Nat)) (i present v : Nat) : Prop :=
  (i, v) ∈ es ∨ ((∀ x, (i, x) ∉ es) ∧ v = present)

/-- R196 checks 1 to 3: what SET_CONFIG refuses with BAD_FIELD is absent. The joint range is tested when a setting of the
Pedal Link is carried (R119, log entry 20). -/
def ConfigFieldsOk (es : List (Nat × Nat)) (s : State) : Prop :=
  1 ≤ es.length ∧ es.length ≤ 18 ∧ (es.map Prod.fst).Nodup
    ∧ (∀ e ∈ es, 1 ≤ e.1 ∧ e.1 ≤ 18 ∧ SettingInRange e.1 e.2)
    ∧ ((∃ e ∈ es, 12 ≤ e.1 ∧ e.1 ≤ 15) → ∀ l w, StandsAfter es 14 s.pedal.latency l →
        StandsAfter es 15 s.pedal.window w → l + w < 120)

/-- R196 check 4, R6: what SET_CONFIG refuses with STATE is absent. -/
def ConfigStateOk (es : List (Nat × Nat)) (s : State) : Prop :=
  ∀ v, (1, v) ∈ es → dynamicCount s ≤ v ∧ bookedCount s ≤ 32 - v

/-- R196 check 5 (R36, R46, R63, R95, R119): what SET_CONFIG refuses with BUSY is absent: a changed setting's station is
IDLE. -/
def ConfigIdleOk (es : List (Nat × Nat)) (s : State) : Prop :=
  ∀ i v, (i, v) ∈ es → (settingsOf s).lookup i ≠ some v →
    (i = 8 ∨ i = 9 → stationIdle .entry s = true)
      ∧ ((4 ≤ i ∧ i ≤ 7) ∨ (10 ≤ i ∧ i ≤ 15) → stationIdle .brake s = true)

/-- R32: channel `n` would hold function `f` after the assignments. -/
def ChannelAfter (as : List (Nat × Nat)) (s : State) (n : Nat) (f : ChannelFn) : Prop :=
  (∃ k, (n, k) ∈ as ∧ ofCode channelFns k = some f)
    ∨ ((∀ k, (n, k) ∉ as) ∧ (s.sig.channels.map Channel.fn)[n]? = some f)

/-- R32 checks 1 and 2: what SET_CHANNELS refuses with BAD_FIELD is absent. -/
def ChannelsFieldsOk (as : List (Nat × Nat)) (s : State) : Prop :=
  1 ≤ as.length ∧ as.length ≤ 16 ∧ (as.map Prod.fst).Nodup ∧ (∀ a ∈ as, a.1 ≤ 15 ∧ a.2 ≤ 5)
    ∧ ∀ n m f, n < m → m < s.sig.channels.length → ChannelAfter as s n f → ChannelAfter as s m f → f = .unused

/-- R32 check 3: what SET_CHANNELS refuses with BUSY is absent: the owners of a changed function are IDLE. -/
def ChannelsIdleOk (as : List (Nat × Nat)) (s : State) : Prop :=
  ∀ n k old new, (n, k) ∈ as → ofCode channelFns k = some new →
    ((s.sig.channels.map Channel.fn)[n]?).getD .unused = old → old ≠ new →
    ∀ st, ownerOf old = some st ∨ ownerOf new = some st → stationIdle st s = true

/-- R40: line `n` would hold function `f` after the entries. -/
def LineAfter (es : List RawLine) (s : State) (n : Nat) (f : LineFn) : Prop :=
  (∃ e ∈ es, e.line = n ∧ ofCode lineFns e.fn = some f)
    ∨ ((∀ e ∈ es, e.line ≠ n) ∧ (s.sig.lines.map Line.fn)[n]? = some f)

/-- R40 check 1: an entry's fields are in their ranges. The debounce time is one of an input function only (R199). -/
def LineEntryOk (e : RawLine) : Prop :=
  e.line ≤ 23 ∧ e.fn ≤ 15 ∧ e.level ≤ 1
    ∧ ∀ f, ofCode lineFns e.fn = some f → f.isInput = true → e.debounce ≤ 250

/-- R40 checks 1 and 2: what SET_LINES refuses with BAD_FIELD is absent. -/
def LinesFieldsOk (es : List RawLine) (s : State) : Prop :=
  1 ≤ es.length ∧ es.length ≤ 24 ∧ (es.map RawLine.line).Nodup
    ∧ (∀ e ∈ es, LineEntryOk e)
    ∧ ∀ n m f, n < m → m < s.sig.lines.length → LineAfter es s n f → LineAfter es s m f → f = .none

/-! ## Ranges of the calibration records (R177) -/

/-- R177: the lane constants lie in their ranges. -/
def ConstantsInRange (dd ds plate speed : Nat) : Prop :=
  1 ≤ dd ∧ dd ≤ 65535 ∧ 1 ≤ ds ∧ ds ≤ 65535 ∧ 200 ≤ plate ∧ plate ≤ 2000 ∧ 100 ≤ speed ∧ speed ≤ 5000

/-- R177, R179, R183, R204: a channel record's fields lie in their ranges, and a set valid flag comes with both. Of the bits of
CAL_WRITE's flag byte above bit 0 the rules say nothing: they are out of range (DESIGN CHOICE, log entry 43). -/
def ChannelInRange (z g : Option Nat) (valid : Nat) : Prop :=
  (∀ x, z = some x → 1 ≤ x ∧ x ≤ 16379) ∧ (∀ x, g = some x → 1 ≤ x ∧ x ≤ 65535) ∧ valid ≤ 1
    ∧ (valid = 1 → z ≠ none ∧ g ≠ none)

/-! ## The Calibration Store after a write (R178, R181) -/

/-- R178: the store's state, once autoload has ended, is the one that the stored marks give. -/
def StoreStateFollows (c : CalStore) : Prop :=
  c.state = if c.headerStored = false then .absent
    else if c.counterStored = true ∧ c.constants.stored = true ∧ ∀ r ∈ c.channels, r.stored = true then .ready
    else .degraded

/-- R181, R185, R204: of the entries left, the oldest one's write has begun at this moment, on the page of its record and with
the image's values as they stand: a counter write on the copy that is not current, a commit of the next number. A commit
begins only where the counter is available and below its end. -/
def BeginsNext (rest : List WriteEntry) (t : State) : Prop :=
  ∀ e more, rest = e :: more → (e = .commit → t.cal.available = true ∧ t.cal.counter < 4294967295) →
    t.cal.queue = rest ∧ ∃ x, t.cal.writing = some x ∧ x.began = t.time.now
      ∧ (e = .header → x.page = 0 ∧ x.values = .header)
      ∧ (e = .commit → x.page = (if t.cal.current = .a then 2 else 1) ∧ x.values = .counter (t.cal.counter + 1))
      ∧ (∀ v, e = .setCounter v → x.page = (if t.cal.current = .a then 2 else 1) ∧ x.values = .counter v)
      ∧ (e = .constants → x.page = 3 ∧ x.values = .constants t.cal.constants.dd t.cal.constants.ds
          t.cal.constants.plate t.cal.constants.testSpeed)
      ∧ (∀ n c, e = .channel n → t.cal.channels[n]? = some c →
          x.page = 4 + n ∧ x.values = .channel c.zcal c.gain c.valid)

/-! ## Ranges of the fields of LOAD_CLASS, LOAD_PROGRAM and SET_CLOCK (R24, R122, R124, R28) -/

/-- R24: the fields of a loaded class lie in their ranges. R24 and R199 leave print_curves' bits above bit 0 open: they
are out of range (DESIGN CHOICE, log entry 43). -/
def ClassInRange (c : RawClass) : Prop :=
  c.name.length ≤ 12 ∧ (∀ x ∈ c.name, 32 ≤ x ∧ x ≤ 126) ∧ c.minServiceEff ≤ 2000 ∧ c.minParkingEff ≤ 2000
    ∧ c.maxImbalance ≤ 1000 ∧ c.maxDrag ≤ 6000 ∧ c.maxSideSlip ≤ 999 ∧ c.maxAxleWeight ≤ 20000
    ∧ c.entryProgram ≤ 7 ∧ c.brakeProgram ≤ 7 ∧ c.printCurves ≤ 1

/-- R122, R199: the fields of a step of first..last lie in their ranges. The wait kinds 0..16 are the event names, which
carry the threshold 0, and 17..19 the threshold conditions; the successor 255 is END. -/
def StepInRange (first last : Nat) (r : RawStep) : Prop :=
  r.prompt ≤ 255 ∧ r.red ≤ 2 ∧ r.amber ≤ 2 ∧ r.green ≤ 2 ∧ r.showKind ≤ 5
    ∧ ((r.waitKind ≤ 16 ∧ r.threshold = 0) ∨ (17 ≤ r.waitKind ∧ r.waitKind ≤ 19 ∧ r.threshold ≤ 65535))
    ∧ r.timeout ≤ 600 ∧ (r.nextAdvance = 255 ∨ (first ≤ r.nextAdvance ∧ r.nextAdvance ≤ last))
    ∧ (r.nextTimeout = 255 ∨ (first ≤ r.nextTimeout ∧ r.nextTimeout ≤ last)) ∧ r.request ≤ 4

/-- R124 item 1: what LOAD_PROGRAM refuses with BAD_FIELD is absent from the fields of a load. The wait kinds of ENTRY_BLOCKED
and STATION_FAULT are 6 and 16. -/
def ProgramInRange (c : RawProgram) : Prop :=
  16 ≤ c.first ∧ c.first ≤ c.last ∧ c.last ≤ 95 ∧ c.first ≤ c.entryStep ∧ c.entryStep ≤ c.last
    ∧ c.steps.length = c.last - c.first + 1 ∧ (∀ r ∈ c.steps, StepInRange c.first c.last r)
    ∧ ∀ r ∈ c.steps, ∀ x, r.waitKind = 6 ∨ r.waitKind = 16 → r.nextAdvance ≠ 255 →
        c.steps[r.nextAdvance - c.first]? = some x → x.waitKind ≠ r.waitKind

/-- R122, R199: `x` holds what the fields of a carried step spell. -/
def StepSpelled (r : RawStep) (x : Step) : Prop :=
  x.prompt = r.prompt ∧ ofCode lamps r.red = some x.red ∧ ofCode lamps r.amber = some x.amber
    ∧ ofCode lamps r.green = some x.green ∧ ofCode showKinds r.showKind = some x.showKind
    ∧ (∀ e, gEvents[r.waitKind]? = some e → x.wait = .event e)
    ∧ (r.waitKind = 17 → x.wait = .pedalAbove r.threshold) ∧ (r.waitKind = 18 → x.wait = .forceAbove r.threshold)
    ∧ (r.waitKind = 19 → x.wait = .speedAbove r.threshold) ∧ x.timeout = r.timeout
    ∧ x.nextAdvance = (if r.nextAdvance = 255 then none else some r.nextAdvance)
    ∧ x.nextTimeout = (if r.nextTimeout = 255 then none else some r.nextTimeout)
    ∧ ofCode stationRequests r.request = some x.request

/-- R28: the fields of SET_CLOCK lie in their ranges, the day within the length of its month. -/
def DateInRange (y mo d h mi sec : Nat) : Prop :=
  2000 ≤ y ∧ y ≤ 2099 ∧ 1 ≤ mo ∧ mo ≤ 12 ∧ 1 ≤ d
    ∧ d ≤ (if mo = 2 then (if y % 4 = 0 then 29 else 28) else if mo ∈ [4, 6, 9, 11] then 30 else 31)
    ∧ h ≤ 23 ∧ mi ≤ 59 ∧ sec ≤ 59

/-- R124 item 2: another loaded program owns a step of first..last. -/
def RangeOwned (p first last : Nat) (g : Guidance) : Prop :=
  ∃ q r, 2 ≤ q ∧ q ≠ p ∧ programAt g q = some r ∧ r.first ≤ last ∧ first ≤ r.last

/-- R124 item 3: a station stands in a step of program `p`. -/
def ProgramInHand (p : Nat) (g : Guidance) : Prop :=
  (g.entry.program = p ∧ g.entry.step ≠ none) ∨ (g.brake.program = p ∧ g.brake.step ≠ none)

/-! ## Guidance at rest (R127, R133 to R138) -/

/-- R138: a station's lamp functions stand so; the entry station has no amber lamp. -/
def LampsShow (st : Station) (red amber green : Lamp) (t : State) : Prop :=
  match st with
  | .entry => t.sig.outputs.entryRed = red ∧ t.sig.outputs.entryGreen = green
  | .brake => t.sig.outputs.brakeRed = red ∧ t.sig.outputs.brakeAmber = amber ∧ t.sig.outputs.brakeGreen = green

/-- R134: the station requests after a step's own has been issued; only the brake station's steps issue one. -/
def requestsAfter (st : Station) (r : StationRequest) (l : List StationRequest) : List StationRequest :=
  if st = .brake ∧ r ≠ .none then l ++ [r] else l

/-- R136: the SHOW frame of a station in a step of content `y`. -/
def stepFrame (st : Station) (y : Step) (t : State) : ShowFrame :=
  { board := if st = .entry then 1 else 2, prompt := y.prompt, red := y.red, amber := y.amber, green := y.green
    showKind := y.showKind, values := showValues st y.showKind t }

/-- R133: the SHOW frame of a station at END. -/
def endFrame (st : Station) : ShowFrame :=
  { board := if st = .entry then 1 else 2, prompt := 0, red := .off, amber := .off, green := .off, showKind := .none
    values := [] }

/-- R137: the refresh period of a step. -/
def stepPeriod (y : Step) : Nat := if y.showKind = .none then 1000 else 200

/-- R127, R131, R135, R136, R137: a station in program `p` that has come to rest in step `n` of content `y`, entered at this
moment. -/
def restedIn (st : Station) (p n : Nat) (y : Step) (t : State) : StationGuide :=
  { program := p, step := some n, entryTime := t.time.now
    timeout := if y.timeout = 0 then none else some (later t.time.now (y.timeout * 100))
    flags := standingFlags st t
    slot := some { frame := stepFrame st y t, since := t.time.now, sending := false }
    refresh := later t.time.now (stepPeriod y) }

/-- R133, R137: a station in program `p` that has gone to END at this moment (log entry 11 for the entry time). -/
def restedAtEnd (st : Station) (p : Nat) (t : State) : StationGuide :=
  { program := p, step := none, entryTime := t.time.now, timeout := none, flags := []
    slot := some { frame := endFrame st, since := t.time.now, sending := false }
    refresh := later t.time.now 1000 }

/-- R127, R129, R133, R134, R138: Guidance has entered a successor for a station and come to rest. A step that waits on a
standing flag which holds is passed through at once; each step entered issues its request behind `l`; the lamps and the board
show where the station rests. -/
def GuidedTo (st : Station) (p : Nat) (next : Option Nat) (l : List StationRequest) (t : State) : Prop :=
  (next = none → t.guide.at st = restedAtEnd st p t ∧ LampsShow st .off .off .off t ∧ t.guide.requests = l)
    ∧ ∀ n y, next = some n → stepAt t.guide n = some y →
      ((∀ e, y.wait = .event e → e ∉ standingFlags st t) → t.guide.at st = restedIn st p n y t
        ∧ LampsShow st y.red y.amber y.green t ∧ t.guide.requests = requestsAfter st y.request l)
      ∧ (∀ e, y.wait = .event e → e ∈ standingFlags st t →
        (y.nextAdvance = none → t.guide.at st = restedAtEnd st p t ∧ LampsShow st .off .off .off t
          ∧ t.guide.requests = requestsAfter st y.request l)
        ∧ (∀ m z, y.nextAdvance = some m → stepAt t.guide m = some z → t.guide.at st = restedIn st p m z t
          ∧ LampsShow st z.red z.amber z.green t
          ∧ t.guide.requests = requestsAfter st z.request (requestsAfter st y.request l)))

/-- Nothing but Guidance's state for a station, the requests it issues and the lamps has changed. -/
def OnlyGuided (st : Station) (s t : State) : Prop :=
  t = { s with
      guide := { s.guide with entry := t.guide.entry, brake := t.guide.brake, requests := t.guide.requests }
      sig := { s.sig with outputs := t.sig.outputs } }
    ∧ (st = .entry → t.guide.brake = s.guide.brake ∧ t.guide.requests = s.guide.requests
        ∧ t.sig.outputs = { s.sig.outputs with
            entryRed := t.sig.outputs.entryRed, entryGreen := t.sig.outputs.entryGreen })
    ∧ (st = .brake → t.guide.entry = s.guide.entry ∧ t.sig.outputs = { s.sig.outputs with
        brakeRed := t.sig.outputs.brakeRed, brakeAmber := t.sig.outputs.brakeAmber
        brakeGreen := t.sig.outputs.brakeGreen })

end Sys2Proof.Machine
end

