-- ==== Sys2Proof/WellFormed.lean ====
section
/-! DEFINITION. Which terms of `Instr` stand for something that can reach the part: every number fits
the field, pin or frame that carries it (R30, R179, R199 to R202). Whether a rule accepts a value is
not asked here: that is the meaning's own check. -/

namespace Sys2Proof

/-- The number fits a field of `bytes` bytes. -/
def fits (bytes n : Nat) : Bool := decide (n < 256 ^ bytes)

/-- An absent field, or one whose number is not the all-ones value of its width (R199). -/
def optFits (bytes : Nat) : Option Nat → Bool
  | none => true
  | some n => decide (n + 1 < 256 ^ bytes)

/-- Text that a length byte and one byte for each code can carry (R199). -/
def textFits (t : Text) : Bool := decide (t.length < 256) && t.all (fits 1)

/-- A list whose one-byte count can carry its length (R199). -/
def listFits {α : Type} (l : List α) : Bool := decide (l.length < 256)

def RawLine.wf (e : RawLine) : Bool := fits 1 e.line && fits 1 e.fn && fits 1 e.level && fits 1 e.debounce

def RawClass.wf (c : RawClass) : Bool :=
  textFits c.name && fits 2 c.minServiceEff && fits 2 c.minParkingEff && fits 2 c.maxImbalance
    && fits 2 c.maxDrag && fits 2 c.maxSideSlip && fits 2 c.maxAxleWeight && fits 1 c.entryProgram
    && fits 1 c.brakeProgram && fits 1 c.printCurves

def RawStep.wf (r : RawStep) : Bool :=
  fits 1 r.prompt && fits 1 r.red && fits 1 r.amber && fits 1 r.green && fits 1 r.showKind
    && fits 1 r.waitKind && fits 2 r.threshold && fits 2 r.timeout && fits 1 r.nextAdvance
    && fits 1 r.nextTimeout && fits 1 r.request

def RawProgram.wf (p : RawProgram) : Bool :=
  fits 1 p.first && fits 1 p.last && fits 1 p.entryStep && listFits p.steps && p.steps.all RawStep.wf

def RawHeader.wf (h : RawHeader) : Bool := fits 1 h.style && textFits h.text

def RawCal.wf : RawCal → Bool
  | .channel z g v => optFits 2 z && optFits 3 g && fits 1 v
  | .constants dd ds plate sp => fits 2 dd && fits 2 ds && fits 2 plate && fits 2 sp
  | .none => true

/-- The command is one the outside can give. -/
def Instr.wf : Instr → Bool
  | .autoloadEnd nacks => nacks.all (fun p => decide (p < 20))
  | .conversion vs => decide (vs.length = 16) && vs.all (fun v => decide (v < 4096))
  | .ageExpiry slot => decide (slot < 32)
  | .pedalFrame bytes => decide (bytes.length = 16)
  | .hello w => fits 1 w
  | .credit n => fits 1 n
  | .hostFrameReceived kind tag payload => fits 1 kind && fits 2 tag && decide (payload.length ≤ 1024)
  | .getStatus tag sect => fits 2 tag && fits 1 sect
  | .restart tag => fits 2 tag
  | .setClock tag y mo d h mi s =>
      fits 2 tag && fits 2 y && fits 1 mo && fits 1 d && fits 1 h && fits 1 mi && fits 1 s
  | .setConfig tag es => fits 2 tag && listFits es && es.all (fun e => fits 1 e.1 && fits 4 e.2)
  | .getConfig tag => fits 2 tag
  | .setChannels tag as => fits 2 tag && listFits as && as.all (fun a => fits 1 a.1 && fits 1 a.2)
  | .setLines tag es => fits 2 tag && listFits es && es.all RawLine.wf
  | .loadClass tag c l f => fits 2 tag && fits 1 c && fits 1 l && f.all RawClass.wf
  | .loadProgram tag p u c => fits 2 tag && fits 1 p && fits 1 u && c.all RawProgram.wf
  | .bookVehicle tag id c e pk =>
      fits 2 tag && textFits id && fits 1 c && optFits 1 e && listFits pk && pk.all (fits 1)
  | .armVehicle tag slot => fits 2 tag && optFits 1 slot
  | .bindVehicle tag slot id c => fits 2 tag && fits 1 slot && textFits id && optFits 1 c
  | .discardVehicle tag slot => fits 2 tag && fits 1 slot
  | .getVehicle tag slot => fits 2 tag && fits 1 slot
  | .listLane tag => fits 2 tag
  | .skipAxle tag => fits 2 tag
  | .releaseVehicle tag => fits 2 tag
  | .ackFault tag => fits 2 tag
  | .setLive tag st d => fits 2 tag && fits 1 st && fits 1 d
  | .traceList tag sel st => fits 2 tag && fits 1 sel && fits 2 st
  | .traceRead tag id f c => fits 2 tag && fits 2 id && fits 3 f && fits 2 c
  | .traceRelease tag id => fits 2 tag && fits 2 id
  | .setPartitions tag b e => fits 2 tag && fits 2 b && fits 2 e
  | .certQueue tag slot hs => fits 2 tag && fits 1 slot && listFits hs && hs.all RawHeader.wf
  | .certAbort tag slot => fits 2 tag && fits 1 slot
  | .certList tag => fits 2 tag
  | .calRead tag t c => fits 2 tag && fits 1 t && optFits 1 c
  | .calWrite tag t c k => fits 2 tag && fits 1 t && optFits 1 c && k.wf
  | .calZero tag c => fits 2 tag && fits 1 c
  | .calSpan tag c r => fits 2 tag && fits 1 c && fits 2 r
  | .setCounter tag v => fits 2 tag && fits 4 v
  | .powerOn _ | .resetLine _ | .laneTimeTick | .clockReferenceAdvance | .pulseEdge _ | .windowEnd
  | .lineSample _ | .entryBarrierActive | .entryBarrierInactive | .slipPlateSwitchActive
  | .slipPlateSwitchInactive | .exitBarrierBroken | .exitBarrierClear | .wheelActive _
  | .wheelInactive _ | .driveReadyActive _ | .driveReadyInactive _ | .estopActive | .estopInactive
  | .entryWindowEnd | .settleExpiry | .quietExpiry | .brakeWindowEnd | .presenceExpiry
  | .spinUpExpiry | .brakingExpiry | .stopExpiry | .clearExpiry | .markParking | .endAxle
  | .guidanceSkipAxle | .guidanceReleaseVehicle | .pedalByte _ _ _ | .pedalSilenceExpiry
  | .stepTimeout _ | .showRefresh _ | .promptTransmitBegin | .promptTransmitEnd | .printerByte _ _
  | .status _ | .printerSilenceExpiry | .printerTransmitBegin | .printerTransmitEnd
  | .eepromWriteEnd _ | .eepromAckTimeout | .ctsChange _ | .hostByte _ _ | .requestTaken
  | .hostTransmitBegin | .hostTransmitEnd => true

end Sys2Proof
end

