-- ==== Sys2Proof/Certificates/Slice0/Obligations.lean ====
section
/-! DEFINITION. The statements for the provers. -/

open Sys2Proof Sys2Proof.Machine

/-! ## The queue of commands and reset -/

/-- A step runs the command that has waited longest, with the queue's rest (log entry 1 for the empty queue). -/
def Obligations.StepRunsTheFrontCommand : Prop :=
  ∀ (c : Instr) (rest : List Instr) (s : State),
    (s.pending = c :: rest → step s = exec c { s with pending := rest }) ∧ (s.pending = [] → step s = .next s)

/-- The state right after reset meets every law stated below. -/
def Obligations.ResetMeetsTheLaws : Prop :=
  Calm State.reset ∧ RunLaw State.reset ∧ CreditLaw State.reset ∧ AxleLaw State.reset ∧ JobLaw State.reset
    ∧ LaneLaw State.reset ∧ ShareLaw State.reset ∧ BlockLaw State.reset ∧ Eeprom.wf State.reset.eeprom = true

/-- R25, R27, R62, R187, R198 and the other chapters' reset rules: power-on and the reset line give the reset
state. R182: taken during a page write they may leave that page torn, and no other byte of the EEPROM changes; a torn page
is read as bad. The queue of commands and the level of CTS are not the part's and are kept (log entry 35); the level of
CTS and the strap's polarity, what becomes of the page, and the reset state's values that no rule gives (the clock's pair,
the phase and its zeros among them) are the model's free or chosen values (log entries 3, 4, 5, 7, 55). -/
def Obligations.PowerOnAndResetLineGiveTheResetState : Prop :=
  ∀ (strap : Level) (s : State),
    (s.cal.writing = none →
      exec (.powerOn strap) s = .next { State.reset with
        pending := s.pending, eeprom := s.eeprom, torn := s.torn,
        port := { HostPort.reset with fast := strapFast strap, cts := s.port.cts } })
    ∧ (∀ w, s.cal.writing = some w → w.page < 256 → s.eeprom.wf = true →
      ∃ t, exec (.powerOn strap) s = .next t
        ∧ t = { State.reset with
            pending := s.pending, eeprom := t.eeprom, torn := s.torn + 1,
            port := { HostPort.reset with fast := strapFast strap, cts := s.port.cts } }
        ∧ t.eeprom.wf = true
        ∧ t.eeprom.page w.page = (if Config.writeReached s.torn then w.values.page
            else if Config.writeTouched s.torn then tornPage s.torn else s.eeprom.page w.page)
        ∧ crc8 ((tornPage s.torn).take 31) ≠ (tornPage s.torn).getD 31 0
        ∧ (∀ a, a < 32 * w.page ∨ 32 * w.page + 32 ≤ a → t.eeprom.read a = s.eeprom.read a))
    ∧ exec (.resetLine strap) s = exec (.powerOn strap) s

/-! ## Autoload -/

/-- R179, R180, R178, R204: a header page that cannot be used leaves the store ABSENT, the counter unavailable, every channel
uncalibrated and the lane constants not valid, and sends one STORE_FAULT. With a good header both good copies give the larger
value, copy A being current when it is; one good copy is taken alone; no good copy leaves the counter unavailable at 0. Each
good page of the lane constants and of a channel enters the image as read and stored, each bad one as not valid and not
stored; the store is READY when every record is stored, without a notice, and else DEGRADED. -/
def Obligations.AutoloadLoadsTheImage : Prop :=
  ∀ (nacks : List Nat) (s : State), s.cal.state = .loading →
    (∀ c, headerFault s.eeprom nacks = some c →
      ∃ t, exec (.autoloadEnd nacks) s = .next t ∧ t.cal.state = .absent ∧ t.cal.counter = 0
        ∧ t.cal.available = false ∧ t.cal.constants.valid = false ∧ t.cal.headerStored = false
        ∧ (∀ n, calibration t n = none) ∧ t.eeprom = s.eeprom
        ∧ (Calm s → s.port.notices.length < 32 →
            ∃ k, t.port.notices = s.port.notices ++ [(k, .storeFault .header c .absent s.time.now)]))
    ∧ (∀ a b : List Byte, headerFault s.eeprom nacks = none →
      readPage s.eeprom nacks 1 = .good a → readPage s.eeprom nacks 2 = .good b →
      ∃ t, exec (.autoloadEnd nacks) s = .next t ∧ t.cal.headerStored = true ∧ t.cal.available = true
        ∧ t.cal.counter = max (leNat (a.take 4)) (leNat (b.take 4))
        ∧ t.cal.current = (if leNat (b.take 4) ≤ leNat (a.take 4) then .a else .b)
        ∧ t.eeprom = s.eeprom)
    ∧ (∀ (k l : Copy) (a : List Byte) (c : StoreCause), headerFault s.eeprom nacks = none → k ≠ l →
      readPage s.eeprom nacks (copyPage k) = .good a → readPage s.eeprom nacks (copyPage l) = .bad c →
      ∃ t, exec (.autoloadEnd nacks) s = .next t ∧ t.cal.counter = leNat (a.take 4) ∧ t.cal.available = true
        ∧ t.cal.current = k ∧ t.cal.counterStored = true)
    ∧ (∀ c d : StoreCause, headerFault s.eeprom nacks = none →
      readPage s.eeprom nacks 1 = .bad c → readPage s.eeprom nacks 2 = .bad d →
      ∃ t, exec (.autoloadEnd nacks) s = .next t ∧ t.cal.counter = 0 ∧ t.cal.available = false
        ∧ t.cal.current = .b ∧ t.cal.counterStored = false ∧ t.cal.state = .degraded)
    ∧ (headerFault s.eeprom nacks = none →
      ∃ t, exec (.autoloadEnd nacks) s = .next t ∧ t.cal.headerStored = true ∧ t.eeprom = s.eeprom
        ∧ (∀ p dd ds plate sp, readPage s.eeprom nacks 3 = .good p →
            dd = leNat (p.take 2) → ds = leNat ((p.drop 2).take 2) → plate = leNat ((p.drop 4).take 2) →
            sp = leNat ((p.drop 6).take 2) →
            (ConstantsInRange dd ds plate sp → t.cal.constants =
              { dd := dd, ds := ds, plate := plate, testSpeed := sp, valid := true, stored := true })
            ∧ (¬ ConstantsInRange dd ds plate sp → t.cal.constants =
              { dd := 1000, ds := 1000, plate := 1000, testSpeed := 700, valid := false, stored := false }))
        ∧ (∀ c, readPage s.eeprom nacks 3 = .bad c → t.cal.constants =
            { dd := 1000, ds := 1000, plate := 1000, testSpeed := 700, valid := false, stored := false })
        ∧ (∀ n p z g v, n ≤ 15 → readPage s.eeprom nacks (4 + n) = .good p →
            z = optNat (p.take 2) → g = optNat ((p.drop 2).take 3) → v = (p.getD 5 0).toNat →
            (ChannelInRange z g v → t.cal.channels[n]? =
              some { zcal := z, gain := g, valid := v == 1, stored := true })
            ∧ (¬ ChannelInRange z g v → t.cal.channels[n]? =
              some { zcal := none, gain := none, valid := false, stored := false }))
        ∧ (∀ n c, n ≤ 15 → readPage s.eeprom nacks (4 + n) = .bad c →
            t.cal.channels[n]? = some { zcal := none, gain := none, valid := false, stored := false }
            ∧ (Calm s → s.port.notices.length + 18 ≤ 32 →
                ∃ k, (k, .storeFault (.channel n) c t.cal.state s.time.now) ∈ t.port.notices))
        ∧ t.cal.channels.length = 16
        ∧ t.cal.state = (if t.cal.counterStored = true ∧ t.cal.constants.stored = true
            ∧ ∀ c ∈ t.cal.channels, c.stored = true then .ready else .degraded)
        ∧ (Calm s → t.cal.state = .ready → t.port = s.port))

/-! ## Lane time and the wall clock -/

/-- R27: lane time advances by one and wraps. R29: at reference + 2^30 the reference moves on by 2^30 ms, or clock
set is cleared past the end of 2099. Nothing else changes.
That the reference moves while clock set is clear, and that the command does nothing before its lane time, are the
model's readings (log entries 32, 8). -/
def Obligations.LaneTimeAndTheReferenceMoveForward : Prop :=
  ∀ s : State, Calm s →
    exec .laneTimeTick s = .next { s with time := { s.time with now := s.time.now + 1 } }
    ∧ (2 ^ 30 ≤ (s.time.now - s.time.refLane).toNat → s.time.refMs + 2 ^ 30 ≤ lastMs →
      exec .clockReferenceAdvance s = .next { s with time := { s.time with
        refLane := s.time.refLane + BitVec.ofNat 32 (2 ^ 30), refMs := s.time.refMs + 1073741824 } })
    ∧ (2 ^ 30 ≤ (s.time.now - s.time.refLane).toNat → lastMs < s.time.refMs + 2 ^ 30 →
      exec .clockReferenceAdvance s = .next { s with time := { s.time with clockSet := false } })
    ∧ ((s.time.now - s.time.refLane).toNat < 2 ^ 30 → exec .clockReferenceAdvance s = .next s)

/-! ## Signal acquisition -/

/-- R30, R33: a conversion adds to each channel's total and moves its runs and sensor state; a change of state of a channel
that holds a function is told by a FAULT notice, where the notice queue has room. Every field but the channels, the count
of conversions and the Host Port's notices, with their overflow and last number, is unchanged.
At most four conversions a window: log entry 9. -/
def Obligations.ConversionAddsToTheSumsAndMovesTheSensorState : Prop :=
  ∀ (vs : List Nat) (s : State), Calm s → vs.length = s.sig.channels.length → s.sig.convs < 4 →
    ∃ t, exec (.conversion vs) s = .next t
      ∧ t = { s with
          sig := { s.sig with channels := t.sig.channels, convs := s.sig.convs + 1 }
          port := { s.port with notices := t.port.notices, overflow := t.port.overflow, lastNotice := t.port.lastNotice } }
      ∧ t.sig.channels.length = s.sig.channels.length
      ∧ (∃ new, t.port.notices = s.port.notices ++ new)
      ∧ (∀ (n : Nat) (c d : Channel), s.sig.channels[n]? = some c → t.sig.channels[n]? = some d →
          c.faulted ≠ d.faulted → c.fn ≠ .unused → s.port.notices.length + s.sig.channels.length ≤ 32 →
          ∃ k, (k, .sensorFault n c.fn d.faulted s.time.now) ∈ t.port.notices)
      ∧ ((∀ (n : Nat) (c d : Channel), s.sig.channels[n]? = some c → t.sig.channels[n]? = some d →
          c.faulted = d.faulted ∨ c.fn = .unused) → t.port = s.port)
      ∧ ∀ (n : Nat) (c : Channel) (v : Nat), s.sig.channels[n]? = some c → vs[n]? = some v →
        ∃ d : Channel, t.sig.channels[n]? = some d ∧ d.fn = c.fn ∧ d.total = c.total + v
          ∧ d.lastSum = c.lastSum
          ∧ (c.faulted = false → (v = 0 ∨ v = 4095) →
              d.railRun = c.railRun + 1 ∧ d.goodRun = 0 ∧ (d.faulted = true ↔ 8 ≤ c.railRun + 1))
          ∧ (c.faulted = false → 0 < v → v < 4095 → d.railRun = 0 ∧ d.faulted = false)
          ∧ (c.faulted = true → (v = 0 ∨ v = 4095) → d.goodRun = 0 ∧ d.faulted = true)
          ∧ (c.faulted = true → 0 < v → v < 4095 →
              if c.goodRun + 1 < 400 then d.goodRun = c.goodRun + 1 ∧ d.faulted = true
              else d.faulted = false ∧ d.goodRun = 0 ∧ d.railRun = 0)

/-- R35: a rising edge counts through the prescaler; the total stops at 65 535. -/
def Obligations.PulseEdgeCountsThroughThePrescaler : Prop :=
  ∀ (i : PulseInput) (s : State), Calm s →
    ∃ f : Pulse → Pulse, exec (.pulseEdge i) s = .next { s with sig := s.sig.modPulse i f }
      ∧ ∀ p : Pulse,
        (p.residue + 1 < p.inForce → f p = { p with residue := p.residue + 1 })
        ∧ (p.inForce ≤ p.residue + 1 → f p = { p with residue := 0, total := min 65535 (p.total + 1) })

/-- R30, R35, R36: a window end makes each channel's sum and closes each counter's total, and hands one window
end to each station, with the sum of each channel function and the four totals; nothing else changes while no collection
runs.
The hypotheses on lane time and the conversions, the residue of a changed prescaler, and the lists of window ends on their way
to the stations are the model's (log entries 9, 38, 6). -/
def Obligations.WindowEndClosesSumsAndTotals : Prop :=
  ∀ s : State, Calm s → s.cal.collection = none → s.time.now.toNat % 10 = 0 → 0 < s.sig.convs →
    ∃ t d, exec .windowEnd s = .next t
      ∧ t = { s with sig := { s.sig with
            channels := t.sig.channels, convs := 0, lastEnd := some s.time.now,
            driveL := t.sig.driveL, driveR := t.sig.driveR, senseL := t.sig.senseL, senseR := t.sig.senseR,
            entryInbox := s.sig.entryInbox ++ [d], brakeInbox := s.sig.brakeInbox ++ [d] } }
      ∧ d.stamp = s.time.now
      ∧ d.brakeL = readingOf .brakeL t.sig.channels ∧ d.brakeR = readingOf .brakeR t.sig.channels
      ∧ d.weighL = readingOf .weighL t.sig.channels ∧ d.weighR = readingOf .weighR t.sig.channels
      ∧ d.plate = readingOf .plate t.sig.channels
      ∧ (∀ (f : ChannelFn) (i : Nat) (c : Channel), s.sig.channels[i]? = some c → c.fn = f →
          (∀ (j : Nat) (e : Channel), j < i → s.sig.channels[j]? = some e → e.fn ≠ f) →
          readingOf f t.sig.channels = some { channel := i, faulted := c.faulted, sum :=
            if s.sig.convs = 4 then c.total else roundDiv (c.total * 4) s.sig.convs })
      ∧ d.totals = { driveL := s.sig.driveL.total, driveR := s.sig.driveR.total,
                     senseL := s.sig.senseL.total, senseR := s.sig.senseR.total }
      ∧ t.sig.channels = s.sig.channels.map (fun c => { c with
          total := 0, lastFaulted := c.faulted
          lastSum := if s.sig.convs = 4 then c.total else roundDiv (c.total * 4) s.sig.convs })
      ∧ (∀ p ∈ [(s.sig.driveL, t.sig.driveL), (s.sig.driveR, t.sig.driveR), (s.sig.senseL, t.sig.senseL),
                (s.sig.senseR, t.sig.senseR)],
          p.2.total = 0 ∧ p.2.lastTotal = p.1.total ∧ p.2.inForce = p.1.prescale
            ∧ p.2.residue = (if p.1.inForce = p.1.prescale then p.1.residue else 0))

/-- R38: a level that has stood for the debounce time changes a line's debounced state; one that goes back cancels
the pending change; nothing but the lines and the edges on their way changes.
The list of edges on their way is the model's (log entry 6). -/
def Obligations.LineSampleDebouncesEveryInput : Prop :=
  ∀ (levels : BitVec 24) (s : State), Calm s →
    ∃ t, exec (.lineSample levels) s = .next t
      ∧ t = { s with sig := { s.sig with lines := t.sig.lines, edges := t.sig.edges } }
      ∧ ∀ (n : Nat) (l : Line), s.sig.lines[n]? = some l → ∃ m : Line, t.sig.lines[n]? = some m
        ∧ m.fn = l.fn ∧ m.level = l.level ∧ m.debounce = l.debounce
        ∧ (l.fn.isInput = false → m = l)
        ∧ (l.fn.isInput = true → l.reads (levels.getLsbD n) = l.debounced →
            m.debounced = l.debounced ∧ m.change = none)
        ∧ (l.fn.isInput = true → l.reads (levels.getLsbD n) ≠ l.debounced →
            if l.debounce ≤ (s.time.now - l.change.getD s.time.now).toNat then
              m.debounced = !l.debounced ∧ m.change = none
                ∧ { fn := l.fn, active := !l.debounced, stamp := s.time.now } ∈ t.sig.edges
            else m.debounced = l.debounced ∧ m.change = some (l.change.getD s.time.now))

/-! ## Host requests: reports -/

/-- R191, R184: a request that reaches its owner is answered by exactly one reply, with its own kind and tag; a CAL_ZERO
or CAL_SPAN that begins a collection apart, whose reply is withheld, so that one taken while a collection runs is answered
too. The only other reply is the BUSY of the collection in progress, when the request abandons it.
`reachesOwner`: log entry 6; the order of the two replies is the model's choice (log entry 42). -/
def Obligations.EveryRequestIsAnsweredOnce : Prop :=
  ∀ (i : Instr) (kind tag : Nat) (s : State), Calm s → requestTag i = some (kind, tag) →
    (kind ≠ 0x1D ∧ kind ≠ 0x1E) ∨ s.cal.collection.isSome = true → reachesOwner i s = true →
    ∃ t r, exec i s = .next t ∧ r.kind = kind ∧ r.tag = tag ∧ r.refusal = false
      ∧ (s.cal.collection = none → t.port.replies = s.port.replies ++ [r])
      ∧ (∀ (c : Collection) (b : Reply), s.cal.collection = some c →
          b = { kind := c.kind.code, tag := c.tag, status := .busy, body := .none, refusal := false } →
          t.port.replies = s.port.replies ++ [r]
            ∨ (t.cal.collection = none
              ∧ (t.port.replies = s.port.replies ++ [r, b] ∨ t.port.replies = s.port.replies ++ [b, r])))

/-- R196, R11, R174, R183: the reports that change nothing they report. -/
def Obligations.ReportsAnswerWithoutChange : Prop :=
  ∀ (tag : Nat) (s : State), Calm s →
    (reachesOwner (.getConfig tag) s = true → exec (.getConfig tag) s =
      .next (replyWith (.getConfig tag) 0x05 tag .ok (.config
        { settings := settingsOf s, channels := s.sig.channels.map Channel.fn
          lines := s.sig.lines.map (fun l => (l.fn, l.level, l.debounce))
          programs := (List.range 8).map (programAt s.guide) }) s))
    ∧ (reachesOwner (.listLane tag) s = true → exec (.listLane tag) s =
      .next (replyWith (.listLane tag) 0x0F tag .ok (.lane
        { queue := s.vt.queue, armed := s.vt.armed, booked := bookedCount s, dynamic := dynamicCount s
          dynMax := s.vt.dynMax, entryCount := s.vt.entryCount, blocked := s.entry.blocked }) s))
    ∧ (reachesOwner (.certList tag) s = true → exec (.certList tag) s =
      .next (if s.cal.state = .loading then replyWith (.certList tag) 0x1A tag .notReady .none s
             else replyWith (.certList tag) 0x1A tag .ok (.certList (certReport s)) s))

/-- R183, R178: CAL_READ reports the image, by target; a target or channel that does not exist is refused.
That a channel carried for HEADER, COUNTER or CONSTANTS is not looked at, one above 15 included, is the model's choice (log
entry 48). -/
def Obligations.CalReadReportsTheImage : Prop :=
  ∀ (tag target : Nat) (ch : Option Nat) (s : State), Calm s → reachesOwner (.calRead tag target ch) s = true →
    exec (.calRead tag target ch) s = .next (
      if s.cal.state = .loading then replyWith (.calRead tag target ch) 0x1B tag .notReady .none s
      else if target = 0 then replyWith (.calRead tag target ch) 0x1B tag .ok (.calHeader s.cal.headerStored) s
      else if target = 1 then replyWith (.calRead tag target ch) 0x1B tag .ok
        (.calCounter s.cal.counter s.cal.available s.cal.current s.cal.counterStored) s
      else if target = 2 then replyWith (.calRead tag target ch) 0x1B tag .ok (.calConstants s.cal.constants) s
      else match (if target = 3 then ch.bind (fun n => s.cal.channels[n]?) else none) with
        | some c => replyWith (.calRead tag target ch) 0x1B tag .ok (.calChannel c) s
        | none => replyWith (.calRead tag target ch) 0x1B tag .badField .none s)

/-- R195, R192: GET_STATUS answers with the port summary and its section's report, both of the state in which the owner
meets the request, clears NOTICE_OVERFLOW and changes nothing else.
How the request reaches its owner, the sample counts of ENTRY, the places held of the port summary, a changed prescaler in
SIGNALS, and the phase, slip runs and running values of BRAKE are the model's (log entries 6, 12, 28, 41, 45). -/
def Obligations.GetStatusReportsAndClearsTheOverflow : Prop :=
  ∀ (tag sect : Nat) (s : State), Calm s → reachesOwner (.getStatus tag sect) s = true →
    (8 < sect → exec (.getStatus tag sect) s =
      .next (replyWith (.getStatus tag sect) 0x01 tag .badField .none s))
    ∧ (∀ (u : State) (r : Report), u = atOwner (.getStatus tag sect) s → reportOf sect u = some r →
      exec (.getStatus tag sect) s = .next ((replyWith (.getStatus tag sect) 0x01 tag .ok
        (.status (portSummary u) r) s).onPort fun p => { p with overflow := false }))
    ∧ (sect ≤ 8 → ∃ r : Report, reportOf sect (atOwner (.getStatus tag sect) s) = some r
      ∧ exec (.getStatus tag sect) s = .next ((replyWith (.getStatus tag sect) 0x01 tag .ok
          (.status (portSummary (atOwner (.getStatus tag sect) s)) r) s).onPort fun p => { p with overflow := false })
      ∧ (sect = 0 → r = .signals (signalsReport s)) ∧ (sect = 1 → r = .entry (entryReport s))
      ∧ (sect = 2 → r = .brake (brakeReport s)) ∧ (sect = 3 → r = .pedal (pedalReport s))
      ∧ (sect = 4 → r = .guidance (guideReport s.guide.entry) (guideReport s.guide.brake))
      ∧ (sect = 5 → r = .traces (tracesReport s))
      ∧ (sect = 6 → r = .certificates (certReport s) s.cert.badFrames s.cert.creditExcess)
      ∧ (sect = 7 → r = .store (storeReport s)) ∧ (sect = 8 → r = .port))

/-- R11, R7: GET_VEHICLE renews the record's last_activity, changes no other record, and replies with the record
(the renewed time in it is the model's choice, log entry 10). -/
def Obligations.GetVehicleRenewsTheRecord : Prop :=
  ∀ (tag slot : Nat) (s : State), Calm s → reachesOwner (.getVehicle tag slot) s = true →
    (31 < slot → exec (.getVehicle tag slot) s =
      .next (replyWith (.getVehicle tag slot) 0x0E tag .badField .none s))
    ∧ (slot ≤ 31 → (s.record slot).state = .free → exec (.getVehicle tag slot) s =
      .next (replyWith (.getVehicle tag slot) 0x0E tag .noSuch .none s))
    ∧ (slot ≤ 31 → (s.record slot).state ≠ .free →
      exec (.getVehicle tag slot) s = .next (replyWith (.getVehicle tag slot) 0x0E tag .ok
        (.vehicle { s.record slot with lastActivity := s.time.now } (displayedId (s.record slot)))
        (writeRec slot id s)))

/-- R153, R154: TRACE_LIST reports at most 32 summaries of its selection (the live descriptors from the starting id in
order of id, or the drain queue from its oldest), and TRACE_READ the samples, each in its order of checks; neither
changes a hold, flag or queue. -/
def Obligations.TraceReportsAnswerWithoutChange : Prop :=
  ∀ (tag sel start id first count : Nat) (s : State), Calm s →
    ((traceSelection 0 start s.traces).Perm (s.traces.directory.filter (fun d => decide (start ≤ d.id)))
      ∧ (traceSelection 0 start s.traces).Pairwise (fun a b => a.id ≤ b.id)
      ∧ traceSelection 1 start s.traces = s.traces.drain.filterMap s.traces.find)
    ∧ (reachesOwner (.traceList tag sel start) s = true → exec (.traceList tag sel start) s = .next (
      if 1 < sel ∨ (sel = 0 ∧ start = 0) then replyWith (.traceList tag sel start) 0x14 tag .badField .none s
      else replyWith (.traceList tag sel start) 0x14 tag .ok (.traceList
        (((traceSelection sel start s.traces).take 32).map Descriptor.summary)
        (decide (32 < (traceSelection sel start s.traces).length))) s))
    ∧ (reachesOwner (.traceRead tag id first count) s = true → exec (.traceRead tag id first count) s = .next (
      if id = 0 ∨ count = 0 then replyWith (.traceRead tag id first count) 0x15 tag .badField .none s
      else match s.traces.find id with
        | none => replyWith (.traceRead tag id first count) 0x15 tag .noSuch .none s
        | some d =>
          if d.closed = false then replyWith (.traceRead tag id first count) 0x15 tag .state .none s
          else if d.samples.length < first then
            replyWith (.traceRead tag id first count) 0x15 tag .badField .none s
          else replyWith (.traceRead tag id first count) 0x15 tag .ok (.traceRead id first
            ((d.samples.drop first).take (min count (if d.kind = .entry then 160 else 96)))) s))

/-! ## Host requests: clock, settings, tables -/

/-- R28: SET_CLOCK takes the reference at the present lane time when every field is in its range and the day within its month,
and is refused whole otherwise. R193: SET_LIVE takes the divider
and restarts the station's live count. -/
def Obligations.ClockAndLiveRequestsTakeTheirValues : Prop :=
  ∀ s : State, Calm s →
    (∀ tag y mo d h mi sec, reachesOwner (.setClock tag y mo d h mi sec) s = true → DateInRange y mo d h mi sec →
      exec (.setClock tag y mo d h mi sec) s =
        .next { replyWith (.setClock tag y mo d h mi sec) 0x03 tag .ok .none s with
          time := { s.time with refLane := s.time.now, refMs := msOfDate y mo d h mi sec, clockSet := true } })
    ∧ (∀ tag y mo d h mi sec, reachesOwner (.setClock tag y mo d h mi sec) s = true → ¬ DateInRange y mo d h mi sec →
      exec (.setClock tag y mo d h mi sec) s =
        .next (replyWith (.setClock tag y mo d h mi sec) 0x03 tag .badField .none s))
    ∧ (∀ tag st d, reachesOwner (.setLive tag st d) s = true →
      exec (.setLive tag st d) s = .next (
        if 100 < d ∨ 1 < st then replyWith (.setLive tag st d) 0x13 tag .badField .none s
        else (replyWith (.setLive tag st d) 0x13 tag .ok .none s).onPort fun p =>
          if st = 0 then { p with entryDivider := d, entryLiveCount := 0 }
          else { p with brakeDivider := d, brakeLiveCount := 0 }))

/-- R196 (R6, R36, R46, R63, R95, R119, R152, R159): SET_CONFIG in its order of checks, said of its operands: BAD_FIELD,
STATE, BUSY, each changing nothing. Otherwise it is accepted with OK, gives every setting it carries its value, and leaves
every other setting as it was.
When the joint range is tested, and how the request reaches its owner, are the model's readings (log entries 20, 6). -/
def Obligations.SetConfigTakesEveryValueOrNone : Prop :=
  ∀ (tag : Nat) (es : List (Nat × Nat)) (s : State), Calm s → reachesOwner (.setConfig tag es) s = true →
    (¬ ConfigFieldsOk es s → exec (.setConfig tag es) s =
      .next (replyWith (.setConfig tag es) 0x04 tag .badField .none s))
    ∧ (ConfigFieldsOk es s → ¬ ConfigStateOk es s → exec (.setConfig tag es) s =
      .next (replyWith (.setConfig tag es) 0x04 tag .state .none s))
    ∧ (ConfigFieldsOk es s → ConfigStateOk es s → ¬ ConfigIdleOk es s → exec (.setConfig tag es) s =
      .next (replyWith (.setConfig tag es) 0x04 tag .busy .none s))
    ∧ (ConfigFieldsOk es s → ConfigStateOk es s → ConfigIdleOk es s → ∃ t, exec (.setConfig tag es) s = .next t
      ∧ { kind := 0x04, tag := tag, status := .ok, body := .none, refusal := false } ∈ t.port.replies
      ∧ ∀ i, 1 ≤ i → i ≤ 18 → (∀ v, (i, v) ∈ es → (settingsOf t).lookup i = some v)
          ∧ ((∀ v, (i, v) ∉ es) → (settingsOf t).lookup i = (settingsOf s).lookup i))

/-- R32: SET_CHANNELS in its order of checks, said of its operands: BAD_FIELD, BUSY, each changing nothing. Otherwise it
is accepted with OK and gives each named channel its function; the other channels keep theirs, and every channel keeps its
sensor state and runs.
How the request reaches its owner is the model's (log entry 6). -/
def Obligations.SetChannelsChangesOnlyTheNamedFunctions : Prop :=
  ∀ (tag : Nat) (as : List (Nat × Nat)) (s : State), Calm s → reachesOwner (.setChannels tag as) s = true →
    (¬ ChannelsFieldsOk as s → exec (.setChannels tag as) s =
      .next (replyWith (.setChannels tag as) 0x06 tag .badField .none s))
    ∧ (ChannelsFieldsOk as s → ¬ ChannelsIdleOk as s → exec (.setChannels tag as) s =
      .next (replyWith (.setChannels tag as) 0x06 tag .busy .none s))
    ∧ (ChannelsFieldsOk as s → ChannelsIdleOk as s → ∃ t, exec (.setChannels tag as) s = .next t
      ∧ { kind := 0x06, tag := tag, status := .ok, body := .none, refusal := false } ∈ t.port.replies
      ∧ ∀ (n : Nat) (c : Channel), s.sig.channels[n]? = some c →
        ∃ d, t.sig.channels[n]? = some d ∧ { d with fn := c.fn } = c
          ∧ (∀ f, (n, f) ∈ as → ofCode channelFns f = some d.fn)
          ∧ ((∀ f, (n, f) ∉ as) → d.fn = c.fn))

/-- R40, R39: SET_LINES in its order of checks, said of its operands: BAD_FIELD, BUSY, each changing nothing. Otherwise it
is accepted with OK and restarts each named line inactive with no pending change, an input line with the debounce time given,
and keeps the others; a line whose old input function was active gives that function an inactive edge; a line given an output
function drives at once from that function's state, and one given NONE drives nothing.
The list of edges on their way, and how the request reaches its owner, are the model's (log entry 6). -/
def Obligations.SetLinesRestartsTheNamedLines : Prop :=
  ∀ (tag : Nat) (es : List RawLine) (s : State), Calm s → reachesOwner (.setLines tag es) s = true →
    (¬ LinesFieldsOk es s → exec (.setLines tag es) s =
      .next (replyWith (.setLines tag es) 0x07 tag .badField .none s))
    ∧ (LinesFieldsOk es s → stationIdle .entry s = false ∨ stationIdle .brake s = false → exec (.setLines tag es) s =
      .next (replyWith (.setLines tag es) 0x07 tag .busy .none s))
    ∧ (LinesFieldsOk es s → stationIdle .entry s = true → stationIdle .brake s = true →
      ∃ t, exec (.setLines tag es) s = .next t
      ∧ { kind := 0x07, tag := tag, status := .ok, body := .none, refusal := false } ∈ t.port.replies
      ∧ ∀ (n : Nat) (l : Line), s.sig.lines[n]? = some l →
        ∃ m, t.sig.lines[n]? = some m
          ∧ (∀ e ∈ es, e.line = n → ofCode lineFns e.fn = some m.fn ∧ ofCode levels e.level = some m.level
              ∧ m.debounced = false ∧ m.change = none ∧ (m.fn.isInput = true → m.debounce = e.debounce)
              ∧ (l.fn.isInput = true → l.debounced = true →
                  { fn := l.fn, active := false, stamp := s.time.now } ∈ t.sig.edges)
              ∧ (∀ b, outputLit m.fn s = some b → m.driven t = some (if b then m.level else Level.other m.level))
              ∧ (m.fn = .none → m.driven t = none))
          ∧ ((∀ e ∈ es, e.line ≠ n) → m = l))

/-- R24: LOAD_CLASS with the fields of a loaded class, each in its range, replaces the entry by one that holds them; the
unloaded form makes it not loaded; anything else is refused with BAD_FIELD and changes nothing.
The codes of its loaded indication, and that a print_curves byte above 1 is out of range, are the model's choice (log entry
43). -/
def Obligations.LoadClassReplacesTheEntry : Prop :=
  ∀ (tag c l : Nat) (f : Option RawClass) (s : State), Calm s → reachesOwner (.loadClass tag c l f) s = true →
    (∀ r, c ≤ 7 → l = 1 → f = some r → ClassInRange r → exec (.loadClass tag c l f) s =
      .next { replyWith (.loadClass tag c l f) 0x08 tag .ok .none s with
        vt := { s.vt with classes := s.vt.classes.set c (some
          { name := r.name, minServiceEff := r.minServiceEff, minParkingEff := r.minParkingEff
            maxImbalance := r.maxImbalance, maxDrag := r.maxDrag, maxSideSlip := r.maxSideSlip
            maxAxleWeight := r.maxAxleWeight, entryProgram := r.entryProgram, brakeProgram := r.brakeProgram
            printCurves := r.printCurves == 1 }) } })
    ∧ (c ≤ 7 → l = 0 → f = none → exec (.loadClass tag c l f) s =
      .next { replyWith (.loadClass tag c l f) 0x08 tag .ok .none s with
        vt := { s.vt with classes := s.vt.classes.set c none } })
    ∧ (7 < c ∨ ¬ ((l = 0 ∧ f = none) ∨ ∃ r, l = 1 ∧ f = some r ∧ ClassInRange r) → exec (.loadClass tag c l f) s =
      .next (replyWith (.loadClass tag c l f) 0x08 tag .badField .none s))

/-- R124, R122: LOAD_PROGRAM in its order of checks: BAD_FIELD for a field out of its range, a successor outside the range, a
wrong length or two steps chained on one standing flag, STATE for a step another loaded program owns, BUSY for a program a
station stands in. An accepted load gives the program its range and entry step and writes each step as its fields spell it;
the steps of the old range outside the new one lose their content, the others keep theirs.
The codes of its unload indication are the model's choice (log entry 43). -/
def Obligations.LoadProgramWritesItsRange : Prop :=
  ∀ (tag p : Nat) (c : RawProgram) (s : State), Calm s →
    (2 ≤ p → p ≤ 7 → s.guide.programs.length = 6 → s.guide.steps.length = 80 →
      reachesOwner (.loadProgram tag p 0 (some c)) s = true →
      ProgramInRange c → ¬ RangeOwned p c.first c.last s.guide → ¬ ProgramInHand p s.guide →
      ∃ t, exec (.loadProgram tag p 0 (some c)) s = .next t
        ∧ t = { replyWith (.loadProgram tag p 0 (some c)) 0x09 tag .ok .none s with guide := t.guide }
        ∧ t.guide = { s.guide with programs := t.guide.programs, steps := t.guide.steps }
        ∧ programAt t.guide p = some { first := c.first, last := c.last, entryStep := c.entryStep }
        ∧ (∀ (i : Nat) (r : RawStep), c.steps[i]? = some r →
            ∃ x, stepAt t.guide (c.first + i) = some x ∧ StepSpelled r x)
        ∧ (∀ n, 16 ≤ n → n < c.first ∨ c.last < n →
            (∀ q, programAt s.guide p = some q → q.first ≤ n → n ≤ q.last → stepAt t.guide n = none)
            ∧ ((∀ q, programAt s.guide p = some q → n < q.first ∨ q.last < n) →
                stepAt t.guide n = stepAt s.guide n))
        ∧ (∀ q, q ≠ p → programAt t.guide q = programAt s.guide q))
    ∧ (2 ≤ p → p ≤ 7 → s.guide.programs.length = 6 → s.guide.steps.length = 80 →
      reachesOwner (.loadProgram tag p 1 none) s = true → ¬ ProgramInHand p s.guide →
      ∃ t, exec (.loadProgram tag p 1 none) s = .next t
        ∧ t = { replyWith (.loadProgram tag p 1 none) 0x09 tag .ok .none s with guide := t.guide }
        ∧ programAt t.guide p = none
        ∧ ∀ q, programAt s.guide p = some q → ∀ n, 16 ≤ n → q.first ≤ n → n ≤ q.last → stepAt t.guide n = none)
    ∧ (∀ u x, p < 2 ∨ 7 < p → reachesOwner (.loadProgram tag p u x) s = true →
      exec (.loadProgram tag p u x) s = .next (replyWith (.loadProgram tag p u x) 0x09 tag .badField .none s))
    ∧ (2 ≤ p → p ≤ 7 → reachesOwner (.loadProgram tag p 0 (some c)) s = true → ¬ ProgramInRange c →
      exec (.loadProgram tag p 0 (some c)) s =
        .next (replyWith (.loadProgram tag p 0 (some c)) 0x09 tag .badField .none s))
    ∧ (2 ≤ p → p ≤ 7 → reachesOwner (.loadProgram tag p 0 (some c)) s = true → ProgramInRange c →
      RangeOwned p c.first c.last s.guide → exec (.loadProgram tag p 0 (some c)) s =
        .next (replyWith (.loadProgram tag p 0 (some c)) 0x09 tag .state .none s))
    ∧ (2 ≤ p → p ≤ 7 → reachesOwner (.loadProgram tag p 0 (some c)) s = true → ProgramInRange c →
      ¬ RangeOwned p c.first c.last s.guide → ProgramInHand p s.guide →
      exec (.loadProgram tag p 0 (some c)) s =
        .next (replyWith (.loadProgram tag p 0 (some c)) 0x09 tag .busy .none s))
    ∧ (2 ≤ p → p ≤ 7 → reachesOwner (.loadProgram tag p 1 none) s = true → ProgramInHand p s.guide →
      exec (.loadProgram tag p 1 none) s = .next (replyWith (.loadProgram tag p 1 none) 0x09 tag .busy .none s))
    ∧ (∀ u x, 2 ≤ p → p ≤ 7 → (u = 0 ∧ x = none) ∨ (u = 1 ∧ x ≠ none) ∨ 1 < u →
      reachesOwner (.loadProgram tag p u x) s = true → exec (.loadProgram tag p u x) s =
        .next (replyWith (.loadProgram tag p u x) 0x09 tag .badField .none s))

/-! ## Host requests: vehicle records -/

/-- R8: BOOK_VEHICLE in its order of checks; an accepted booking takes the lowest-numbered FREE slot, which it finds under
the law of R6, and changes no other record. -/
def Obligations.BookVehicleTakesTheLowestFreeSlot : Prop :=
  ∀ (tag : Nat) (id : Text) (c : Nat) (e : Option Nat) (pk : List Nat) (s : State), Calm s →
    reachesOwner (.bookVehicle tag id c e pk) s = true →
    (bookingOk id c e pk = true ↔ 1 ≤ id.length ∧ id.length ≤ 16 ∧ (∀ x ∈ id, 32 ≤ x ∧ x ≤ 126) ∧ c ≤ 7
      ∧ (∀ n, e = some n → 1 ≤ n ∧ n ≤ 12)
      ∧ ∀ n ∈ pk, 1 ≤ n ∧ n ≤ 12 ∧ ∀ m, e = some m → n ≤ m)
    ∧ (idTaken id none s = true ↔ ∃ r ∈ s.vt.records, r.state ≠ .free ∧ r.id = id)
    ∧ (s.vt.records.length = 32 → ShareLaw s → bookedCount s < 32 - s.vt.dynMax → ∃ k, freeSlot s = some k)
    ∧ (∀ k, freeSlot s = some k → (s.record k).state = .free ∧ ∀ j, j < k → (s.record j).state ≠ .free)
    ∧ (bookingOk id c e pk = false → exec (.bookVehicle tag id c e pk) s =
      .next (replyWith (.bookVehicle tag id c e pk) 0x0A tag .badField .none s))
    ∧ (bookingOk id c e pk = true → idTaken id none s = true → exec (.bookVehicle tag id c e pk) s =
      .next (replyWith (.bookVehicle tag id c e pk) 0x0A tag .duplicate .none s))
    ∧ (bookingOk id c e pk = true → idTaken id none s = false → 32 - s.vt.dynMax ≤ bookedCount s →
      exec (.bookVehicle tag id c e pk) s =
        .next (replyWith (.bookVehicle tag id c e pk) 0x0A tag .tableFull .none s))
    ∧ (∀ k, bookingOk id c e pk = true → idTaken id none s = false → bookedCount s < 32 - s.vt.dynMax →
      freeSlot s = some k →
      exec (.bookVehicle tag id c e pk) s = .next (replyWith (.bookVehicle tag id c e pk) 0x0A tag .ok (.slot k)
        (modRec k (fun _ => { Record.free with
          id := id, origin := .booked, state := .booked, cls := c, expected := e, parkingSet := axleSet pk,
          lastActivity := s.time.now }) s)))

/-- R9: ARM_VEHICLE moves the armed reference; R10: BIND_VEHICLE writes the id and the class. R12, R49: an ARM_VEHICLE with
a slot while the entry station is BLOCKED tries the binding again: with room in the lane the station is bound to that
record, which takes an entry without weights for each axle that passed; with the lane full it stays BLOCKED. -/
def Obligations.ArmAndBindChangeTheNamedRecord : Prop :=
  ∀ (tag slot : Nat) (s : State), Calm s → slot ≤ 31 → s.vt.records.length = 32 →
    (s.entry.blocked = false → reachesOwner (.armVehicle tag (some slot)) s = true →
      (s.record slot).state = .booked ∨ (s.record slot).state = .armed → ∃ t,
        exec (.armVehicle tag (some slot)) s = .next t ∧ t.vt.armed = some slot
        ∧ t.record slot = { s.record slot with state := .armed }
        ∧ (∀ a, s.vt.armed = some a → a ≠ slot → t.record a = { s.record a with state := .booked } ∨ 32 ≤ a)
        ∧ (∀ k, k ≠ slot → s.vt.armed ≠ some k → t.record k = s.record k))
    ∧ (reachesOwner (.armVehicle tag none) s = true → ∃ t, exec (.armVehicle tag none) s = .next t
        ∧ t.vt.armed = none ∧ (∀ k, s.vt.armed ≠ some k → t.record k = s.record k)
        ∧ (∀ a, s.vt.armed = some a → a < 32 → (t.record a).state = .booked))
    ∧ (s.entry.blocked = true → reachesOwner (.armVehicle tag (some slot)) s = true →
      (s.record slot).state = .booked → (s.record slot).axles = [] → s.vt.queue.length < 3 →
      leavingMet s = false → s.brake.state ≠ .waitAxleRecord → ∃ t, exec (.armVehicle tag (some slot)) s = .next t
        ∧ t.entry.vehicle = some slot ∧ t.entry.blocked = false ∧ t.entry.crossings = s.entry.crossings
        ∧ t.vt.armed = none ∧ t.vt.queue = s.vt.queue ++ [slot]
        ∧ t.vt.entryCount = (s.vt.entryCount + 1) % 10000
        ∧ (t.record slot).state = .inLane ∧ (t.record slot).id = (s.record slot).id
        ∧ (t.record slot).entryNumber = some ((s.vt.entryCount + 1) % 10000)
        ∧ (t.record slot).axles.length = min 12 s.entry.passed
        ∧ (∀ a ∈ (t.record slot).axles, a.weightL = none ∧ a.weightR = none ∧ a.sideSlip = none
            ∧ a.unsettled = false ∧ a.overrange = false ∧ a.addedAtRollers = false)
        ∧ (∀ k, k ≠ slot → s.vt.armed ≠ some k → t.record k = s.record k))
    ∧ (s.entry.blocked = true → reachesOwner (.armVehicle tag (some slot)) s = true →
      (s.record slot).state = .booked → 3 ≤ s.vt.queue.length → ∃ t, exec (.armVehicle tag (some slot)) s = .next t
        ∧ t.entry = s.entry ∧ t.vt.armed = some slot ∧ t.record slot = { s.record slot with state := .armed }
        ∧ t.vt.queue = s.vt.queue)
    ∧ (∀ (id : Text) (c : Option Nat), reachesOwner (.bindVehicle tag slot id c) s = true →
      (s.record slot).state ≠ .free → idOk id = true → (∀ k, c = some k → k ≤ 7) →
      (s.record slot).origin = .dynamic → (c = none ∨ (s.record slot).state ≠ .complete) →
      (s.record slot).job = false → idTaken id (some slot) s = false →
      exec (.bindVehicle tag slot id c) s = .next (replyWith (.bindVehicle tag slot id c) 0x0C tag .ok .none
        (writeRec slot (fun r => { r with id := id, cls := c.getD r.cls }) s)))

/-- R18, R16: DISCARD_VEHICLE frees the record and no other; R17: so does AGE_EXPIRY of an eligible record whose
age has come; an IN_LANE record or one with a job is refused BUSY.
An expiry acts when it is due, and on an eligible record only (log entry 8). -/
def Obligations.RemovalFreesOneRecord : Prop :=
  ∀ (tag slot : Nat) (s : State), Calm s → s.entry.blocked = false → slot ≤ 31 →
    (reachesOwner (.discardVehicle tag slot) s = true → (s.record slot).state ≠ .free →
      (s.record slot).state ≠ .inLane → (s.record slot).job = false →
      ∃ t, exec (.discardVehicle tag slot) s = .next t ∧ t.record slot = Record.free
        ∧ (∀ k, k ≠ slot → t.record k = s.record k) ∧ t.vt.armed ≠ some slot ∧ t.vt.queue = s.vt.queue)
    ∧ (reachesOwner (.discardVehicle tag slot) s = true →
      (s.record slot).state = .inLane ∨ ((s.record slot).state ≠ .free ∧ (s.record slot).job = true) →
      exec (.discardVehicle tag slot) s =
        .next (replyWith (.discardVehicle tag slot) 0x0D tag .busy .none s))
    ∧ ((s.record slot).evictable = true → s.vt.ageLimit ≠ 0 →
      s.vt.ageLimit * 60000 ≤ (s.time.now - (s.record slot).lastActivity).toNat →
      ∃ t, exec (.ageExpiry slot) s = .next t ∧ t.record slot = Record.free
        ∧ (∀ k, k ≠ slot → t.record k = s.record k) ∧ t.vt.queue = s.vt.queue)
    ∧ ((s.record slot).evictable = false → exec (.ageExpiry slot) s = .next s)

/-! ## Host requests: traces -/

/-- R155, R150: TRACE_RELEASE clears the host's hold; a trace without a print hold is freed. R142: SET_PARTITIONS in
its order of checks; the sizes taken are those asked for. -/
def Obligations.TraceRequestsReleaseAndResize : Prop :=
  ∀ (tag : Nat) (s : State), Calm s →
    (∀ (id : Nat) (d : Descriptor), reachesOwner (.traceRelease tag id) s = true →
      id ≠ 0 → s.traces.find id = some d → d.closed = true → (s.traces.directory.map Descriptor.id).Nodup →
      ∃ t, exec (.traceRelease tag id) s = .next t
        ∧ t = { replyWith (.traceRelease tag id) 0x16 tag .ok .none s with traces := t.traces }
        ∧ id ∉ t.traces.drain
        ∧ (d.printHold = false → t.traces.find id = none)
        ∧ (d.printHold = true → ∃ e, t.traces.find id = some e ∧ e.hostHold = false ∧ e.printHold = true))
    ∧ (∀ b e, reachesOwner (.setPartitions tag b e) s = true → 32768 < b + e →
      exec (.setPartitions tag b e) s = .next (replyWith (.setPartitions tag b e) 0x17 tag .badField .none s))
    ∧ (∀ b e, reachesOwner (.setPartitions tag b e) s = true → b + e ≤ 32768 →
      (b ≠ s.traces.brakeSize ∧ Runs.count s.traces.brakeFree < s.traces.brakeSize)
        ∨ (e ≠ s.traces.entrySize ∧ Runs.count s.traces.entryFree < s.traces.entrySize) →
      exec (.setPartitions tag b e) s = .next (replyWith (.setPartitions tag b e) 0x17 tag .busy .none s))
    ∧ (∀ b e, reachesOwner (.setPartitions tag b e) s = true → b + e ≤ 32768 →
      (b = s.traces.brakeSize ∨ s.traces.brakeSize ≤ Runs.count s.traces.brakeFree) →
      (e = s.traces.entrySize ∨ s.traces.entrySize ≤ Runs.count s.traces.entryFree) →
      ∃ t, exec (.setPartitions tag b e) s = .next t
        ∧ t = { replyWith (.setPartitions tag b e) 0x17 tag .ok .none s with traces := t.traces }
        ∧ t.traces.brakeSize = b ∧ t.traces.entrySize = e ∧ t.traces.directory = s.traces.directory)

/-! ## Host requests: certificates, calibration, restart -/

/-- R160, R161, R173: an accepted CERT_QUEUE adds a job at the tail, NUMBERING when it is the head; an accepted
CERT_ABORT takes the job away and its record's link with it. -/
def Obligations.CertificateRequestsMoveTheQueue : Prop :=
  ∀ (tag slot : Nat) (s : State), Calm s → s.cal.state ≠ .loading → slot ≤ 31 →
    (∀ (hs : List RawHeader) (ls : List HeaderLine) (c : ClassEntry),
      reachesOwner (.certQueue tag slot hs) s = true → headersOf hs = some ls →
      (s.record slot).state = .complete → classEntry s (s.record slot).cls = some c →
      (s.record slot).job = false → resultsStale (s.record slot) s = false →
      s.cal.available = true → s.cal.counter < 4294967295 → s.cert.queue.length < 4 →
      (∀ j, s.cert.queue.head? = some j → j.state ≠ .queued) →
      ∃ t j, exec (.certQueue tag slot hs) s = .next t ∧ t.cert.queue = s.cert.queue ++ [j]
        ∧ j.slot = slot ∧ j.headers = ls ∧ j.cls = (s.record slot).cls ∧ j.className = c.name
        ∧ j.curves = c.printCurves ∧ j.number = none ∧ j.pass = 0
        ∧ j.state = (if s.cert.queue = [] then .numbering else .queued)
        ∧ t.record slot = { s.record slot with job := true }
        ∧ (∀ k, k ≠ slot → t.record k = s.record k))
    ∧ (∀ j : Job, reachesOwner (.certAbort tag slot) s = true → s.entry.blocked = false →
      s.cert.queue.find? (fun j => j.slot == slot) = some j → j.state ≠ .numbering → j.abortPending = false →
      ∃ t, exec (.certAbort tag slot) s = .next t ∧ (∀ i ∈ t.cert.queue, i.slot ≠ slot)
        ∧ (t.record slot).job = false ∧ (t.record slot).state = (s.record slot).state
        ∧ (j.state = .printing → j.started = true → t.cert.void = .owed))

/-- R183, R177, R186: an accepted CAL_WRITE, its fields in their ranges, sets the image at once with the stored mark clear; an
accepted SET_COUNTER queues its write and leaves the counter as it is.
That a channel carried with CONSTANTS is not looked at, one above 15 included, is the model's choice (log entry 48). -/
def Obligations.CalWriteSetsTheImageAndSetCounterDoesNot : Prop :=
  ∀ (tag : Nat) (s : State), Calm s → s.cal.state ≠ .loading → s.cal.hasRoom = true →
    (∀ (n : Nat) (c : ChannelCal) (z g : Option Nat) (v : Nat),
      reachesOwner (.calWrite tag 0 (some n) (.channel z g v)) s = true → n ≤ 15 → s.cal.channels[n]? = some c →
      ChannelInRange z g v → collectingOn n s = false → channelBusy n s = false →
      ∃ t, exec (.calWrite tag 0 (some n) (.channel z g v)) s = .next t
        ∧ t.cal.channels[n]? = some { zcal := z, gain := g, valid := v == 1, stored := false }
        ∧ (∀ m, m ≠ n → t.cal.channels[m]? = s.cal.channels[m]?) ∧ .channel n ∈ t.cal.queue
        ∧ t.eeprom = s.eeprom)
    ∧ (∀ (ch : Option Nat) (dd ds p sp : Nat),
      reachesOwner (.calWrite tag 1 ch (.constants dd ds p sp)) s = true → ConstantsInRange dd ds p sp →
      stationIdle .entry s = true → stationIdle .brake s = true →
      ∃ t, exec (.calWrite tag 1 ch (.constants dd ds p sp)) s = .next t
        ∧ t.cal.constants = { dd := dd, ds := ds, plate := p, testSpeed := sp, valid := true, stored := false }
        ∧ .constants ∈ t.cal.queue ∧ t.eeprom = s.eeprom)
    ∧ (∀ v, reachesOwner (.setCounter tag v) s = true → v ≤ 4294967295 → s.cal.counterQueued = false →
      (s.cal.available = false ∨ s.cal.counter < v) →
      ∃ t, exec (.setCounter tag v) s = .next t ∧ .setCounter v ∈ t.cal.queue ∧ t.cal.counter = s.cal.counter
        ∧ t.cal.available = s.cal.available ∧ t.eeprom = s.eeprom)

/-- R184, R101: CAL_ZERO and CAL_SPAN begin a collection and withhold their reply. A window end adds its sum. At the 64th sum a
zero between the rails replaces the channel's zero, and a span gain in range its gain and sets its valid flag, each replied OK
and queued for writing; a zero at a rail, a load less than 100 above the zero and a gain out of range are replied BAD_FIELD. A
faulted sum ends the collection with STATE; an accepted SET_CHANNELS that changes the channel's function, and the channel's
station leaving IDLE (the entry station by a vehicle at its barrier, the brake station by taking that vehicle as a new head),
abandon it with BUSY. In these cases the image is unchanged.
What a window end needs and makes of its conversions, the places a collection holds, and how an event or a request reaches its
owner, are the model's readings (log entries 9, 30, 6). -/
def Obligations.CollectionsBeginAndEnd : Prop :=
  ∀ (tag n : Nat) (s : State), Calm s → s.cal.state ≠ .loading → n ≤ 15 →
    (reachesOwner (.calZero tag n) s = true → s.cal.collection = none → channelBusy n s = false →
      s.cal.hasRoom = true → ∃ t, exec (.calZero tag n) s = .next t
        ∧ t.cal.collection = some { channel := n, kind := .zero, tag := tag, count := 0, total := 0,
                                    places := s.cal.newEntries }
        ∧ t.port.replies = s.port.replies ∧ t.cal.channels = s.cal.channels)
    ∧ (∀ r, reachesOwner (.calSpan tag n r) s = true → 1 ≤ r → r ≤ 65535 → (s.cal.channel n).zcal ≠ none →
      s.cal.collection = none → channelBusy n s = false → s.cal.hasRoom = true →
      ∃ t, exec (.calSpan tag n r) s = .next t
        ∧ t.cal.collection = some { channel := n, kind := .span r, tag := tag, count := 0, total := 0,
                                    places := s.cal.newEntries }
        ∧ t.port.replies = s.port.replies ∧ t.cal.channels = s.cal.channels)
    ∧ (∀ (c : Channel) (k : Collection) (r : ChannelCal) (z : Nat), s.time.now.toNat % 10 = 0 → 0 < s.sig.convs →
      s.cal.collection = some k → k.channel = n → k.kind = .zero → k.count = 63 →
      s.sig.channels[n]? = some c → c.faulted = false → s.cal.channels[n]? = some r →
      z = roundDiv (k.total + windowSum s.sig.convs c.total) 64 → 0 < z → z < 16380 →
      ∃ t, exec .windowEnd s = .next t ∧ t.cal.collection = none
        ∧ t.cal.channels[n]? = some { r with zcal := some z, stored := false }
        ∧ t.port.replies = s.port.replies
            ++ [{ kind := 0x1D, tag := k.tag, status := .ok, body := .zero z, refusal := false }])
    ∧ (∀ (c : Channel) (k : Collection), s.time.now.toNat % 10 = 0 → 0 < s.sig.convs →
      s.cal.collection = some k → k.channel = n → s.sig.channels[n]? = some c →
      (c.faulted = false → k.count < 63 → ∃ t, exec .windowEnd s = .next t ∧ t.port.replies = s.port.replies
        ∧ t.cal = { s.cal with collection := some { k with
            count := k.count + 1, total := k.total + windowSum s.sig.convs c.total } })
      ∧ (c.faulted = true → ∃ t, exec .windowEnd s = .next t ∧ t.cal = { s.cal with collection := none }
        ∧ t.port.replies = s.port.replies
            ++ [{ kind := k.kind.code, tag := k.tag, status := .state, body := .none, refusal := false }]))
    ∧ (∀ (c : Channel) (k : Collection) (z : Nat), s.time.now.toNat % 10 = 0 → 0 < s.sig.convs →
      s.cal.collection = some k → k.channel = n → k.kind = .zero → k.count = 63 →
      s.sig.channels[n]? = some c → c.faulted = false →
      z = roundDiv (k.total + windowSum s.sig.convs c.total) 64 → z = 0 ∨ 16380 ≤ z →
      ∃ t, exec .windowEnd s = .next t ∧ t.cal = { s.cal with collection := none }
        ∧ t.port.replies = s.port.replies
            ++ [{ kind := 0x1D, tag := k.tag, status := .badField, body := .none, refusal := false }])
    ∧ (∀ (c : Channel) (k : Collection) (r : ChannelCal) (ref z total g : Nat), s.time.now.toNat % 10 = 0 →
      0 < s.sig.convs → s.cal.collection = some k → k.channel = n → k.kind = .span ref → k.count = 63 →
      s.sig.channels[n]? = some c → c.faulted = false → s.cal.channels[n]? = some r → r.zcal = some z →
      total = k.total + windowSum s.sig.convs c.total → g = roundDiv (ref * 4096 * 64) (total - 64 * z) →
      (64 * z + 6400 ≤ total → 1 ≤ g → g ≤ 65535 → ∃ t, exec .windowEnd s = .next t ∧ t.cal.collection = none
        ∧ t.cal.channels[n]? = some { r with gain := some g, valid := true, stored := false }
        ∧ (∀ m, m ≠ n → t.cal.channels[m]? = s.cal.channels[m]?) ∧ .channel n ∈ t.cal.queue
        ∧ t.port.replies = s.port.replies
            ++ [{ kind := 0x1E, tag := k.tag, status := .ok, body := .gain g, refusal := false }])
      ∧ (total < 64 * z + 6400 ∨ g = 0 ∨ 65535 < g → ∃ t, exec .windowEnd s = .next t
        ∧ t.cal = { s.cal with collection := none }
        ∧ t.port.replies = s.port.replies
            ++ [{ kind := 0x1E, tag := k.tag, status := .badField, body := .none, refusal := false }]))
    ∧ (∀ (c : Channel) (k : Collection) (as : List (Nat × Nat)) (m f : Nat) (fn : ChannelFn),
      s.cal.collection = some k → k.channel = n → s.sig.channels[n]? = some c →
      reachesOwner (.setChannels m as) s = true → ChannelsFieldsOk as s → ChannelsIdleOk as s → (n, f) ∈ as →
      ofCode channelFns f = some fn → fn ≠ c.fn → ∃ t, exec (.setChannels m as) s = .next t
        ∧ t.cal = { s.cal with collection := none }
        ∧ { kind := k.kind.code, tag := k.tag, status := .busy, body := .none, refusal := false } ∈ t.port.replies
        ∧ { kind := 0x06, tag := m, status := .ok, body := .none, refusal := false } ∈ t.port.replies)
    ∧ (∀ (c : Channel) (k : Collection) (t0 : LaneTime) (u : State), s.cal.collection = some k → k.channel = n →
      s.sig.channels[n]? = some c → ownerOf c.fn = some .entry → s.entry.vehicle = none → s.entry.blocked = false →
      takeEdge .entryBarrier true s = some (t0, u) → ∃ t, exec .entryBarrierActive s = .next t
        ∧ t.cal = { s.cal with collection := none }
        ∧ t.port.replies = s.port.replies
            ++ [{ kind := k.kind.code, tag := k.tag, status := .busy, body := .none, refusal := false }])
    ∧ (∀ (c : Channel) (k : Collection) (t0 : LaneTime) (u : State) (a : Nat), s.cal.collection = some k →
      k.channel = n → s.sig.channels[n]? = some c → ownerOf c.fn = some .brake → s.entry.vehicle = none →
      s.entry.blocked = false → takeEdge .entryBarrier true s = some (t0, u) → s.vt.queue = [] →
      s.vt.armed = some a → ∃ t, exec .entryBarrierActive s = .next t ∧ t.brake.state = .waitWheels
        ∧ t.brake.vehicle = some a ∧ t.cal = { s.cal with collection := none }
        ∧ t.port.replies = s.port.replies
            ++ [{ kind := k.kind.code, tag := k.tag, status := .busy, body := .none, refusal := false }])

/-- R26, R36, R39, R61, R88, R121, R140, R176, R193, R197: RESTART empties the lane and returns the stations, the link and the
subscriptions to their idle states; it keeps the settings, the class table and the lane entry count. Each pulse counter's
total and residue are cleared. Guidance keeps its programs and steps and enters step 0 of program 0 and step 8 of program 1,
with no flags, the steps' own lamps and a SHOW frame pending for each board. Of the certificate jobs those NUMBERING stay, with
abort pending set and their records as they were, and each other one ends ABORTED with cause RESTART, clears its record's job
link and is told by CERT_DONE; a void becomes owed for a started pass; the rest of the Certificate Unit is kept.
What RESTART keeps without a rule, and that the stations return to IDLE before Guidance enters its steps: log entries 21, 22,
42. -/
def Obligations.RestartEmptiesTheLane : Prop :=
  ∀ (tag : Nat) (s : State), Calm s → reachesOwner (.restart tag) s = true →
    ∃ t, exec (.restart tag) s = .next t
      ∧ t.vt.queue = [] ∧ t.vt.armed = none ∧ t.vt.exitClear = false ∧ t.vt.entryCount = s.vt.entryCount
      ∧ t.vt.classes = s.vt.classes ∧ settingsOf t = settingsOf s
      ∧ t.entry.vehicle = none ∧ t.entry.blocked = false ∧ t.entry.openTrace = none ∧ t.entry.quiet = none
      ∧ t.brake.state = .idle ∧ t.brake.vehicle = none ∧ t.brake.axle = none ∧ t.brake.openTrace = none
      ∧ t.sig.outputs.runL = false ∧ t.sig.outputs.runR = false
      ∧ t.pedal.state = .absent ∧ t.pedal.ring = []
      ∧ t.port.entryDivider = 0 ∧ t.port.brakeDivider = 0 ∧ t.port.live = none
      ∧ t.time = s.time ∧ t.eeprom = s.eeprom ∧ t.cal = s.cal
      ∧ (∀ k, (t.record k).job = false →
        ((s.record k).origin = .dynamic → (t.record k).state = .free)
        ∧ ((s.record k).origin = .booked → (s.record k).state ≠ .free →
            (t.record k).state = .booked ∧ (t.record k).axles = [] ∧ (t.record k).id = (s.record k).id
              ∧ (t.record k).cls = (s.record k).cls))
      -- the counters, the outputs and Guidance (R36, R39, R140)
      ∧ t.sig = { s.sig with
          outputs := { runL := false, runR := false, entryRed := .on, entryGreen := .off, brakeRed := .off,
                       brakeAmber := .on, brakeGreen := .off }
          driveL := { s.sig.driveL with total := 0, residue := 0 }
          driveR := { s.sig.driveR with total := 0, residue := 0 }
          senseL := { s.sig.senseL with total := 0, residue := 0 }
          senseR := { s.sig.senseR with total := 0, residue := 0 } }
      ∧ t.guide = { s.guide with
          entry := { program := 0, step := some 0, entryTime := s.time.now, timeout := some (later s.time.now 100)
                     flags := []
                     slot := some { frame := { board := 1, prompt := 2, red := .on, amber := .off, green := .off,
                                               showKind := .none, values := [] }
                                    since := s.time.now, sending := false }
                     refresh := later s.time.now 1000 }
          brake := { program := 1, step := some 8, entryTime := s.time.now, timeout := some (later s.time.now 100)
                     flags := []
                     slot := some { frame := { board := 2, prompt := 9, red := .off, amber := .on, green := .off,
                                               showKind := .axleNumber, values := [none] }
                                    since := s.time.now, sending := false }
                     refresh := later s.time.now 200 } }
      -- the certificate jobs (R176)
      ∧ t.cert = { s.cert with queue := t.cert.queue, strip := t.cert.strip, void := t.cert.void }
      ∧ t.cert.void = (if ∃ j ∈ s.cert.queue, j.state = .printing ∧ j.started = true then .owed else s.cert.void)
      ∧ ((s.cert.queue.map Job.slot).Nodup →
          t.cert.queue = (s.cert.queue.filter (fun j => decide (j.state = .numbering))).map
            (fun j => { j with abortPending := true })
          ∧ (∀ j ∈ s.cert.queue, (j.state = .numbering → (s.record j.slot).job = true →
                t.record j.slot = s.record j.slot)
              ∧ (j.state ≠ .numbering → (t.record j.slot).job = false
                  ∧ (s.port.notices.length + s.cert.queue.length ≤ 32 → ∃ k, (k, .certDone j.slot
                      (displayedId (s.record j.slot)) j.number .aborted (some .restart) j.pass s.time.now)
                        ∈ t.port.notices))))

/-! ## The entry station -/

/-- R48, R12, R13, R14: an active edge of ENTRY_BARRIER in IDLE binds the armed record, or learns one in the lowest FREE
slot, after evicting the oldest evictable record when the dynamic share is full; or it blocks the station, with LANE_FULL
or NO_RECORD.
How the event reaches its owner is the model's (log entry 6). -/
def Obligations.BarrierEdgeInIdleAsksForARecord : Prop :=
  ∀ (s u : State) (t0 : LaneTime), Calm s → takeEdge .entryBarrier true s = some (t0, u) →
    s.entry.vehicle = none → s.entry.blocked = false →
    (∀ a, s.vt.queue.length < 3 → s.vt.armed = some a → a < s.vt.records.length →
      ∃ t, exec .entryBarrierActive s = .next t ∧ t.entry.vehicle = some a ∧ t.entry.blocked = false
        ∧ t.entry.cleared = false ∧ t.entry.crossings = [] ∧ t.vt.queue = s.vt.queue ++ [a]
        ∧ t.vt.armed = none ∧ t.vt.entryCount = (s.vt.entryCount + 1) % 10000
        ∧ t.record a = { s.record a with entryNumber := some ((s.vt.entryCount + 1) % 10000), state := .inLane,
                                         entryDone := false, lastActivity := s.time.now }
        ∧ (∀ k, k ≠ a → t.record k = s.record k))
    ∧ (∀ k, s.vt.queue.length < 3 → s.vt.armed = none → dynamicCount s < s.vt.dynMax → freeSlot s = some k →
      ∃ t, exec .entryBarrierActive s = .next t ∧ t.entry.vehicle = some k ∧ t.vt.queue = s.vt.queue ++ [k]
        ∧ (t.record k).origin = .dynamic ∧ (t.record k).state = .inLane ∧ (t.record k).cls = s.vt.defaultClass
        ∧ (t.record k).id = [] ∧ (∀ m, m ≠ k → t.record m = s.record m))
    ∧ (3 ≤ s.vt.queue.length → ∃ t, exec .entryBarrierActive s = .next t ∧ t.entry.vehicle = none
        ∧ t.entry.blocked = true ∧ t.vt = s.vt
        ∧ (s.port.notices.length < 32 →
            ∃ n, (n, .entryState .blocked none (some .laneFull) s.time.now) ∈ t.port.notices))
    ∧ (∀ k, s.vt.queue.length < 3 → s.vt.armed = none → s.vt.dynMax ≤ dynamicCount s →
      (s.record k).evictable = true →
      (∀ j, (s.record j).evictable = true →
        (s.time.now - (s.record j).lastActivity).toNat < (s.time.now - (s.record k).lastActivity).toNat
          ∨ ((s.record j).lastActivity = (s.record k).lastActivity ∧ k ≤ j)) →
      ∃ t m, exec .entryBarrierActive s = .next t ∧ t.entry.vehicle = some m ∧ t.entry.blocked = false
        ∧ t.vt.queue = s.vt.queue ++ [m]
        ∧ (m = k ∨ (s.record m).state = .free) ∧ m ≤ k ∧ (∀ j, j < m → (s.record j).state ≠ .free)
        ∧ (t.record m).origin = .dynamic ∧ (t.record m).state = .inLane ∧ (t.record m).cls = s.vt.defaultClass
        ∧ (t.record m).id = [] ∧ (t.record m).axles = []
        ∧ (m ≠ k → t.record k = Record.free) ∧ (∀ j, j ≠ m → j ≠ k → t.record j = s.record j)
        ∧ (s.port.notices.length < 32 →
            ∃ n, (n, .vehicleRemoved k (displayedId (s.record k)) .evicted) ∈ t.port.notices))
    ∧ (s.vt.queue.length < 3 → s.vt.armed = none → s.vt.dynMax ≤ dynamicCount s →
      (∀ k, (s.record k).evictable = false) → ∃ t, exec .entryBarrierActive s = .next t ∧ t.entry.vehicle = none
        ∧ t.entry.blocked = true ∧ t.vt = s.vt
        ∧ (s.port.notices.length < 32 →
            ∃ n, (n, .entryState .blocked none (some .noRecord) s.time.now) ∈ t.port.notices))

/-- R49, R56: the edges of ENTRY_BARRIER while the station is bound, and the one that ends BLOCKED.
How the event reaches its owner is the model's (log entry 6). -/
def Obligations.BarrierEdgesWhileFollowingAVehicle : Prop :=
  ∀ (s u : State) (t0 : LaneTime) (v : Nat), Calm s →
    (takeEdge .entryBarrier true s = some (t0, u) → s.entry.vehicle = some v → s.entry.blocked = false →
      ∃ t, exec .entryBarrierActive s = .next t ∧ t.entry = { s.entry with cleared := false, quiet := none }
        ∧ t.vt = s.vt ∧ t.brake = s.brake)
    ∧ (takeEdge .entryBarrier false s = some (t0, u) → s.entry.vehicle = some v → s.entry.blocked = false →
      ∃ t, exec .entryBarrierInactive s = .next t ∧ t.vt = s.vt ∧ t.brake = s.brake
        ∧ t.entry = (if s.entry.plate.crossing = false ∧ s.entry.scale.phase = .empty then
            { s.entry with cleared := true, quiet := some (later s.time.now 3000) }
          else { s.entry with cleared := true }))
    ∧ (takeEdge .entryBarrier false s = some (t0, u) → s.entry.blocked = true →
      ∃ t, exec .entryBarrierInactive s = .next t ∧ t.vt = s.vt ∧ t.traces = s.traces
        ∧ t.entry = { EntryStation.reset with axleOn := s.entry.axleOn, settleBand := s.entry.settleBand })

/-- R50, R51: a crossing of the slip plate starts with no peak and ends with its value at the tail of the crossing
queue.
How the event reaches its owner is the model's (log entry 6). -/
def Obligations.SlipPlateEdgesFollowACrossing : Prop :=
  ∀ (s u : State) (t0 : LaneTime), Calm s →
    (takeEdge .slipPlateSwitch true s = some (t0, u) → s.entry.vehicle.isSome = true ∨ s.entry.blocked = true →
      s.entry.plate.crossing = false →
      ∃ t, exec .slipPlateSwitchActive s = .next t ∧ t.vt = s.vt
        ∧ t.entry.plate = { crossing := true, peak := none, count := 0, partialMark := false, faultMark := false }
        ∧ t.entry.crossings = s.entry.crossings ∧ (s.entry.vehicle.isSome = true → t.entry.quiet = none))
    ∧ (takeEdge .slipPlateSwitch false s = some (t0, u) → s.entry.plate.crossing = true →
      ∃ t v, exec .slipPlateSwitchInactive s = .next t ∧ t.vt = s.vt ∧ t.entry.plate = PlateTracker.free
        ∧ t.entry.crossings =
            (if 2 ≤ s.entry.crossings.length then s.entry.crossings.drop 1 else s.entry.crossings) ++ [v]
        ∧ (s.entry.plate.partialMark = true ∨ s.entry.plate.faultMark = true ∨ s.entry.plate.count = 0
            ∨ s.cal.constants.valid = false → v = none)
        ∧ (∀ p, s.entry.plate.partialMark = false → s.entry.plate.faultMark = false → 0 < s.entry.plate.count →
            s.cal.constants.valid = true → s.entry.plate.peak = some p →
            v = some (sideSlipOf p s.cal.constants.plate)))
    ∧ (takeEdge .slipPlateSwitch true s = some (t0, u) → s.entry.vehicle = none → s.entry.blocked = false →
      exec .slipPlateSwitchActive s = .next u)

/-- R47, R49, R50, R52, R53, R54, R55, R58, R60, R193: a window end in IDLE is only taken. While the station is bound or BLOCKED its
sample moves the peak, count and fault mark of a crossing, and while bound it joins the open ENTRY trace, taking a free block
where the last one is full, or marking the trace TRUNCATED where none is free. An axle weight of AXLE_ON or more on an empty
scale puts an axle on it, with its settle expiry 10 s later. On an occupied scale the sample joins the axle; the fifth low
sample empties the scale, the weight of a WEIGHING axle first taken UNSETTLED; else 20 samples within SETTLE_BAND settle a
WEIGHING axle with the means of its usable sides. A weight taken while bound is appended with the side_slip of the oldest
crossing, or refused at 12 axles; while BLOCKED it counts a passed axle. With a divider set, each window end of a station that
is bound or BLOCKED counts, and the one that completes the divider clears the count and places the sample as the live frame,
in place of any frame that waits there.
How the event reaches its owner, and that a live frame carries the state before the sample, are the model's (log entries 6,
25). -/
def Obligations.EntryWindowEndPutsAnAxleOnTheScale : Prop :=
  ∀ (s : State) (d : Delivery) (rest : List Delivery) (x : EntrySample) (c : ScaleTracker), Calm s →
    s.sig.entryInbox = d :: rest → x = entrySample d s → c = s.entry.scale.join x s.entry.axleOn →
    (s.entry.vehicle = none → s.entry.blocked = false →
      exec .entryWindowEnd s = .next { s with sig := { s.sig with entryInbox := rest } })
    -- the live frame (R60, R193)
    ∧ (s.entry.vehicle.isSome = true ∨ s.entry.blocked = true → ∃ t, exec .entryWindowEnd s = .next t
        ∧ (s.port.entryDivider = 0 → t.port.live = s.port.live ∧ t.port.entryLiveCount = s.port.entryLiveCount)
        ∧ (s.port.entryLiveCount + 1 < s.port.entryDivider → t.port.live = s.port.live
            ∧ t.port.entryLiveCount = s.port.entryLiveCount + 1)
        ∧ (0 < s.port.entryDivider → s.port.entryDivider ≤ s.port.entryLiveCount + 1 → t.port.entryLiveCount = 0
            ∧ t.port.live = some (.entry (entryName s.entry) s.entry.vehicle x)))
    ∧ (s.entry.vehicle.isSome = true ∨ s.entry.blocked = true → s.entry.scale.phase = .empty →
      s.entry.axleOn ≤ x.axleWeight →
      ∃ t, exec .entryWindowEnd s = .next t ∧ t.sig.entryInbox = rest ∧ t.vt = s.vt
        ∧ t.entry.scale.phase = .weighing ∧ t.entry.scale.onTime = d.stamp ∧ t.entry.scale.count = 1
        ∧ t.entry.scale.settle = some (later d.stamp 10000) ∧ t.entry.scale.late = s.entry.firstWindow
        ∧ t.entry.firstWindow = false ∧ (s.entry.vehicle.isSome = true → t.entry.quiet = none))
    ∧ (s.entry.vehicle.isSome = true ∨ s.entry.blocked = true → s.entry.scale.phase = .empty →
      x.axleWeight < s.entry.axleOn →
      ∃ t, exec .entryWindowEnd s = .next t ∧ t.sig.entryInbox = rest ∧ t.vt = s.vt ∧ t.entry.scale = s.entry.scale)
    -- the crossing (R50)
    ∧ ((s.entry.vehicle.isSome = true ↔ s.entry.blocked = false) →
      ∃ t, exec .entryWindowEnd s = .next t ∧ t.entry.firstWindow = false
        ∧ (s.entry.plate.crossing = false → t.entry.plate = s.entry.plate)
        ∧ (s.entry.plate.crossing = true → x.plate = none →
            t.entry.plate = { s.entry.plate with faultMark := true })
        ∧ (∀ v, s.entry.plate.crossing = true → x.plate = some v → t.entry.plate = { s.entry.plate with
            count := s.entry.plate.count + 1
            peak := if ∃ p, s.entry.plate.peak = some p ∧ v.natAbs ≤ p.natAbs then s.entry.plate.peak else some v }))
    -- the ENTRY trace (R58)
    ∧ (∀ (v id : Nat) (e : Descriptor), s.entry.vehicle = some v → s.entry.blocked = false →
      s.entry.openTrace = some id → s.traces.find id = some e → e.closed = false → e.truncated = false →
      ∃ t e', exec .entryWindowEnd s = .next t ∧ t.traces.find id = some e'
        ∧ (e.samples.length % e.kind.perBlock ≠ 0 ∨ 0 < Runs.count (s.traces.free e.kind) → e'.samples = e.samples
            ++ [.entry x.weightL x.weightR (x.plate.map fun v => max (-32767) (min 32767 v))])
        ∧ (∀ b r, e.samples.length % e.kind.perBlock = 0 → Runs.pop (s.traces.free e.kind) = some (b, r) →
            e'.blocks = Runs.snoc e.blocks (b, 1) ∧ t.traces.free e.kind = r)
        ∧ (e.samples.length % e.kind.perBlock = 0 → Runs.count (s.traces.free e.kind) = 0 →
            e'.samples = e.samples ∧ e'.truncated = true))
    -- a sample joins the axle (R52)
    ∧ (c.phase = s.entry.scale.phase ∧ c.onTime = s.entry.scale.onTime ∧ c.late = s.entry.scale.late
        ∧ c.settle = s.entry.scale.settle
        ∧ c.last20 = (if 20 ≤ s.entry.scale.last20.length then s.entry.scale.last20.drop 1 else s.entry.scale.last20)
            ++ [{ axle := x.axleWeight, left := x.weightL, right := x.weightR }]
        ∧ c.usableL = (s.entry.scale.usableL && x.weightL.isSome)
        ∧ c.usableR = (s.entry.scale.usableR && x.weightR.isSome)
        ∧ c.overrange = (s.entry.scale.overrange || x.clampL || x.clampR)
        ∧ (2 * x.axleWeight < s.entry.axleOn → c.low = s.entry.scale.low + 1
            ∧ c.sumL = s.entry.scale.sumL ∧ c.cntL = s.entry.scale.cntL
            ∧ c.sumR = s.entry.scale.sumR ∧ c.cntR = s.entry.scale.cntR
            ∧ c.lowSumL = s.entry.scale.lowSumL + x.weightL.getD 0
            ∧ c.lowSumR = s.entry.scale.lowSumR + x.weightR.getD 0
            ∧ c.lowCntL = s.entry.scale.lowCntL + x.weightL.isSome.toNat
            ∧ c.lowCntR = s.entry.scale.lowCntR + x.weightR.isSome.toNat)
        ∧ (s.entry.axleOn ≤ 2 * x.axleWeight → c.low = 0 ∧ c.lowSumL = 0 ∧ c.lowSumR = 0 ∧ c.lowCntL = 0
            ∧ c.lowCntR = 0
            ∧ c.sumL = s.entry.scale.sumL + s.entry.scale.lowSumL + x.weightL.getD 0
            ∧ c.sumR = s.entry.scale.sumR + s.entry.scale.lowSumR + x.weightR.getD 0
            ∧ c.cntL = s.entry.scale.cntL + s.entry.scale.lowCntL + x.weightL.isSome.toNat
            ∧ c.cntR = s.entry.scale.cntR + s.entry.scale.lowCntR + x.weightR.isSome.toNat))
    ∧ ((s.entry.vehicle.isSome = true ↔ s.entry.blocked = false) → s.entry.scale.phase ≠ .empty → c.low ≠ 5 →
      (s.entry.scale.phase = .taken ∨ c.last20.length ≠ 20
        ∨ ∃ p ∈ c.last20, ∃ q ∈ c.last20, q.axle + s.entry.settleBand < p.axle) →
      ∃ t, exec .entryWindowEnd s = .next t ∧ t.entry.scale = c ∧ t.entry.crossings = s.entry.crossings
        ∧ t.entry.quiet = s.entry.quiet ∧ t.vt = s.vt)
    -- an axle whose weight is taken leaves (R54)
    ∧ (∀ v, s.entry.vehicle = some v → s.entry.blocked = false → s.entry.scale.phase = .taken → c.low = 5 →
      ∃ t, exec .entryWindowEnd s = .next t ∧ t.entry.scale = ScaleTracker.empty ∧ t.vt = s.vt
        ∧ t.entry.quiet = (if s.entry.cleared = true ∧ s.entry.plate.crossing = false then
            some (later s.time.now 3000) else s.entry.quiet))
    -- the weight of a WEIGHING axle is taken while bound (R53, R54, R55)
    ∧ (∀ v, s.entry.vehicle = some v → s.entry.blocked = false → s.entry.scale.phase = .weighing →
      v < s.vt.records.length →
      c.low = 5 ∨ (c.last20.length = 20 ∧ ∀ p ∈ c.last20, ∀ q ∈ c.last20, p.axle ≤ q.axle + s.entry.settleBand) →
      ∃ t, exec .entryWindowEnd s = .next t
        ∧ t.entry.scale.phase = (if c.low = 5 then .empty else .taken) ∧ t.entry.scale.settle = none
        ∧ t.entry.crossings = (if s.entry.scale.late = true then s.entry.crossings else s.entry.crossings.drop 1)
        ∧ (12 ≤ (s.record v).axles.length →
            (t.record v).axles = (s.record v).axles ∧ (t.record v).axlesExceeded = true)
        ∧ ((s.record v).axles.length < 12 → ∃ a, (t.record v).axles = (s.record v).axles ++ [a]
          ∧ a.overrange = c.overrange
          ∧ a.sideSlip = (if s.entry.scale.late = true then none else s.entry.crossings.head?.join)
          ∧ (c.usableL = false → a.weightL = none) ∧ (c.usableR = false → a.weightR = none)
          ∧ (c.low = 5 → a.unsettled = true
              ∧ (c.usableL = true → c.cntL ≠ 0 → a.weightL = some (roundDiv c.sumL c.cntL))
              ∧ (c.usableR = true → c.cntR ≠ 0 → a.weightR = some (roundDiv c.sumR c.cntR)))
          ∧ (c.low ≠ 5 → a.unsettled = false
              ∧ (∀ ws : List Nat, c.usableL = true → c.last20.map WeightSample.left = ws.map some →
                  a.weightL = some (roundDiv ws.sum 20))
              ∧ (∀ ws : List Nat, c.usableR = true → c.last20.map WeightSample.right = ws.map some →
                  a.weightR = some (roundDiv ws.sum 20)))))
    -- the same while BLOCKED (R49)
    ∧ (s.entry.vehicle = none → s.entry.blocked = true → s.entry.scale.phase = .weighing →
      c.low = 5 ∨ (c.last20.length = 20 ∧ ∀ p ∈ c.last20, ∀ q ∈ c.last20, p.axle ≤ q.axle + s.entry.settleBand) →
      ∃ t, exec .entryWindowEnd s = .next t ∧ t.vt = s.vt ∧ t.traces = s.traces
        ∧ t.entry.scale.phase = (if c.low = 5 then .empty else .taken) ∧ t.entry.scale.settle = none
        ∧ t.entry.crossings = (if s.entry.scale.late = true then s.entry.crossings else s.entry.crossings.drop 1)
        ∧ t.entry.passed = min 255 (s.entry.passed + 1))

/-- R53, R55, R49, R58: at the settle expiry the weight is taken UNSETTLED: appended to the bound record with the side_slip of
the oldest crossing and told by AXLE_MEASURED, refused with AXLES_EXCEEDED and the trace's excess count at 12 axles, or counted
as a passed axle while BLOCKED.
An expiry acts when it is due (log entry 8). -/
def Obligations.SettleExpiryTakesTheWeightUnsettled : Prop :=
  ∀ s : State, Calm s → s.entry.scale.phase = .weighing → s.due s.entry.scale.settle = true →
    (∀ v, s.entry.vehicle = some v → s.entry.blocked = false → v < s.vt.records.length →
      (s.record v).axles.length < 12 →
      ∃ t a, exec .settleExpiry s = .next t ∧ t.entry.scale.phase = .taken ∧ t.entry.scale.settle = none
        ∧ (t.record v).axles = (s.record v).axles ++ [a] ∧ a.unsettled = true
        ∧ a.overrange = s.entry.scale.overrange ∧ a.service = none ∧ a.parkingResult = none
        ∧ a.weightL = expiryMean s.entry.scale.usableL s.entry.scale.sumL s.entry.scale.cntL
        ∧ a.weightR = expiryMean s.entry.scale.usableR s.entry.scale.sumR s.entry.scale.cntR
        ∧ a.parking = (s.record v).parkingSet.contains ((s.record v).axles.length + 1)
        ∧ a.sideSlip = (if s.entry.scale.late = true then none else s.entry.crossings.head?.join)
        ∧ t.entry.crossings = (if s.entry.scale.late = true then s.entry.crossings else s.entry.crossings.drop 1)
        ∧ (s.port.notices.length < 32 → ∃ k, (k, .axleMeasured v (displayedId (s.record v))
            ((s.record v).axles.length + 1) a.weightL a.weightR true a.overrange false a.sideSlip s.time.now)
              ∈ t.port.notices))
    ∧ (∀ v, s.entry.vehicle = some v → s.entry.blocked = false → v < s.vt.records.length →
      12 ≤ (s.record v).axles.length →
      ∃ t, exec .settleExpiry s = .next t ∧ t.entry.scale.phase = .taken ∧ t.entry.scale.settle = none
        ∧ (t.record v).axles = (s.record v).axles ∧ (t.record v).axlesExceeded = true ∧ t.port.notices = s.port.notices
        ∧ t.entry.crossings = (if s.entry.scale.late = true then s.entry.crossings else s.entry.crossings.drop 1)
        ∧ (∀ id e, s.entry.openTrace = some id → s.traces.find id = some e → e.closed = false →
            t.traces.find id = some { e with excess := min 255 (e.excess + 1) }))
    ∧ (s.entry.vehicle = none →
      ∃ t, exec .settleExpiry s = .next t ∧ t.entry.scale.phase = .taken ∧ t.entry.scale.settle = none
        ∧ t.entry.crossings = (if s.entry.scale.late = true then s.entry.crossings else s.entry.crossings.drop 1)
        ∧ t.entry.passed = min 255 (s.entry.passed + 1) ∧ t.vt = s.vt)

/-- R57, R148: the quiet expiry sets entry_done, closes the trace, which keeps a print hold and joins the drain queue if the
host holds it, and returns the station to IDLE.
An expiry acts when it is due (log entry 8). That the passed-axle count and the barrier-cleared flag are cleared with the
trackers, the crossing queue and the vehicle, which alone R57 names, is the model's choice (log entry 50). -/
def Obligations.QuietExpiryEndsTheEntryPhase : Prop :=
  ∀ (s : State) (v : Nat), Calm s → s.entry.vehicle = some v →
    (s.due s.entry.quiet = true → v < s.vt.records.length →
      ∃ t, exec .quietExpiry s = .next t ∧ (t.record v).entryDone = true
        ∧ t.entry = { EntryStation.reset with axleOn := s.entry.axleOn, settleBand := s.entry.settleBand }
        ∧ (∀ id d, s.entry.openTrace = some id → s.traces.find id = some d → (s.record d.slot).state ≠ .free →
            (s.traces.directory.map Descriptor.id).Nodup →
            t.traces.find id = some { d with closed := true, closeTime := some s.time.now, printHold := true }
              ∧ (d.hostHold = true → id ∈ t.traces.drain)))
    ∧ (s.due s.entry.quiet = false → exec .quietExpiry s = .next s)

/-! ## Edges of the exit barrier, the wheels, the drives and ESTOP -/

/-- R20, R23: the exit barrier sets and clears the indication; a head whose three conditions then hold leaves as
COMPLETE.
How the event reaches its owner is the model's (log entry 6). -/
def Obligations.ExitBarrierLetsATestedHeadLeave : Prop :=
  ∀ (s u : State) (t0 : LaneTime), Calm s →
    (takeEdge .exitBarrier true s = some (t0, u) →
      exec .exitBarrierBroken s = .next { u with vt := { s.vt with exitClear := false } })
    ∧ (takeEdge .exitBarrier false s = some (t0, u) → s.vt.queue = [] → exec .exitBarrierClear s = .next u)
    ∧ (∀ h rest, takeEdge .exitBarrier false s = some (t0, u) → s.vt.queue = h :: rest →
      ((s.record h).entryDone = false ∨ testDone (s.record h) = false) →
      exec .exitBarrierClear s = .next { u with vt := { s.vt with exitClear := true } })
    ∧ (∀ h rest, takeEdge .exitBarrier false s = some (t0, u) → s.vt.queue = h :: rest → s.entry.blocked = false →
      (s.record h).entryDone = true → testDone (s.record h) = true →
      ∃ t, exec .exitBarrierClear s = .next t ∧ t.vt.queue = rest ∧ t.vt.exitClear = false
        ∧ (t.record h).state = .complete ∧ (t.record h).lastActivity = s.time.now
        ∧ (t.record h).axles = (s.record h).axles ++ missingAxles (s.record h)
        ∧ (t.record h).totals = some (totalsOf (classEntry s (s.record h).cls) (t.record h).axles)
        ∧ (∀ k, k ≠ h → t.record k = s.record k))

/-- R66, R77, R79: the wheels' edges set and cancel the presence and clear expiries, and a lost wheel aborts an
attempt: the RUN outputs are OFF, attempts has risen, no result is written.
How the event reaches its owner is the model's (log entry 6). -/
def Obligations.WheelEdgesTimeAndAbort : Prop :=
  ∀ (side : Side) (s u : State) (t0 : LaneTime), Calm s →
    (takeEdge (wheelFn side) true s = some (t0, u) → s.brake.state = .waitWheels → s.brake.presence = none →
      inputActive (wheelFn (Side.other side)) u = true →
      exec (.wheelActive side) s = .next { u with brake := { s.brake with presence := some (later t0 2000) } })
    ∧ (takeEdge (wheelFn side) true s = some (t0, u) → s.brake.state = .waitClear →
      exec (.wheelActive side) s = .next { u with brake := { s.brake with clear := none } })
    ∧ (takeEdge (wheelFn side) false s = some (t0, u) → s.brake.state = .waitWheels →
      exec (.wheelInactive side) s = .next { u with brake := { s.brake with presence := none } })
    ∧ (takeEdge (wheelFn side) false s = some (t0, u) → s.brake.state = .waitClear →
      inputActive (wheelFn (Side.other side)) u = false →
      exec (.wheelInactive side) s = .next { u with brake := { s.brake with clear := some (later t0 1000) } })
    ∧ (∀ v n a, takeEdge (wheelFn side) false s = some (t0, u) → s.brake.state.attempt = true →
      s.brake.vehicle = some v → s.brake.axle = some n → (s.record v).axle n = some a →
      ∃ t, exec (.wheelInactive side) s = .next t ∧ t.brake.state = .waitClear
        ∧ t.sig.outputs.runL = false ∧ t.sig.outputs.runR = false ∧ t.brake.openTrace = none
        ∧ t.brake.axle = some n
        ∧ (t.record v).axle n = some { a with attempts := min 15 (a.attempts + 1) })

/-- R70, R80, R81: the RUN outputs go ON with the second drive-ready edge in SPIN_UP; a drive lost while they are ON
and ESTOP send the station to FAULT with both outputs OFF; ESTOP going inactive leaves it there.
How the event reaches its owner is the model's (log entry 6). -/
def Obligations.DriveReadyAndEstopSwitchTheRollers : Prop :=
  ∀ (side : Side) (s u : State) (t0 : LaneTime), Calm s →
    (takeEdge (readyFn side) true s = some (t0, u) → s.brake.state = .spinUp → s.sig.outputs.runL = false →
      drivesReady u = true → exec (.driveReadyActive side) s = .next { u with sig := { u.sig with
        outputs := { u.sig.outputs with runL := true, runR := true } } })
    ∧ (takeEdge (readyFn side) false s = some (t0, u) → s.sig.outputs.runL = true → s.brake.state ≠ .fault →
      ∃ t, exec (.driveReadyInactive side) s = .next t ∧ t.brake.state = .fault
        ∧ t.brake.cause = some .driveNotReady ∧ t.sig.outputs.runL = false ∧ t.sig.outputs.runR = false)
    ∧ (takeEdge (readyFn side) false s = some (t0, u) → s.sig.outputs.runL = false →
      exec (.driveReadyInactive side) s = .next u)
    ∧ (takeEdge .estop true s = some (t0, u) → s.brake.state ≠ .fault →
      ∃ t, exec .estopActive s = .next t ∧ t.brake.state = .fault ∧ t.brake.cause = some .estop
        ∧ t.sig.outputs.runL = false ∧ t.sig.outputs.runR = false ∧ t.brake.spinUp = none ∧ t.brake.stop = none
        ∧ t.brake.braking = none ∧ t.brake.presence = none ∧ t.brake.clear = none)
    ∧ (takeEdge .estop true s = some (t0, u) → s.brake.state = .fault → exec .estopActive s = .next u)
    ∧ (takeEdge .estop false s = some (t0, u) → exec .estopInactive s = .next u)

/-! ## The brake station -/

/-- R64, R69, R71, R72, R73, R74, R75, R80, R82, R91, R93, R118: a window end joins the count history and makes the last
sample, whose forces with their clamp notes, slips, speeds and pedal come from the delivery, the history with it, the phase
zero, the lane constants and the ring; a sample of a phase joins the open trace, taking a free block where the last one is
full, or marking the trace TRUNCATED where none is free. A faulted brake sum in an attempt faults the station. ZEROING takes 16
sums and their mean as phase zero, or Zcal; SPIN_UP counts 5 samples in band; DRAG sums 200 samples; BRAKING moves both slip
runs, folds the samples that stand no later than the start of every run and holds the others, and ends at the third sample in a
row at SLIP_LIMIT on a side or at the 100th release sample; STOPPING ends at the 50th still window with the axle's result.
R87, R193: with a divider set, each window end outside IDLE counts, and the one that completes the divider clears the count and
places the sample as the live frame, in place of any frame that waits there.
That a stored sample keeps both clamp notes beside the five fields of R143 is the model's choice (log entry 46), and so are the
state and the phase a live frame carries (log entries 25, 45); how the event reaches its owner is the model's (log entry 6). -/
def Obligations.BrakeWindowEndSamplesAndStopsTheSlip : Prop :=
  ∀ (s : State) (d : Delivery) (rest : List Delivery), Calm s → s.sig.brakeInbox = d :: rest →
    ∃ t x, exec .brakeWindowEnd s = .next t ∧ t.sig.brakeInbox = rest
      ∧ t.brake.history = d.totals :: s.brake.history.take 9
      ∧ t.brake.lastSample = some x ∧ x.time = d.stamp
      ∧ x = brakeSample d { s with brake := { s.brake with history := d.totals :: s.brake.history.take 9 } }
      ∧ (∀ (r : Reading) (z g : Nat), d.brakeL = some r → r.faulted = false → calibration s r.channel = some (z, g) →
          x.forceL = some (wheelForce r.sum (if s.brake.state.onPhaseZero then s.brake.zeroL else z) g)
            ∧ x.clampL = forceClamped r.sum (if s.brake.state.onPhaseZero then s.brake.zeroL else z) g)
      ∧ (∀ (r : Reading) (z g : Nat), d.brakeR = some r → r.faulted = false → calibration s r.channel = some (z, g) →
          x.forceR = some (wheelForce r.sum (if s.brake.state.onPhaseZero then s.brake.zeroR else z) g)
            ∧ x.clampR = forceClamped r.sum (if s.brake.state.onPhaseZero then s.brake.zeroR else z) g)
      ∧ x.pedal = pedalAt s.pedal.ring d.stamp
      ∧ (s.port.brakeDivider = 0 ∨ s.brake.state = .idle → t.port.live = s.port.live
          ∧ t.port.brakeLiveCount = s.port.brakeLiveCount)
      ∧ (s.brake.state ≠ .idle → s.port.brakeLiveCount + 1 < s.port.brakeDivider → t.port.live = s.port.live
          ∧ t.port.brakeLiveCount = s.port.brakeLiveCount + 1)
      ∧ (s.brake.state ≠ .idle → 0 < s.port.brakeDivider → s.port.brakeDivider ≤ s.port.brakeLiveCount + 1 →
          t.port.brakeLiveCount = 0 ∧ t.port.live = some (.brake s.brake.state s.brake.vehicle s.brake.axle
            (if s.brake.axle = none then none else some s.brake.phase) x))
      ∧ (∀ (id : Nat) (e : Descriptor), (s.brake.state = .stopping ∧ s.brake.stopCount < 49)
            ∨ (d.brakeFaulted = false ∧ (s.brake.state = .spinUp ∨ s.brake.state = .drag ∨ s.brake.state = .braking)) →
          s.brake.openTrace = some id → s.traces.find id = some e → e.closed = false → e.truncated = false →
          e.samples.length % e.kind.perBlock ≠ 0 → ∃ e', t.traces.find id = some e' ∧ e'.samples = e.samples
            ++ [.brake x.forceL x.forceR x.slipL x.slipR x.pedal x.clampL x.clampR])
      ∧ (∀ (id : Nat) (e : Descriptor), (s.brake.state = .stopping ∧ s.brake.stopCount < 49)
            ∨ (d.brakeFaulted = false ∧ (s.brake.state = .spinUp ∨ s.brake.state = .drag ∨ s.brake.state = .braking)) →
          s.brake.openTrace = some id → s.traces.find id = some e → e.closed = false → e.truncated = false →
          e.samples.length % e.kind.perBlock = 0 →
          (∀ b r, Runs.pop (s.traces.free e.kind) = some (b, r) → t.traces.free e.kind = r
            ∧ ∃ e', t.traces.find id = some e' ∧ e'.blocks = Runs.snoc e.blocks (b, 1) ∧ e'.samples = e.samples
              ++ [.brake x.forceL x.forceR x.slipL x.slipR x.pedal x.clampL x.clampR])
          ∧ (Runs.count (s.traces.free e.kind) = 0 → t.traces.find id = some { e with truncated := true }))
      ∧ (s.brake.state.attempt = true → s.brake.state ≠ .stopping → d.brakeFaulted = true →
          t.brake.state = .fault ∧ t.brake.cause = some .sensorFault ∧ t.sig.outputs.runL = false
            ∧ t.sig.outputs.runR = false)
      ∧ (∀ l r : Reading, s.brake.state = .zeroing → d.brakeL = some l → d.brakeR = some r → d.brakeFaulted = false →
          (s.brake.zeroCount < 15 → t.brake.state = .zeroing ∧ t.brake.zeroCount = s.brake.zeroCount + 1
            ∧ t.brake.zeroSumL = s.brake.zeroSumL + l.sum ∧ t.brake.zeroSumR = s.brake.zeroSumR + r.sum)
          ∧ (∀ zl gl zr gr ml mr : Nat, s.brake.zeroCount = 15 → calibration s l.channel = some (zl, gl) →
            calibration s r.channel = some (zr, gr) → ml = roundDiv (s.brake.zeroSumL + l.sum) 16 →
            mr = roundDiv (s.brake.zeroSumR + r.sum) 16 →
            t.brake.state = .spinUp ∧ t.brake.spinUp = some (later s.time.now 5000) ∧ t.brake.speedCount = 0
              ∧ t.brake.phase = s.brake.phase
              ∧ t.brake.subL = decide (400 < ((ml : Int) - (zl : Int)).natAbs)
              ∧ t.brake.subR = decide (400 < ((mr : Int) - (zr : Int)).natAbs)
              ∧ t.brake.zeroL = (if t.brake.subL then zl else ml) ∧ t.brake.zeroR = (if t.brake.subR then zr else mr)
              ∧ (drivesReady s = true → t.sig.outputs.runL = true ∧ t.sig.outputs.runR = true)))
      ∧ (s.brake.state = .spinUp → d.brakeFaulted = false →
          (∀ a b : Nat, x.speedL = some a → x.speedR = some b →
            ((a : Int) - (s.cal.constants.testSpeed : Int)).natAbs * 10 ≤ s.cal.constants.testSpeed →
            ((b : Int) - (s.cal.constants.testSpeed : Int)).natAbs * 10 ≤ s.cal.constants.testSpeed →
            (s.brake.speedCount < 4 → t.brake.state = .spinUp ∧ t.brake.speedCount = s.brake.speedCount + 1)
            ∧ (4 ≤ s.brake.speedCount → t.brake.state = .drag ∧ t.brake.spinUp = none ∧ t.brake.dragCount = 0
                ∧ t.brake.run.dragSumL = 0 ∧ t.brake.run.dragSumR = 0))
          ∧ (x.speedL = none ∨ x.speedR = none
              ∨ (∃ a : Nat, (x.speedL = some a ∨ x.speedR = some a) ∧ s.cal.constants.testSpeed
                  < ((a : Int) - (s.cal.constants.testSpeed : Int)).natAbs * 10) →
            t.brake.state = .spinUp ∧ t.brake.speedCount = 0))
      ∧ (s.brake.state = .drag → d.brakeFaulted = false →
          t.brake.run.dragSumL = s.brake.run.dragSumL + x.forceL.getD 0
          ∧ t.brake.run.dragSumR = s.brake.run.dragSumR + x.forceR.getD 0
          ∧ t.brake.run.overrange = (s.brake.run.overrange || x.clampL || x.clampR)
          ∧ (s.brake.dragCount < 199 → t.brake.state = .drag ∧ t.brake.dragCount = s.brake.dragCount + 1)
          ∧ (s.brake.dragCount = 199 → t.brake.state = .braking ∧ t.brake.braking = some (later s.time.now 20000)
              ∧ t.brake.run.dragL = roundDiv t.brake.run.dragSumL 200
              ∧ t.brake.run.dragR = roundDiv t.brake.run.dragSumR 200
              ∧ t.brake.run.maxL = 0 ∧ t.brake.run.maxR = 0 ∧ t.brake.run.maxLR = 0 ∧ t.brake.held = []
              ∧ t.brake.slipRunL = 0 ∧ t.brake.slipRunR = 0 ∧ t.brake.releaseCount = 0))
      ∧ (s.brake.state = .braking → d.brakeFaulted = false → s.brake.slipRunL = 2 → s.brake.slipLimit ≤ x.slipL →
          (x.slipR < s.brake.slipLimit ∨ s.brake.slipRunR < 2) →
          t.brake.state = .stopping ∧ t.brake.run.endCause = some .slipStopL ∧ t.sig.outputs.runL = false
            ∧ t.sig.outputs.runR = false ∧ t.brake.held = [] ∧ t.brake.stop = some (later s.time.now 5000)
            ∧ t.brake.run.maxL = s.brake.run.maxL ∧ t.brake.run.maxR = s.brake.run.maxR)
      ∧ (s.brake.state = .braking → d.brakeFaulted = false → s.brake.slipRunR = 2 → s.brake.slipLimit ≤ x.slipR →
          (x.slipL < s.brake.slipLimit ∨ s.brake.slipRunL < 2) →
          t.brake.state = .stopping ∧ t.brake.run.endCause = some .slipStopR ∧ t.sig.outputs.runL = false
            ∧ t.sig.outputs.runR = false ∧ t.brake.held = [] ∧ t.brake.stop = some (later s.time.now 5000)
            ∧ t.brake.run.maxL = s.brake.run.maxL ∧ t.brake.run.maxR = s.brake.run.maxR)
      ∧ (s.brake.state = .braking → d.brakeFaulted = false → s.brake.slipRunL = 2 → s.brake.slipRunR = 2 →
          s.brake.slipLimit ≤ x.slipL → s.brake.slipLimit ≤ x.slipR → t.brake.state = .stopping
            ∧ t.brake.run.endCause = some (if (s.brake.slipStartR - s.brake.slipStartL).toInt < 0 then .slipStopR
                else .slipStopL)
            ∧ t.sig.outputs.runL = false ∧ t.sig.outputs.runR = false ∧ t.brake.held = [])
      ∧ (∀ (l r : Nat) (sl sr : LaneTime) (free : BrakeSample → Bool), s.brake.state = .braking → d.brakeFaulted = false →
          l = (if s.brake.slipLimit ≤ x.slipL then s.brake.slipRunL + 1 else 0) →
          r = (if s.brake.slipLimit ≤ x.slipR then s.brake.slipRunR + 1 else 0) → l < 3 → r < 3 →
          sl = (if l = 1 then x.time else s.brake.slipStartL) → sr = (if r = 1 then x.time else s.brake.slipStartR) →
          (∀ y, free y = true ↔ (l = 0 ∨ 0 ≤ (sl - y.time).toInt) ∧ (r = 0 ∨ 0 ≤ (sr - y.time).toInt)) →
          t.brake.slipRunL = l ∧ t.brake.slipRunR = r ∧ t.brake.slipStartL = sl ∧ t.brake.slipStartR = sr
          ∧ t.brake.run = { ((s.brake.held ++ [x]).filter free).foldl (Running.fold s.brake.imbFloor) s.brake.run with
              endCause := t.brake.run.endCause }
          ∧ (t.brake.state = .braking → t.brake.held = (s.brake.held ++ [x]).filter (fun y => !free y)))
      ∧ (∀ run : Running, s.brake.state = .braking → d.brakeFaulted = false → x.slipL < s.brake.slipLimit →
          x.slipR < s.brake.slipLimit → run = (s.brake.held ++ [x]).foldl (Running.fold s.brake.imbFloor) s.brake.run →
          t.brake.run = { run with endCause := t.brake.run.endCause } ∧ t.brake.held = []
          ∧ t.brake.slipRunL = 0 ∧ t.brake.slipRunR = 0
          ∧ (s.brake.held = [] → run.maxL = max s.brake.run.maxL (x.forceL.getD 0)
              ∧ run.maxR = max s.brake.run.maxR (x.forceR.getD 0) ∧ run.maxLR = max s.brake.run.maxLR x.both
              ∧ run.overrange = (s.brake.run.overrange || x.clampL || x.clampR)
              ∧ run.pedalAtMax = (if s.brake.run.maxLR < x.both then x.pedal else s.brake.run.pedalAtMax)
              ∧ run.pedalPartial = (s.brake.run.pedalPartial || x.pedal.isNone))
          ∧ (run.maxLR < 200 ∨ run.maxLR ≤ 2 * x.both → t.brake.state = .braking ∧ t.brake.releaseCount = 0)
          ∧ (200 ≤ run.maxLR → 2 * x.both < run.maxLR → s.brake.releaseCount < 99 →
              t.brake.state = .braking ∧ t.brake.releaseCount = s.brake.releaseCount + 1)
          ∧ (200 ≤ run.maxLR → 2 * x.both < run.maxLR → s.brake.releaseCount = 99 →
              t.brake.state = .stopping ∧ t.brake.run.endCause = some .release ∧ t.sig.outputs.runL = false
                ∧ t.sig.outputs.runR = false ∧ t.brake.braking = none ∧ t.brake.stopCount = 0
                ∧ t.brake.stop = some (later s.time.now 5000)))
      ∧ (s.brake.state = .stopping →
          (d.totals.driveL ≠ 0 ∨ d.totals.driveR ≠ 0 → t.brake.state = .stopping ∧ t.brake.stopCount = 0
            ∧ t.brake.run = s.brake.run)
          ∧ (d.totals.driveL = 0 → d.totals.driveR = 0 → s.brake.stopCount < 49 → t.brake.state = .stopping
            ∧ t.brake.stopCount = s.brake.stopCount + 1 ∧ t.brake.run = s.brake.run)
          ∧ (∀ v n a, d.totals.driveL = 0 → d.totals.driveR = 0 → s.brake.stopCount = 49 → s.entry.blocked = false →
            s.brake.vehicle = some v → s.brake.axle = some n → (s.record v).axle n = some a →
            ∃ r b, (t.record v).axle n = some b ∧ b = a.withResult s.brake.phase r
              ∧ r.maxL = s.brake.run.maxL ∧ r.maxR = s.brake.run.maxR ∧ r.dragL = s.brake.run.dragL
              ∧ r.dragR = s.brake.run.dragR ∧ r.overrange = s.brake.run.overrange ∧ r.completed = s.time.now
              ∧ r.traceId = s.brake.openTrace ∧ t.brake.stop = none
              ∧ t.brake.state = (if s.brake.phase = .service ∧ a.parking = true ∧ a.skip = none then .spinUp
                  else .waitClear)))

/-- R66, R67, R68, R3: at the presence expiry the lowest axle neither finished nor skipped is matched; the checks before
ZEROING choose between ZEROING and FAULT; without an axle the station waits for its record without a current axle, or, once
entry_done is set, appends one as ADDED_AT_ROLLERS and tests it, or with 12 entries enters WAIT_CLEAR without a current axle.
An expiry acts when it is due (log entry 8). -/
def Obligations.PresenceExpiryMatchesAnAxle : Prop :=
  ∀ (s : State) (v : Nat), Calm s → s.brake.state = .waitWheels → s.brake.vehicle = some v →
    s.due s.brake.presence = true →
    (∀ n, nextAxle (s.record v) = some n → zeroingRefusal s = none →
      ∃ t, exec .presenceExpiry s = .next t ∧ t.brake.state = .zeroing ∧ t.brake.axle = some n
        ∧ t.brake.phase = (s.axleOf v n).duePhase ∧ t.brake.presence = none ∧ t.brake.zeroCount = 0
        ∧ t.vt = s.vt)
    ∧ (∀ n c, nextAxle (s.record v) = some n → zeroingRefusal s = some c →
      ∃ t, exec .presenceExpiry s = .next t ∧ t.brake.state = .fault ∧ t.brake.cause = some c
        ∧ t.brake.axle = some n ∧ t.vt = s.vt)
    ∧ (nextAxle (s.record v) = none → (s.record v).entryDone = false →
      ∃ t, exec .presenceExpiry s = .next t ∧ t.brake.state = .waitAxleRecord ∧ t.brake.axle = none ∧ t.vt = s.vt)
    ∧ (nextAxle (s.record v) = none → (s.record v).entryDone = true → (s.record v).axles.length < 12 →
      s.vt.queue.head? = some v → v < s.vt.records.length → zeroingRefusal s = none →
      ∃ t, exec .presenceExpiry s = .next t ∧ t.brake.state = .zeroing
        ∧ t.brake.axle = some ((s.record v).axles.length + 1) ∧ t.brake.phase = .service
        ∧ t.record v = { s.record v with
            lastActivity := s.time.now
            axles := (s.record v).axles ++ [{ (s.record v).nextEntry with addedAtRollers := true }] }
        ∧ (∀ k, k ≠ v → t.record k = s.record k) ∧ t.vt.queue = s.vt.queue)
    ∧ (nextAxle (s.record v) = none → (s.record v).entryDone = true → 12 ≤ (s.record v).axles.length →
      ∃ t, exec .presenceExpiry s = .next t ∧ t.brake.state = .waitClear ∧ t.brake.axle = none ∧ t.vt = s.vt)

/-- R71, R74, R75, R76, R77: the brake station's other expiries, when they are due in their state.
An expiry acts when it is due (log entry 8). -/
def Obligations.BrakeExpiriesEndTheirStates : Prop :=
  ∀ s : State, Calm s →
    (s.brake.state = .spinUp → s.due s.brake.spinUp = true →
      ∃ t, exec .spinUpExpiry s = .next t ∧ t.brake.state = .fault ∧ t.brake.cause = some .spinUpTimeout
        ∧ t.sig.outputs.runL = false ∧ t.sig.outputs.runR = false ∧ t.brake.spinUp = none)
    ∧ (s.brake.state = .braking → s.due s.brake.braking = true →
      ∃ t, exec .brakingExpiry s = .next t ∧ t.brake.state = .stopping ∧ t.brake.run.endCause = some .timeout
        ∧ t.sig.outputs.runL = false ∧ t.sig.outputs.runR = false ∧ t.brake.braking = none ∧ t.brake.held = []
        ∧ t.brake.stopCount = 0 ∧ t.brake.stop = some (later s.time.now 5000) ∧ t.vt = s.vt)
    ∧ (∀ v n a, s.brake.state = .stopping → s.due s.brake.stop = true → s.entry.blocked = false →
      s.brake.vehicle = some v → s.brake.axle = some n → (s.record v).axle n = some a →
      ∃ t r b, exec .stopExpiry s = .next t ∧ t.brake.state = .fault ∧ t.brake.cause = some .rollerStopTimeout
        ∧ (t.record v).axle n = some b ∧ b = a.withResult s.brake.phase r
        ∧ r.maxL = s.brake.run.maxL ∧ r.maxR = s.brake.run.maxR ∧ r.dragL = s.brake.run.dragL
        ∧ r.dragR = s.brake.run.dragR ∧ r.completed = s.time.now ∧ r.traceId = s.brake.openTrace)
    ∧ (s.brake.state = .waitClear → s.due s.brake.clear = true → s.vt.queue = [] →
      ∃ t, exec .clearExpiry s = .next t ∧ t.brake.state = .idle ∧ t.brake.vehicle = none ∧ t.brake.axle = none
        ∧ t.brake.clear = none ∧ t.vt = s.vt)
    ∧ (∀ h rest, s.brake.state = .waitClear → s.due s.brake.clear = true → s.vt.queue = h :: rest →
      ∃ t, exec .clearExpiry s = .next t ∧ t.brake.state = .waitWheels ∧ t.brake.vehicle = some h
        ∧ t.brake.axle = none ∧ t.brake.clear = none ∧ t.vt = s.vt)

/-- R83, R84, R21, R134: the station requests of Guidance, each taken when it is the one at the front; that each of the
four commands changes nothing when another request is at the front, or none waits, is the model's choice (log entry 6). -/
def Obligations.GuidanceRequestsAreCarriedOut : Prop :=
  ∀ (s : State) (rest : List StationRequest), Calm s →
    (∀ v n a, s.guide.requests = .markParking :: rest → s.brake.state.attempt = true ∨ s.brake.state = .fault →
      s.brake.vehicle = some v → s.brake.axle = some n → (s.record v).axle n = some a →
      ∃ t, exec .markParking s = .next t ∧ t.guide.requests = rest ∧ t.brake = s.brake
        ∧ (t.record v).axle n = some { a with parking := true })
    ∧ (s.guide.requests = .endAxle :: rest → s.brake.state = .braking →
      ∃ t, exec .endAxle s = .next t ∧ t.guide.requests = rest ∧ t.brake.state = .stopping
        ∧ t.brake.run.endCause = some .guidanceEnd ∧ t.sig.outputs.runL = false ∧ t.sig.outputs.runR = false)
    ∧ (∀ v n a, s.guide.requests = .skipAxle :: rest → s.entry.blocked = false → s.brake.vehicle = some v →
      axleInHand s = some n → (s.record v).axle n = some a → a.finished = false → a.skip = none →
      ∃ t b, exec .guidanceSkipAxle s = .next t ∧ (t.record v).axle n = some b ∧ b.skip = some .guidance
        ∧ b.service = a.service ∧ b.parkingResult = a.parkingResult
        ∧ (s.brake.state.attempt = true → t.brake.state = .waitClear ∧ t.sig.outputs.runL = false))
    ∧ (∀ h q, s.guide.requests = .releaseVehicle :: rest → s.vt.queue = h :: q → s.entry.blocked = false →
      (s.record h).entryDone = true →
      ∃ t, exec .guidanceReleaseVehicle s = .next t ∧ t.vt.queue = q ∧ (t.record h).state = .complete
        ∧ t.vt.exitClear = false)
    ∧ (∀ r, s.guide.requests = r :: rest → (r ≠ .markParking → exec .markParking s = .next s)
        ∧ (r ≠ .endAxle → exec .endAxle s = .next s) ∧ (r ≠ .skipAxle → exec .guidanceSkipAxle s = .next s)
        ∧ (r ≠ .releaseVehicle → exec .guidanceReleaseVehicle s = .next s))
    ∧ (s.guide.requests = [] → exec .markParking s = .next s ∧ exec .endAxle s = .next s
        ∧ exec .guidanceSkipAxle s = .next s ∧ exec .guidanceReleaseVehicle s = .next s)

/-- R84, R21, R81: SKIP_AXLE, RELEASE_VEHICLE and ACK_FAULT from the host. -/
def Obligations.HostStationRequestsAreCarriedOut : Prop :=
  ∀ (tag : Nat) (s : State), Calm s →
    (∀ v n a, reachesOwner (.skipAxle tag) s = true → s.entry.blocked = false → s.brake.vehicle = some v →
      axleInHand s = some n → (s.record v).axle n = some a → a.finished = false → a.skip = none →
      ∃ t b, exec (.skipAxle tag) s = .next t ∧ (t.record v).axle n = some b ∧ b.skip = some .host
        ∧ b.service = a.service ∧ b.parkingResult = a.parkingResult)
    ∧ (reachesOwner (.skipAxle tag) s = true → axleInHand s = none →
      exec (.skipAxle tag) s = .next (replyWith (.skipAxle tag) 0x10 tag .state .none s))
    ∧ (∀ h q, reachesOwner (.releaseVehicle tag) s = true → s.vt.queue = h :: q → s.entry.blocked = false →
      (s.record h).entryDone = true →
      ∃ t, exec (.releaseVehicle tag) s = .next t ∧ t.vt.queue = q ∧ (t.record h).state = .complete
        ∧ ∀ a ∈ (t.record h).axles, a.finished = true ∨ a.skip ≠ none)
    ∧ (∀ h q, reachesOwner (.releaseVehicle tag) s = true → (s.vt.queue = [] ∨ (s.vt.queue = h :: q
        ∧ (s.record h).entryDone = false)) →
      exec (.releaseVehicle tag) s = .next (replyWith (.releaseVehicle tag) 0x11 tag .state .none s))
    ∧ (reachesOwner (.ackFault tag) s = true → s.brake.state = .fault → inputActive .estop s = false →
      ∃ t, exec (.ackFault tag) s = .next t ∧ t.brake.cause = none ∧ t.brake.axle = none
        ∧ t.brake.vehicle = s.vt.queue.head?
        ∧ t.brake.state = (if s.vt.queue = [] then .idle else .waitWheels)
        ∧ t.brake.presence = (if s.vt.queue ≠ [] ∧ wheelsOn s = true then some (later s.time.now 2000) else none))
    ∧ (reachesOwner (.ackFault tag) s = true → s.brake.state ≠ .fault ∨ inputActive .estop s = true →
      exec (.ackFault tag) s = .next (replyWith (.ackFault tag) 0x12 tag .state .none s))

/-- R126, R30, R38: what the two stations and the Vehicle Table do on their own events stays with them: lane time, the
channels and counters, the pedal link, the certificate unit, the calibration image, the EEPROM and every setting are
unchanged. -/
def Obligations.StationEventsKeepTheOtherBlocks : Prop :=
  ∀ (i : Instr) (s t : State), Calm s → i ∈ stationEvents → exec i s = .next t →
    t = { s with
        sig := { s.sig with lines := t.sig.lines, outputs := t.sig.outputs, edges := t.sig.edges,
                            entryInbox := t.sig.entryInbox, brakeInbox := t.sig.brakeInbox }
        vt := { t.vt with classes := s.vt.classes }
        entry := t.entry, brake := t.brake, guide := t.guide, traces := t.traces
        cal := { s.cal with collection := t.cal.collection }, port := t.port }
      ∧ settingsOf t = settingsOf s ∧ t.guide.programs = s.guide.programs ∧ t.guide.steps = s.guide.steps
      ∧ t.port.buffer = s.port.buffer ∧ t.port.handed = s.port.handed

/-! ## Totals and verdicts -/

/-- R99, R100, R102, R103, R104: the two efficiencies of a vehicle whose weights are all known are the rounded quotients
over its mass, at most 2000, absent otherwise; each item (efficiencies, imbalance, drags, side-slip, weight) is judged against the
class's limit or not tested; the vehicle fails exactly when an item fails. -/
def Obligations.TotalsAndVerdictsFollowTheClass : Prop :=
  ∀ (c : ClassEntry) (axles : List Axle),
    ((∃ a ∈ axles, a.weightL = none ∨ a.weightR = none ∨ a.overrange = true) →
      (totalsOf (some c) axles).massPartial = true ∧ (totalsOf (some c) axles).serviceEff = none
        ∧ (totalsOf (some c) axles).parkingEff = none)
    ∧ (∀ e, (totalsOf (some c) axles).serviceEff = some e →
      (totalsOf (some c) axles).massPartial = false ∧ e ≤ 2000
        ∧ (∀ m q, m = (totalsOf (some c) axles).mass * 981 →
            q = ((axles.filterMap Axle.service).map (fun r => r.maxL + r.maxR)).sum * 1000000 →
            2 * (e * m) ≤ 2 * q + m ∧ (e < 2000 → 2 * q < 2 * (e * m) + m))
        ∧ ((totalsOf (some c) axles).serviceBound = false →
            (totalsOf (some c) axles).verdicts.service = (if c.minServiceEff ≤ e then .pass else .fail))
        ∧ ((totalsOf (some c) axles).serviceBound = true →
            (totalsOf (some c) axles).verdicts.service = (if c.minServiceEff ≤ e then .pass else .notTested)))
    ∧ (∀ a r, a ∈ axles → a.service = some r → c.maxDrag < r.dragL ∨ c.maxDrag < r.dragR →
      (totalsOf (some c) axles).verdicts.overall = .fail)
    ∧ (∀ a v, a ∈ axles → a.sideSlip = some v → c.maxSideSlip < v.natAbs →
      (totalsOf (some c) axles).verdicts.overall = .fail)
    ∧ ((∃ a ∈ axles, a.service = none ∨ a.skip ≠ none ∨ a.sideSlip = none) →
      (totalsOf (some c) axles).verdicts.overall ≠ .pass)
    ∧ (totalsOf none axles).verdicts.overall = .incomplete
    ∧ ((totalsOf (some c) axles).serviceEff = none ↔ (totalsOf (some c) axles).massPartial = true
        ∨ (totalsOf (some c) axles).mass = 0 ∨ ∀ a ∈ axles, a.service = none)
    ∧ ((totalsOf (some c) axles).serviceEff = none → (totalsOf (some c) axles).verdicts.service = .notTested)
    ∧ ((totalsOf (some c) axles).parkingEff = none ↔ (totalsOf (some c) axles).massPartial = true
        ∨ (totalsOf (some c) axles).mass = 0 ∨ ∀ a ∈ axles, a.parking = true → a.parkingResult = none)
    ∧ (∀ e, (totalsOf (some c) axles).parkingEff = some e → e ≤ 2000
        ∧ (∀ m q, m = (totalsOf (some c) axles).mass * 981 →
            q = (((axles.filter Axle.parking).filterMap Axle.parkingResult).map (fun r => r.maxL + r.maxR)).sum
                  * 1000000 →
            2 * (e * m) ≤ 2 * q + m ∧ (e < 2000 → 2 * q < 2 * (e * m) + m))
        ∧ (totalsOf (some c) axles).verdicts.parking = some (if c.minParkingEff ≤ e then .pass
            else if (totalsOf (some c) axles).parkingBound then .notTested else .fail))
    ∧ ((totalsOf (some c) axles).serviceBound = true ↔ (totalsOf (some c) axles).serviceEff ≠ none
        ∧ ∃ a ∈ axles, ∃ r, a.service = some r ∧ r.overrange = true)
    ∧ ((totalsOf (some c) axles).parkingBound = true ↔ (totalsOf (some c) axles).parkingEff ≠ none
        ∧ ∃ a ∈ axles, a.parking = true ∧ ∃ r, a.parkingResult = some r ∧ r.overrange = true)
    ∧ ((∀ a ∈ axles, a.parking = false) → (totalsOf (some c) axles).verdicts.parking = none)
    ∧ ((∃ a ∈ axles, a.parking = true) → (totalsOf (some c) axles).parkingEff = none →
        (totalsOf (some c) axles).verdicts.parking = some .notTested)
    ∧ (totalsOf (some c) axles).verdicts.axles.length = axles.length
    ∧ (∀ (n : Nat) (a : Axle), axles[n]? = some a → ∃ v, (totalsOf (some c) axles).verdicts.axles[n]? = some v
        ∧ (∀ r i, a.service = some r → r.imbalanceMax = some i →
            v.imbalance = (if i ≤ c.maxImbalance then .pass else .fail))
        ∧ (∀ r, a.service = some r → r.imbalanceMax = none → v.imbalance = .notTested)
        ∧ (∀ r, a.service = some r → v.dragL = (if r.dragL ≤ c.maxDrag then .pass else .fail)
            ∧ v.dragR = (if r.dragR ≤ c.maxDrag then .pass else .fail))
        ∧ (a.service = none → v.imbalance = .notTested ∧ v.dragL = .notTested ∧ v.dragR = .notTested)
        ∧ (∀ x, a.sideSlip = some x → v.sideSlip = (if x.natAbs ≤ c.maxSideSlip then .pass else .fail))
        ∧ (a.sideSlip = none → v.sideSlip = .notTested)
        ∧ (c.maxAxleWeight = 0 → v.weight = none)
        ∧ (∀ l r, c.maxAxleWeight ≠ 0 → a.weightL = some l → a.weightR = some r → v.weight = some
            (if c.maxAxleWeight < l + r then .fail else if a.overrange then .notTested else .pass))
        ∧ (c.maxAxleWeight ≠ 0 → a.weightL = none ∨ a.weightR = none → v.weight = some .notTested))
    ∧ ((totalsOf (some c) axles).verdicts.overall = .fail ↔
        (totalsOf (some c) axles).verdicts.service = .fail ∨ (totalsOf (some c) axles).verdicts.parking = some .fail
        ∨ ∃ v ∈ (totalsOf (some c) axles).verdicts.axles, v.imbalance = .fail ∨ v.dragL = .fail ∨ v.dragR = .fail
            ∨ v.sideSlip = .fail ∨ v.weight = some .fail)

/-! ## The pedal link -/

/-- R106: the pedal receiver, byte by byte: the start of a frame in HUNTING and FRAMED, a byte added, the 16th byte
with its check, a framing error and a gap. Nothing but the receiver changes.
The list of complete frames the 16th byte extends is the model's (log entry 6). -/
def Obligations.PedalBytesAreCollectedIntoFrames : Prop :=
  ∀ (b : Byte) (ok : Bool) (idle : Nat) (s : State), Calm s →
    (s.pedal.frame = none → s.pedal.framed = false → exec (.pedalByte b ok idle) s = .next (
      if ok = true ∧ 2000 ≤ idle ∧ b = 0x7E then { s with pedal := { s.pedal with frame := some [b] } } else s))
    ∧ (s.pedal.frame = none → s.pedal.framed = true → exec (.pedalByte b ok idle) s = .next { s with pedal :=
      if ok = true ∧ b = 0x7E then { s.pedal with frame := some [b] }
      else { s.pedal with framed := false, framingLosses := min 65535 (s.pedal.framingLosses + 1) } })
    ∧ (∀ f, s.pedal.frame = some f → ok = true → idle < 2000 → f.length < 15 →
      exec (.pedalByte b ok idle) s = .next { s with pedal := { s.pedal with frame := some (f ++ [b]) } })
    ∧ (∀ f, s.pedal.frame = some f → ok = true → idle < 2000 → f.length = 15 →
      exec (.pedalByte b ok idle) s = .next { s with pedal :=
        (if crc8 f = b then
          { s.pedal with framed := true, frame := none, completed := s.pedal.completed ++ [(f ++ [b], s.time.now)] }
        else { s.pedal with framed := false, frame := none, crcErrors := min 65535 (s.pedal.crcErrors + 1) }) })
    ∧ (∀ f, s.pedal.frame = some f → ok = false → idle < 2000 →
      exec (.pedalByte b ok idle) s = .next { s with pedal := { s.pedal with
        framed := false, frame := none, framingLosses := min 65535 (s.pedal.framingLosses + 1) } })
    ∧ (∀ f, s.pedal.frame = some f → 2000 ≤ idle →
      exec (.pedalByte b ok idle) s = .next { s with pedal := { s.pedal with
        framed := false, frame := if ok = true ∧ b = 0x7E then some [b] else none
        framingLosses := min 65535 (s.pedal.framingLosses + 1) } })

/-- R108, R110, R111, R112, R113, R114, R115, R116, R117: the frame handed on first is filtered, starts a following, is
foreign, repeats the last one, or jumps and becomes the base anew. Otherwise its gap of 0..8 is counted as lost and handed to
the open brake trace, and its unit time extends the last one: in UNSYNC it takes the offset; in the window it confirms the
offset in TENTATIVE or trims it in SYNC, and a frame in SYNC or the eighth in TENTATIVE places its present samples in the ring
of 32, 10 ms apart, or drops those that are not later than the newest entry; out of the window it takes the offset anew in
TENTATIVE, and is withheld in SYNC, where the third in a row takes the offset anew. The silence expiry ends the following.
How a frame reaches the link, that an expiry acts when due, that a frame which takes the offset leaves the last error as it
was, and the byte order of a frame's fields (in `unitFrame`) are the model's (log entries 6, 8, 47, 49). -/
def Obligations.PedalFramesMoveTheLink : Prop :=
  ∀ (bytes : List Byte) (t0 : LaneTime) (rest : List (List Byte × LaneTime)) (s : State) (f : UnitFrame), Calm s →
    f = unitFrame bytes →
    (s.pedal.completed = (bytes, t0) :: rest → passes f.unit s.pedal.idMask s.pedal.idMatch = false →
      exec (.pedalFrame bytes) s = .next { s with pedal := { s.pedal with
        completed := rest, filtered := min 65535 (s.pedal.filtered + 1) } })
    ∧ (s.pedal.completed = (bytes, t0) :: rest → passes f.unit s.pedal.idMask s.pedal.idMatch = true →
      s.pedal.following = none → ∃ t, exec (.pedalFrame bytes) s = .next t
        ∧ t = { s with pedal := t.pedal, port := t.port }
        ∧ t.pedal = { s.pedal with completed := rest, state := .unsync, following := (some
            { unit := f.unit, seq := f.seq, unitTime := f.time, extended := BitVec.setWidth 32 f.time,
              battery := f.battery, silence := later t0 200 }) })
    ∧ (∀ g, s.pedal.completed = (bytes, t0) :: rest → passes f.unit s.pedal.idMask s.pedal.idMatch = true →
      s.pedal.following = some g → g.unit ≠ f.unit → exec (.pedalFrame bytes) s = .next { s with pedal :=
        { s.pedal with completed := rest, foreign := min 65535 (s.pedal.foreign + 1) } })
    ∧ (∀ g, s.pedal.completed = (bytes, t0) :: rest → passes f.unit s.pedal.idMask s.pedal.idMatch = true →
      s.pedal.following = some g → g.unit = f.unit → f.seq = g.seq →
      exec (.pedalFrame bytes) s = .next { s with pedal :=
        { s.pedal with completed := rest, duplicates := min 65535 (s.pedal.duplicates + 1) } })
    -- a jump (R110)
    ∧ (∀ g, s.pedal.completed = (bytes, t0) :: rest → passes f.unit s.pedal.idMask s.pedal.idMatch = true →
      s.pedal.following = some g → g.unit = f.unit → 9 ≤ (f.seq - g.seq - 1).toNat → f.seq ≠ g.seq →
      ∃ t, exec (.pedalFrame bytes) s = .next t ∧ t = { s with pedal := t.pedal, port := t.port }
        ∧ t.pedal = { s.pedal with
            completed := rest, state := .unsync, offset := none, inWindow := 0, outRun := 0
            following := some { unit := f.unit, seq := f.seq, unitTime := f.time,
                                extended := BitVec.setWidth 32 f.time, battery := f.battery, silence := later t0 200 } }
        ∧ (s.pedal.state = .unsync → t.port = s.port)
        ∧ (s.pedal.state ≠ .unsync → s.port.notices.length < 32 → ∃ k, t.port.notices = s.port.notices
            ++ [(k, .pedalState .unsync .sequenceJump (some f.unit.toNat) (some f.battery) s.time.now)]))
    -- a gap of 0..8 (R110, R111)
    ∧ (∀ (g : Following) (gap : Nat), s.pedal.completed = (bytes, t0) :: rest →
      passes f.unit s.pedal.idMask s.pedal.idMatch = true → s.pedal.following = some g → g.unit = f.unit →
      gap = (f.seq - g.seq - 1).toNat → gap ≤ 8 →
      ∃ t, exec (.pedalFrame bytes) s = .next t ∧ t = { s with pedal := t.pedal, port := t.port, traces := t.traces }
        ∧ t.pedal.following = some { g with
            seq := f.seq, unitTime := f.time, extended := g.extended + BitVec.setWidth 32 (f.time - g.unitTime)
            battery := f.battery, silence := later t0 200 }
        ∧ (gap = 0 → t.pedal.lost = s.pedal.lost ∧ t.traces = s.traces)
        ∧ (0 < gap → t.pedal.lost = min 65535 (s.pedal.lost + gap)
            ∧ (s.brake.openTrace = none → t.traces = s.traces)
            ∧ (∀ id e, s.brake.openTrace = some id → s.traces.find id = some e → e.closed = false →
                t.traces.find id = some { e with pedalGaps := min 65535 (e.pedalGaps + gap) })))
    -- in the window (R114, R115, R117)
    ∧ (∀ (g : Following) (o : LaneTime) (x : LaneTime) (e : Int), s.pedal.completed = (bytes, t0) :: rest →
      passes f.unit s.pedal.idMask s.pedal.idMatch = true → s.pedal.following = some g → g.unit = f.unit →
      (f.seq - g.seq - 1).toNat ≤ 8 → s.pedal.offset = some o →
      x = g.extended + BitVec.setWidth 32 (f.time - g.unitTime) →
      e = (t0 - (x + o + BitVec.ofNat 32 s.pedal.latency)).toInt → e.natAbs ≤ s.pedal.window →
      ∃ t, exec (.pedalFrame bytes) s = .next t
        ∧ (s.pedal.state = .sync → t.pedal.state = .sync ∧ t.pedal.lastError = some e ∧ t.pedal.outRun = 0
            ∧ t.pedal.offset = some (o + BitVec.ofInt 32 (roundDivInt e 8)) ∧ t.port = s.port)
        ∧ (s.pedal.state = .tentative → t.pedal.lastError = some e ∧ t.pedal.offset = some o
            ∧ t.pedal.inWindow = s.pedal.inWindow + 1
            ∧ t.pedal.state = (if 8 ≤ s.pedal.inWindow + 1 then .sync else .tentative)
            ∧ (8 ≤ s.pedal.inWindow + 1 → t.pedal.outRun = 0)
            ∧ (s.pedal.inWindow + 1 < 8 → t.pedal.ring = s.pedal.ring ∧ t.port = s.port))
        ∧ (∀ (o' base : LaneTime) (entries : List RingEntry),
            s.pedal.state = .sync ∨ (s.pedal.state = .tentative ∧ 8 ≤ s.pedal.inWindow + 1) →
            t.pedal.offset = some o' → base = x + o' + 120 →
            entries = f.samples.zipIdx.filterMap
              (fun p => p.1.map fun v => { time := base + BitVec.ofNat 32 (10 * p.2), force := v }) →
            (s.pedal.ring.length ≤ 32 →
              (∀ n, s.pedal.ring.getLast? = some n → ∀ a ∈ entries, 0 < (a.time - n.time).toInt) →
              t.pedal.ring = (s.pedal.ring ++ entries).drop (s.pedal.ring.length + entries.length - 32)
                ∧ t.pedal.dropped = s.pedal.dropped)
            ∧ (∀ n, s.pedal.ring.getLast? = some n → (∀ a ∈ entries, (a.time - n.time).toInt ≤ 0) →
                s.pedal.dropped + entries.length ≤ 65535 →
                t.pedal.ring = s.pedal.ring ∧ t.pedal.dropped = s.pedal.dropped + entries.length)))
    -- out of the window (R114, R115)
    ∧ (∀ (g : Following) (o : LaneTime) (x : LaneTime) (e : Int), s.pedal.completed = (bytes, t0) :: rest →
      passes f.unit s.pedal.idMask s.pedal.idMatch = true → s.pedal.following = some g → g.unit = f.unit →
      (f.seq - g.seq - 1).toNat ≤ 8 → s.pedal.offset = some o →
      x = g.extended + BitVec.setWidth 32 (f.time - g.unitTime) →
      e = (t0 - (x + o + BitVec.ofNat 32 s.pedal.latency)).toInt → s.pedal.window < e.natAbs →
      ∃ t, exec (.pedalFrame bytes) s = .next t
        ∧ (s.pedal.state = .tentative → t.pedal.state = .tentative ∧ t.pedal.lastError = some e
            ∧ t.pedal.inWindow = 0 ∧ t.pedal.offset = some (t0 - x - BitVec.ofNat 32 s.pedal.latency)
            ∧ t.pedal.ring = s.pedal.ring ∧ t.port = s.port)
        ∧ (s.pedal.state = .sync → t.pedal.lastError = some e ∧ t.pedal.ring = s.pedal.ring
            ∧ t.pedal.withheld = min 65535 (s.pedal.withheld + 1) ∧ t.pedal.outRun = s.pedal.outRun + 1
            ∧ (s.pedal.outRun + 1 < 3 → t.pedal.state = .sync ∧ t.pedal.offset = some o ∧ t.port = s.port)
            ∧ (3 ≤ s.pedal.outRun + 1 → t.pedal.state = .tentative ∧ t.pedal.inWindow = 0
                ∧ t.pedal.offset = some (t0 - x - BitVec.ofNat 32 s.pedal.latency)
                ∧ (s.port.notices.length < 32 → ∃ k, t.port.notices = s.port.notices ++ [(k, .pedalState .tentative
                    .outOfWindow (some f.unit.toNat) (some f.battery) s.time.now)]))))
    ∧ (∀ (g : Following) (x : LaneTime), s.pedal.completed = (bytes, t0) :: rest →
      passes f.unit s.pedal.idMask s.pedal.idMatch = true → s.pedal.following = some g → g.unit = f.unit →
      (f.seq - g.seq - 1).toNat ≤ 8 → s.pedal.state = .unsync →
      x = g.extended + BitVec.setWidth 32 (f.time - g.unitTime) →
      ∃ t, exec (.pedalFrame bytes) s = .next t
        ∧ t.pedal = { s.pedal with
            completed := rest, state := .tentative, inWindow := 0, lost := t.pedal.lost
            offset := some (t0 - x - BitVec.ofNat 32 s.pedal.latency)
            following := some { g with seq := f.seq, unitTime := f.time, extended := x, battery := f.battery,
                                       silence := later t0 200 } })
    ∧ (s.pedal.state ≠ .absent → s.due (s.pedal.following.map Following.silence) = true →
      ∃ t, exec .pedalSilenceExpiry s = .next t ∧ t = { s with pedal := t.pedal, port := t.port }
        ∧ t.pedal = { s.pedal with state := .absent, following := none, offset := none, lastError := none,
                                   inWindow := 0, outRun := 0 })
    ∧ (s.due (s.pedal.following.map Following.silence) = false → exec .pedalSilenceExpiry s = .next s)

/-! ## Guidance -/

/-- R125, R127 to R133, R135 to R138: Guidance's answers, each carried to the step, flags, times, request, lamps and SHOW frame
in which the station comes to rest (`GuidedTo`: a step whose standing flag is up is passed through at once).
A step's timeout enters its successor. A refresh makes the SHOW frame pending anew, also while the board's frame before it is
being sent. The free line sends the frame that was made pending first, board 1's before board 2's at one lane time, and the
board's slot empties with its last byte unless another frame has been made pending meanwhile. A selection enters the entry step
of the vehicle's class's program, or of the built-in one. An event sets its flag and advances a step that waits on it; a flag
already up, or END, changes nothing. A sample that reaches the threshold of the brake station's step advances it. STATION_FAULT
moves the brake program to its entry step. The last clauses carry a delivered event, a delivered sample, a fault and a binding
through a command to the same.
Expiries act when due (log entry 8); the entry time at END is the model's choice (log entry 11), and so are the lists of
station requests and of events on their way (log entry 6) and the order of results within one event (log entry 17). -/
def Obligations.GuidanceTimesAndThePromptLine : Prop :=
  ∀ (st : Station) (s : State), Calm s →
    -- a step's timeout (R131, R133)
    (∀ x, stepInHand st s = some x → s.due (s.guide.at st).timeout = true →
      ∃ t, exec (.stepTimeout st) s = .next t ∧ OnlyGuided st s t
        ∧ GuidedTo st (s.guide.at st).program x.nextTimeout s.guide.requests t)
    ∧ (s.due (s.guide.at st).timeout = false → exec (.stepTimeout st) s = .next s)
    -- a refresh time (R137, R135)
    ∧ (∀ y, stepInHand st s = some y → s.due (some (s.guide.at st).refresh) = true →
      exec (.showRefresh st) s = .next (modGuide st (fun g => { g with
        slot := some { frame := stepFrame st y s, since := s.time.now, sending := false }
        refresh := later g.refresh (stepPeriod y) }) s))
    ∧ ((s.guide.at st).step = none → s.due (some (s.guide.at st).refresh) = true →
      exec (.showRefresh st) s = .next (modGuide st (fun g => { g with
        slot := some { frame := endFrame st, since := s.time.now, sending := false }
        refresh := later g.refresh 1000 }) s))
    ∧ (s.due (some (s.guide.at st).refresh) = false → exec (.showRefresh st) s = .next s)
    -- the prompt line (R135)
    ∧ (∀ p q, s.guide.transmitting = none → s.guide.entry.slot = some p → s.guide.brake.slot = some q →
      exec .promptTransmitBegin s = .next { s with guide :=
        if (s.time.now - q.since).toNat ≤ (s.time.now - p.since).toNat then
          { s.guide with transmitting := some p.frame
                         entry := { s.guide.entry with slot := some { p with sending := true } } }
        else { s.guide with transmitting := some q.frame
                            brake := { s.guide.brake with slot := some { q with sending := true } } } })
    ∧ (∀ p, s.guide.transmitting = none → s.guide.entry.slot = some p → s.guide.brake.slot = none →
      exec .promptTransmitBegin s = .next { s with guide := { s.guide with
        transmitting := some p.frame, entry := { s.guide.entry with slot := some { p with sending := true } } } })
    ∧ (∀ q, s.guide.transmitting = none → s.guide.entry.slot = none → s.guide.brake.slot = some q →
      exec .promptTransmitBegin s = .next { s with guide := { s.guide with
        transmitting := some q.frame, brake := { s.guide.brake with slot := some { q with sending := true } } } })
    ∧ (s.guide.transmitting.isSome = true ∨ (s.guide.entry.slot = none ∧ s.guide.brake.slot = none) →
      exec .promptTransmitBegin s = .next s)
    ∧ (s.guide.transmitting.isSome = true → exec .promptTransmitEnd s = .next { s with guide := { s.guide with
        transmitting := none
        entry := { s.guide.entry with slot := s.guide.entry.slot.filter (fun p => !p.sending) }
        brake := { s.guide.brake with slot := s.guide.brake.slot.filter (fun p => !p.sending) } } })
    ∧ (s.guide.transmitting = none → exec .promptTransmitEnd s = .next s)
    -- a selection (R125)
    ∧ (∀ (v : Option Nat) (p : Nat) (q : Program), programAt s.guide p = some q →
      (∀ k c n, v = some k → (s.vt.classes[(s.record k).cls]?).join = some c →
        n = (if st = .entry then c.entryProgram else c.brakeProgram) →
        p = (if programAt s.guide n = none then (if st = .entry then 0 else 1) else n)) →
      (v = none ∨ (∃ k, v = some k ∧ (s.vt.classes[(s.record k).cls]?).join = none) →
        p = if st = .entry then 0 else 1) →
      OnlyGuided st s (selectProgram st v s)
        ∧ GuidedTo st p (some q.entryStep) s.guide.requests (selectProgram st v s))
    -- an event (R128, R129, R133)
    ∧ (∀ e, e ≠ .stationFault → (st = .entry ↔ e ∈ [.vehicleAtBarrier, .axleOnSlip, .axleOnScale, .weightSettled,
          .axleOffScale, .entryFinished, .entryBlocked, .brakeFree]) →
      ((s.guide.at st).step = none → takeEvent e s = s)
      ∧ (e ∈ (s.guide.at st).flags → takeEvent e s = s)
      ∧ (∀ x, stepInHand st s = some x → e ∉ (s.guide.at st).flags →
        (x.wait ≠ .event e → ∃ l, takeEvent e s = modGuide st (fun g => { g with flags := l }) s
          ∧ ∀ f, f ∈ l ↔ f ∈ (s.guide.at st).flags ∨ f = e)
        ∧ (x.wait = .event e → OnlyGuided st s (takeEvent e s)
          ∧ GuidedTo st (s.guide.at st).program x.nextAdvance s.guide.requests (takeEvent e s))))
    -- STATION_FAULT (R132)
    ∧ (∀ q, s.brake.state = .fault → programAt s.guide s.guide.brake.program = some q →
      OnlyGuided .brake s (takeEvent .stationFault s)
        ∧ GuidedTo .brake s.guide.brake.program (some q.entryStep) s.guide.requests (takeEvent .stationFault s))
    -- a sample (R130)
    ∧ (∀ (x : Step) (b : BrakeSample) (n v : Nat), stepInHand .brake s = some x → s.brake.lastSample = some b →
      ((x.wait = .pedalAbove n ∧ b.pedal = some v)
        ∨ (x.wait = .forceAbove n ∧ ∃ l r, b.forceL = some l ∧ b.forceR = some r ∧ v = l + r)
        ∨ (x.wait = .speedAbove n ∧ ∃ l r, b.speedL = some l ∧ b.speedR = some r ∧ v = min l r)) →
      (n ≤ v → OnlyGuided .brake s (compareSample s)
        ∧ GuidedTo .brake s.guide.brake.program x.nextAdvance s.guide.requests (compareSample s))
      ∧ (v < n → compareSample s = s))
    ∧ (∀ (x : Step) (b : BrakeSample) (n : Nat), stepInHand .brake s = some x → s.brake.lastSample = some b →
      ((∃ e, x.wait = .event e) ∨ (x.wait = .pedalAbove n ∧ b.pedal = none)
        ∨ (x.wait = .forceAbove n ∧ (b.forceL = none ∨ b.forceR = none))
        ∨ (x.wait = .speedAbove n ∧ (b.speedL = none ∨ b.speedR = none))) → compareSample s = s)
    ∧ (s.guide.brake.step = none → compareSample s = s)
    -- a delivered event: AXLE_ON_SLIP (R59, R128, R129)
    ∧ (∀ (u : State) (t0 : LaneTime) (x : Step), takeEdge .slipPlateSwitch true s = some (t0, u) →
      s.entry.vehicle.isSome = true → s.entry.plate.crossing = false → stepInHand .entry s = some x →
      .axleOnSlip ∉ s.guide.entry.flags → ∃ t, exec .slipPlateSwitchActive s = .next t
        ∧ t.guide.brake = s.guide.brake
        ∧ (x.wait = .event .axleOnSlip →
            GuidedTo .entry s.guide.entry.program x.nextAdvance s.guide.requests t)
        ∧ (x.wait ≠ .event .axleOnSlip → (∀ f, f ∈ t.guide.entry.flags ↔ f ∈ s.guide.entry.flags ∨ f = .axleOnSlip)
            ∧ t.guide = { s.guide with entry := { s.guide.entry with flags := t.guide.entry.flags } }
            ∧ t.sig.outputs = s.sig.outputs))
    -- a delivered sample (R126, R130)
    ∧ (∀ (d : Delivery) (rest : List Delivery), s.sig.brakeInbox = d :: rest →
      ∃ t b, exec .brakeWindowEnd s = .next t ∧ t.brake.lastSample = some b
        ∧ ∀ (x : Step) (n v : Nat), stepInHand .brake s = some x →
          s.brake.state.attempt = false
            ∨ (s.brake.state = .drag ∧ d.brakeFaulted = false ∧ s.brake.dragCount < 199)
            ∨ (s.brake.state = .braking ∧ d.brakeFaulted = false ∧ b.slipL < s.brake.slipLimit
                ∧ b.slipR < s.brake.slipLimit ∧ s.brake.releaseCount < 99) →
          ((x.wait = .pedalAbove n ∧ b.pedal = some v)
            ∨ (x.wait = .forceAbove n ∧ ∃ l r, b.forceL = some l ∧ b.forceR = some r ∧ v = l + r)
            ∨ (x.wait = .speedAbove n ∧ ∃ l r, b.speedL = some l ∧ b.speedR = some r ∧ v = min l r)) →
          (n ≤ v → GuidedTo .brake s.guide.brake.program x.nextAdvance s.guide.requests t)
          ∧ (v < n → t.guide = s.guide ∧ t.sig.outputs = s.sig.outputs))
    -- a fault (R80, R132)
    ∧ (∀ (u : State) (t0 : LaneTime) (q : Program), takeEdge .estop true s = some (t0, u) → s.brake.state ≠ .fault →
      programAt s.guide s.guide.brake.program = some q → ∃ t, exec .estopActive s = .next t
        ∧ standingFlags .brake t = [.stationFault] ∧ t.guide.entry = s.guide.entry
        ∧ GuidedTo .brake s.guide.brake.program (some q.entryStep) s.guide.requests t)
    -- a binding: the selection, then VEHICLE_AT_BARRIER (R125, R126)
    ∧ (∀ (u : State) (t0 : LaneTime) (a p : Nat) (q : Program) (y : Step),
      takeEdge .entryBarrier true s = some (t0, u) → s.entry.vehicle = none → s.entry.blocked = false →
      s.vt.armed = some a → a < s.vt.records.length → 1 ≤ s.vt.queue.length → s.vt.queue.length < 3 →
      (∀ c, (s.vt.classes[(s.record a).cls]?).join = some c →
        p = if programAt s.guide c.entryProgram = none then 0 else c.entryProgram) →
      ((s.vt.classes[(s.record a).cls]?).join = none → p = 0) →
      programAt s.guide p = some q → stepAt s.guide q.entryStep = some y →
      ∃ t, exec .entryBarrierActive s = .next t ∧ t.guide.brake = s.guide.brake
        ∧ (y.wait = .event .vehicleAtBarrier → GuidedTo .entry p y.nextAdvance s.guide.requests t)
        ∧ (y.wait ≠ .event .vehicleAtBarrier → t.guide.entry =
              { restedIn .entry p q.entryStep y t with flags := [.vehicleAtBarrier] }
            ∧ LampsShow .entry y.red y.amber y.green t ∧ t.guide.requests = s.guide.requests))

/-! ## The printer -/

/-- R163 to R171: HELLO, STATUS, CREDIT and silence move the printer link, its credit and the head job; a change of the link,
or of the condition while PAUSED, is told by PRINTER_STATE. The transmitter begins the void first, then the next frame of the
plan: the header lines, number, date, vehicle, class and notes, the lines of every axle, the totals, a strip for each brake
result when the job draws curves, FEED and CUT. A strip is formed with its label: NO CURVE without the result's own trace, else
16 ROWS frames of 8 rows whose dots stand where R168 puts each column's largest force on the label's scale, and CURVE TRUNCATED
behind those of a truncated trace.
How a frame reaches the unit, that an expiry acts when due, the position 0 and clear started of a HELD job, and the spaces and
dashes of a line, are the model's (log entries 6, 8, 52, 14). -/
def Obligations.PrinterLinkMovesTheHeadJob : Prop :=
  ∀ (s : State) (t0 : LaneTime) (rest : List (PrinterMsg × LaneTime)), Calm s →
    (∀ w, s.cert.inbox = (.hello w, t0) :: rest → s.cert.queue = [] → s.cert.void ≠ .lineSent →
      exec (.hello w) s = .next { s with cert := { s.cert with inbox := rest, window := w, outstanding := 0 } })
    ∧ (∀ w j js, s.cert.inbox = (.hello w, t0) :: rest → s.cert.queue = j :: js → j.state = .printing →
      j.started = true → s.cert.link = .ready →
      exec (.hello w) s = .next { s with cert := { s.cert with
        inbox := rest, window := w, outstanding := 0, void := .owed, strip := []
        queue := { j with state := .printing, position := 0, started := false, planPos := 0,
                          pass := min 255 (j.pass + 1) } :: js } })
    ∧ (∀ c, s.cert.inbox = (.status c, t0) :: rest → ∃ t, exec (.status c) s = .next t
        ∧ t = { s with cert := t.cert, port := t.port } ∧ t.cert.inbox = rest ∧ t.cert.condition = some c
        ∧ t.cert.silence = some (later t0 2000) ∧ t.cert.window = s.cert.window
        ∧ t.cert.outstanding = s.cert.outstanding
        ∧ t.cert.link = (if c.paperOut = false ∧ c.coverOpen = false ∧ c.headHot = false then .ready else .paused)
        ∧ (t.cert.link ≠ s.cert.link ∨ (t.cert.link = .paused ∧ s.cert.condition ≠ some c) →
            s.port.notices.length < 32 → ∃ k, t.port.notices = s.port.notices
              ++ [(k, .printerState t.cert.link (some c) s.cert.window s.cert.outstanding s.time.now)])
        ∧ (t.cert.link = s.cert.link → t.cert.link = .ready ∨ s.cert.condition = some c → t.port = s.port)
        ∧ (∀ j js, s.cert.queue = j :: js → j.state = .printing → j.started = true → s.cert.link = .ready →
            t.cert.link = .paused → t.cert.void = .owed ∧ t.cert.queue =
              { j with state := .held, position := 0, started := false, planPos := 0 } :: js)
        ∧ (∀ j js, s.cert.queue = j :: js → j.state = .held → s.cert.link ≠ .ready → t.cert.link = .ready →
            t.cert.queue = { j with state := .printing, position := 0, started := false, planPos := 0,
                                    pass := min 255 (j.pass + 1) } :: js))
    ∧ (∀ n, s.cert.inbox = (.credit n, t0) :: rest → s.cert.queue = [] →
      exec (.credit n) s = .next { s with cert := { s.cert with
        inbox := rest, outstanding := s.cert.outstanding - n
        creditExcess := min 65535 (s.cert.creditExcess + (n - s.cert.outstanding)) } })
    ∧ (∀ n j js, s.cert.inbox = (.credit n, t0) :: rest → s.cert.queue = j :: js → j.state = .printing →
      s.cert.outstanding ≤ n → s.cert.void = .none → passSent j s = true → s.entry.blocked = false →
      j.abortPending = false → ∃ t, exec (.credit n) s = .next t ∧ (∀ i ∈ t.cert.queue, i.slot ≠ j.slot)
        ∧ t.cert.outstanding = 0 ∧ (t.record j.slot).job = false)
    ∧ (s.due s.cert.silence = true → ∃ t, exec .printerSilenceExpiry s = .next t
        ∧ t = { s with cert := t.cert, port := t.port } ∧ t.cert.link = .offline ∧ t.cert.condition = none
        ∧ t.cert.silence = none ∧ t.cert.window = s.cert.window ∧ t.cert.outstanding = s.cert.outstanding
        ∧ (s.cert.link ≠ .offline → s.port.notices.length < 32 → ∃ k, t.port.notices = s.port.notices
            ++ [(k, .printerState .offline none s.cert.window s.cert.outstanding s.time.now)]))
    ∧ (s.due s.cert.silence = false → exec .printerSilenceExpiry s = .next s)
    ∧ (s.cert.transmitting = none → s.cert.link = .ready → s.cert.outstanding < s.cert.window →
      (s.cert.void = .owed → exec .printerTransmitBegin s = .next { s with cert := { s.cert with
        void := .lineSent, transmitting := some voidLine, outstanding := s.cert.outstanding + 1 } })
      ∧ (s.cert.void = .lineSent → exec .printerTransmitBegin s = .next { s with cert := { s.cert with
        void := .none, transmitting := some .cut, outstanding := s.cert.outstanding + 1 } })
      ∧ (∀ j js f, s.cert.void = .none → s.cert.queue = j :: js → j.state = .printing → s.cert.strip = [] →
        (planOf j (s.record j.slot))[j.planPos]? = some (.frame f) →
        exec .printerTransmitBegin s = .next { s with cert := { s.cert with
          transmitting := some f, outstanding := s.cert.outstanding + 1
          queue := { j with position := j.position + 1, started := true, planPos := j.planPos + 1 } :: js } })
      -- the rest of a strip, and a strip's label (R168)
      ∧ (∀ j js f more, s.cert.void = .none → s.cert.queue = j :: js → j.state = .printing → s.cert.strip = f :: more →
        exec .printerTransmitBegin s = .next { s with cert := { s.cert with
          transmitting := some f, outstanding := s.cert.outstanding + 1, strip := more
          queue := { j with position := j.position + 1, started := true } :: js } })
      ∧ (∀ (j : Job) (js : List Job) (n : Nat) (ph : Phase) (r : Option AxleResult) (own : Descriptor → Prop),
        s.cert.void = .none → s.cert.queue = j :: js → j.state = .printing → s.cert.strip = [] →
        (planOf j (s.record j.slot))[j.planPos]? = some (.strip n ph r) →
        (∀ d, own d ↔ ∃ q id c, r = some q ∧ q.traceId = some id ∧ s.traces.find id = some d ∧ d.closed = true
          ∧ d.kind = (if ph = .service then .service else .parking) ∧ d.slot = j.slot ∧ d.axle = some n
          ∧ d.closeTime = some c ∧ 0 ≤ (c - (q.completed - 10)).toInt) →
        ∃ label frames, exec .printerTransmitBegin s = .next { s with cert := { s.cert with
            transmitting := some label, outstanding := s.cert.outstanding + 1, strip := frames
            queue := { j with position := j.position + 1, started := true, planPos := j.planPos + 1 } :: js } }
          ∧ ((∀ d, ¬ own d) → frames = [.line .normal (txt "NO CURVE")]
            ∧ label = .line .normal (joinWords [txt "CURVE", dec n,
                txt (if ph = .service then "SERVICE" else "PARKING"), txt "T", decOpt (r.bind AxleResult.traceId), [45]]))
          ∧ (∀ d, own d → ∃ (scale : Nat) (rows : List PrinterFrame),
            label = .line .normal (joinWords [txt "CURVE", dec n,
              txt (if ph = .service then "SERVICE" else "PARKING"), txt "T", dec d.id, dec scale])
            ∧ scale % 500 = 0 ∧ 500 ≤ scale
            ∧ (∀ x ∈ d.samples, ∀ side f, sampleForce side x = some f → f ≤ scale)
            ∧ (500 < scale → ∃ x ∈ d.samples, ∃ side f, sampleForce side x = some f ∧ scale < f + 500)
            ∧ frames = rows ++ (if d.truncated then [.line .normal (txt "CURVE TRUNCATED")] else [])
            ∧ rows.length = 16
            ∧ ∀ k, k < 16 → ∃ l : List (List Byte), rows[k]? = some (.rows l) ∧ l.length = 8
              ∧ ∀ i, i < 8 → ∃ bytes : List Byte, l[i]? = some bytes ∧ bytes.length = 48
                ∧ ∀ c, c < 384 → ∃ b, bytes[c / 8]? = some b ∧ (b.getLsbD (7 - c % 8) = true ↔
                  ∃ side f, (side = .left ∨ c % 2 = 0) ∧ 8 * k + i + roundDiv (f * 127) scale = 127
                    ∧ (∃ m x, c * d.samples.length / 384 ≤ m ∧ m < (c + 1) * d.samples.length / 384
                        ∧ d.samples[m]? = some x ∧ sampleForce side x = some f)
                    ∧ ∀ m x g, c * d.samples.length / 384 ≤ m → m < (c + 1) * d.samples.length / 384 →
                        d.samples[m]? = some x → sampleForce side x = some g → g ≤ f))))
    -- the plan of a pass (R166, R167, R168)
    ∧ (∀ (j : Job) (r : Record), planOf j r =
        j.headers.map (fun h => PlanItem.frame (.line h.style h.text))
        ++ [ .frame (.line .double (joinWords [txt "CERTIFICATE", decW 10 (j.number.getD 0)]))
           , .frame (.line .normal (joinWords [txt "DATE", match j.printedDate with
                | some (some d) => dateText d
                | some none | none => txt "----"]))
           , .frame (.line .bold (joinWords [txt "VEHICLE", displayedId r]))
           , .frame (.line .normal (joinWords [txt "CLASS", dec j.cls, j.className])) ]
        ++ (if r.axlesExceeded then [.frame (.line .normal (txt "NOTE AXLES EXCEEDED"))] else [])
        ++ (if r.axlesMissing then [.frame (.line .normal (txt "NOTE AXLES MISSING"))] else [])
        ++ r.axles.zipIdx.flatMap (fun p =>
            [ PlanItem.frame (.line .normal (joinWords
                [ txt "AXLE", dec (p.2 + 1), txt "W", slash (decOpt p.1.weightL) (decOpt p.1.weightR), txt "SS"
                , slipText p.1.sideSlip
                , letters [(p.1.unsettled, 'U'), (p.1.overrange, 'O'), (p.1.addedAtRollers, 'A')] ]))
            , .frame (resultLine (txt "S") p.1.service) ]
            ++ (if p.1.parking then [.frame (resultLine (txt "P") p.1.parkingResult)] else [])
            ++ (((r.totals.bind (fun t => t.verdicts.axles[p.2]?)).map verdictLine).map PlanItem.frame).toList
            ++ (p.1.skip.map (fun c => PlanItem.frame (.line .normal (joinWords
                [txt "SKIPPED", skipCauseText c])))).toList)
        ++ ((r.totals.map totalLines).getD []).map PlanItem.frame
        ++ (if j.curves then r.axles.zipIdx.flatMap (fun p => PlanItem.strip (p.2 + 1) .service p.1.service
              :: (p.1.parkingResult.map (fun q => PlanItem.strip (p.2 + 1) .parking (some q))).toList) else [])
        ++ [.frame (.feed 4), .frame .cut])
    ∧ (s.cert.transmitting.isSome = true ∨ s.cert.link ≠ .ready ∨ s.cert.window ≤ s.cert.outstanding →
      exec .printerTransmitBegin s = .next s)
    ∧ exec .printerTransmitEnd s = .next { s with cert := { s.cert with transmitting := none } }

/-! ## The calibration store's writes -/

/-- R161, R178, R181, R182, R185, R180: a page write that the EEPROM acknowledges in time stores the page and nothing else; its
record's stored mark is set unless a further entry for it waits, and a counter write makes its copy and value current; CAL_STORED
tells it. One that fails (NO_ACK, or no acknowledge within 10 ms) leaves the counter as it was, clears the stored mark and the
page as written, as it was, or torn, which is read as bad; STORE_FAULT tells it with its cause. Either way the store's state
follows from the image, and the queue's next entry begins with the values that then stand. A commit's success fixes the number
and the printed date of the job in NUMBERING, which enters PRINTING, or ends ABORTED with that number where abort pending is
set; its failure ends the job FAILED with cause STORE, or ABORTED with cause RESTART. Before the 10 ms the timeout does nothing.
Which of the three a page is and the torn bytes are free values (log entry 3); the lane time of the end of the transfer is the
model's reading (log entry 40). -/
def Obligations.EepromWritesStoreOnePage : Prop :=
  ∀ (s : State) (w : PageWrite) (e : WriteEntry) (rest : List WriteEntry), Calm s →
    (s.cal.writing = some w → s.cal.queue = e :: rest → w.page < 256 → s.eeprom.wf = true →
      (s.time.now - w.began).toNat ≤ 11 →
      ∃ t, exec (.eepromWriteEnd true) s = .next t ∧ t.torn = s.torn ∧ t.eeprom.wf = true
        ∧ t.eeprom.page w.page = w.values.page
        ∧ (∀ a, a < 32 * w.page ∨ 32 * w.page + 32 ≤ a → t.eeprom.read a = s.eeprom.read a)
        ∧ (e = .commit ∨ (∃ v, e = .setCounter v) → t.cal.counter = w.values.counterValue
            ∧ t.cal.available = true ∧ t.cal.current = pageCopy w.page)
        ∧ (e = .header → t.cal.headerStored = true)
        ∧ (e = .constants → t.cal.constants = { s.cal.constants with stored := !rest.contains .constants })
        ∧ (∀ n c, e = .channel n → s.cal.channels[n]? = some c →
            t.cal.channels[n]? = some { c with stored := !rest.contains (.channel n) })
        ∧ (∀ m, e ≠ .channel m → t.cal.channels[m]? = s.cal.channels[m]?)
        ∧ StoreStateFollows t.cal
        ∧ (s.port.notices.length < 32 →
            ∃ k, (k, .calStored e.record w.values t.cal.state s.time.now) ∈ t.port.notices)
        ∧ (rest = [] → e ≠ .commit → t.cal.queue = [] ∧ t.cal.writing = none)
        ∧ (e ≠ .commit → BeginsNext rest t)
        -- the number of the job in NUMBERING (R161)
        ∧ (∀ j js, e = .commit → s.cert.queue = j :: js → j.state = .numbering → j.abortPending = false →
            t.cert = { s.cert with strip := [], queue := { j with
              number := some w.values.counterValue, printedDate := some (convertTime s.time s.time.now)
              state := .printing, position := 0, started := false, pass := 0, planPos := 0 } :: js })
        ∧ (∀ j js, e = .commit → s.cert.queue = j :: js → j.state = .numbering → j.abortPending = true →
            s.entry.blocked = false → (∀ i ∈ t.cert.queue, i.slot ≠ j.slot) ∧ (t.record j.slot).job = false
            ∧ ((s.record j.slot).state = .complete → (t.record j.slot).state =
                if (s.record j.slot).origin = .dynamic then .free else .booked)
            ∧ (s.port.notices.length ≤ 30 → ∃ k, (k, .certDone j.slot (displayedId (s.record j.slot))
                (some w.values.counterValue) .aborted (some .restart) 0 s.time.now) ∈ t.port.notices)))
    ∧ (∀ (i : Instr) (cause : StoreCause), (i = .eepromWriteEnd false ∧ cause = .noAck)
          ∨ (i = .eepromAckTimeout ∧ 10 ≤ (s.time.now - w.began).toNat ∧ cause = .timeout)
          ∨ (i = .eepromWriteEnd true ∧ 11 < (s.time.now - w.began).toNat ∧ cause = .timeout) →
      s.cal.writing = some w → s.cal.queue = e :: rest → w.page < 256 → s.eeprom.wf = true →
      ∃ t, exec i s = .next t ∧ t.torn = s.torn + 1 ∧ t.eeprom.wf = true
        ∧ t.eeprom.page w.page = (if Config.writeReached s.torn then w.values.page
            else if Config.writeTouched s.torn then tornPage s.torn else s.eeprom.page w.page)
        ∧ crc8 ((tornPage s.torn).take 31) ≠ (tornPage s.torn).getD 31 0
        ∧ (∀ a, a < 32 * w.page ∨ 32 * w.page + 32 ≤ a → t.eeprom.read a = s.eeprom.read a)
        ∧ t.cal.counter = s.cal.counter ∧ t.cal.available = s.cal.available ∧ t.cal.current = s.cal.current
        ∧ (e = .header → t.cal.headerStored = false)
        ∧ (e = .constants → t.cal.constants = { s.cal.constants with stored := false })
        ∧ (∀ n c, e = .channel n → s.cal.channels[n]? = some c →
            t.cal.channels[n]? = some { c with stored := false })
        ∧ (∀ m, e ≠ .channel m → t.cal.channels[m]? = s.cal.channels[m]?)
        ∧ (e = .commit ∨ (∃ v, e = .setCounter v) → pageCopy w.page ≠ s.cal.current →
            t.cal.counterStored = s.cal.counterStored)
        ∧ StoreStateFollows t.cal
        ∧ (s.port.notices.length < 32 →
            ∃ k, (k, .storeFault e.record cause t.cal.state s.time.now) ∈ t.port.notices)
        ∧ (e ≠ .commit → BeginsNext rest t)
        -- the job in NUMBERING (R161)
        ∧ (∀ j js, e = .commit → s.cert.queue = j :: js → j.state = .numbering → s.entry.blocked = false →
            (∀ i ∈ t.cert.queue, i.slot ≠ j.slot) ∧ (t.record j.slot).job = false
            ∧ (s.port.notices.length ≤ 30 → ∃ k, (k, .certDone j.slot (displayedId (s.record j.slot)) j.number
                (if j.abortPending then .aborted else .failed)
                (some (if j.abortPending then .restart else .store)) j.pass s.time.now) ∈ t.port.notices)))
    ∧ (s.cal.writing = some w → (s.time.now - w.began).toNat < 10 → exec .eepromAckTimeout s = .next s)
    ∧ (s.cal.writing = none → exec (.eepromWriteEnd true) s = .next s ∧ exec (.eepromWriteEnd false) s = .next s
        ∧ exec .eepromAckTimeout s = .next s)

/-! ## The serial receivers and the Host Port -/

/-- R189, R162: the host's and the printer's receivers: the sync byte in hunting, a gap, a framing error, a length out
of range, a byte added, and the last byte of a printer frame. That a sync byte needs a good stop bit on the host's line,
the byte order of the two length fields, and the list of printer frames not yet taken are the model's choices (log entries 16,
49, 6). -/
def Obligations.SerialBytesAreCollectedIntoFrames : Prop :=
  ∀ (b : Byte) (ok : Bool) (s : State), Calm s →
    (s.port.frame = none → exec (.hostByte b ok) s = .next (if ok = true ∧ b = 0xA5 then
      { s with port := { s.port with frame := some { bytes := [b], last := s.time.now } } } else s))
    ∧ (∀ f, s.port.frame = some f → 50 < (s.time.now - f.last).toNat →
      exec (.hostByte b ok) s = .next { s with port := { s.port with
        gapDiscards := min 65535 (s.port.gapDiscards + 1)
        frame := if ok = true ∧ b = 0xA5 then some { bytes := [b], last := s.time.now } else none } })
    ∧ (∀ f, s.port.frame = some f → (s.time.now - f.last).toNat ≤ 50 → ok = false →
      exec (.hostByte b ok) s = .next { s with port := { s.port with
        frame := none, framingDiscards := min 65535 (s.port.framingDiscards + 1) } })
    ∧ (∀ f lo, s.port.frame = some f → (s.time.now - f.last).toNat ≤ 50 → ok = true → f.bytes = [0xA5, lo] →
      exec (.hostByte b ok) s = .next { s with port :=
        if 1024 < lo.toNat + 256 * b.toNat then
          { s.port with frame := none, lengthDiscards := min 65535 (s.port.lengthDiscards + 1) }
        else { s.port with frame := some { bytes := [0xA5, lo, b], last := s.time.now } } })
    ∧ (s.cert.frame = none → exec (.printerByte b ok) s = .next (if ok = true ∧ b = 0xAA then
      { s with cert := { s.cert with frame := some { bytes := [b], last := s.time.now } } } else s))
    ∧ (∀ f, s.cert.frame = some f → 10 < (s.time.now - f.last).toNat →
      exec (.printerByte b ok) s = .next { s with cert := { s.cert with
        badFrames := min 65535 (s.cert.badFrames + 1)
        frame := if ok = true ∧ b = 0xAA then some { bytes := [b], last := s.time.now } else none } })
    ∧ (∀ f, s.cert.frame = some f → (s.time.now - f.last).toNat ≤ 10 → ok = false →
      exec (.printerByte b ok) s = .next { s with cert := { s.cert with
        frame := none, badFrames := min 65535 (s.cert.badFrames + 1) } })
    ∧ (∀ f w, s.cert.frame = some f → (s.time.now - f.last).toNat ≤ 10 → ok = true →
      f.bytes = [0xAA, 0x81, 1, 0, w] → exec (.printerByte b ok) s = .next { s with cert :=
        (if crc8 [0x81, 1, 0, w] = b ∧ 1 ≤ w.toNat ∧ w.toNat ≤ 32 then
          { s.cert with frame := none, inbox := s.cert.inbox ++ [(.hello w.toNat, s.time.now)] }
        else { s.cert with frame := none, badFrames := min 65535 (s.cert.badFrames + 1) }) })

/-- R188, R190, R191, R194: the receive buffer takes four frames and answers BUSY to four more; the head frame is taken
when a reply place is free; the transmitter begins the oldest reply, else the oldest notice, else the live frame, while
CTS is asserted. The lists of complete frames and of requests handed on are the model's (log entry 6), and so are that CTS
counts at a frame's first byte and a frame is sent whole (log entry 36), the codes of a payload where R199 leaves them open
(log entry 15), and the byte order of a frame's layout (log entry 49). -/
def Obligations.HostPortBuffersTakesAndSends : Prop :=
  ∀ (s : State) (k tag : Nat) (p : List Byte) (rest : List HostFrame), Calm s →
    (∀ c, exec (.ctsChange c) s = .next { s with port := { s.port with cts := c } })
    ∧ (s.port.completed = { kind := k, tag := tag, payload := p } :: rest →
      exec (.hostFrameReceived k tag p) s = .next { s with port :=
        if s.port.buffer.length < 4 then { s.port with
          completed := rest, buffer := s.port.buffer ++ [{ kind := k, tag := tag, payload := p }] }
        else if (s.port.replies.filter Reply.refusal).length < 4 then { s.port with
          completed := rest, replies := s.port.replies
            ++ [{ kind := k, tag := tag, status := .busy, body := .none, refusal := true }] }
        else { s.port with completed := rest, unanswered := min 65535 (s.port.unanswered + 1) } })
    ∧ (s.port.buffer = { kind := k, tag := tag, payload := p } :: rest → placesHeld s < 4 → k = 0 ∨ 0x1F < k →
      exec .requestTaken s = .next { s with port := { s.port with
        buffer := rest, replies := s.port.replies
          ++ [{ kind := k, tag := tag, status := .unknownKind, body := .none, refusal := false }] } })
    ∧ (∀ i, s.port.buffer = { kind := k, tag := tag, payload := p } :: rest → placesHeld s < 4 →
      readRequest k tag p = .request i →
      exec .requestTaken s = .next { s with port := { s.port with
        buffer := rest, handed := s.port.handed ++ [i] } })
    ∧ (s.port.buffer = { kind := k, tag := tag, payload := p } :: rest → placesHeld s < 4 →
      readRequest k tag p = .badLength →
      exec .requestTaken s = .next { s with port := { s.port with
        buffer := rest, replies := s.port.replies
          ++ [{ kind := k, tag := tag, status := .badLength, body := .none, refusal := false }] } })
    ∧ (s.port.buffer = [] ∨ 4 ≤ placesHeld s → exec .requestTaken s = .next s)
    ∧ (s.port.transmitting = none → s.port.cts = true →
      (∀ r rs, s.port.replies = r :: rs → exec .hostTransmitBegin s = .next { s with port := { s.port with
        replies := rs, transmitting := some { bytes := hostFrame 0x80 r.tag (replyBytes r) } } })
      ∧ (∀ n ns, s.port.replies = [] → s.port.notices = n :: ns →
        exec .hostTransmitBegin s = .next { s with port := { s.port with
          notices := ns
          transmitting := some { bytes := hostFrame (noticeBytes n.2).1 n.1 (noticeBytes n.2).2 } } })
      ∧ (∀ f, s.port.replies = [] → s.port.notices = [] → s.port.live = some f →
        exec .hostTransmitBegin s = .next { s with port := { s.port with
          live := none, transmitting := some { bytes := hostFrame 0x4D 0 (liveBytes f) } } }))
    ∧ (s.port.transmitting.isSome = true ∨ s.port.cts = false → exec .hostTransmitBegin s = .next s)
    ∧ exec .hostTransmitEnd s = .next { s with port := { s.port with transmitting := none } }

/-- R199, R200, R189, R191: the bytes of a request, written by the host as section 11.5 gives its payload, pass the
receiver as one complete frame, and the Host Port reads from it that request with every field as written.
The list of complete frames, some codes of the payloads, the byte order of the frame's layout, the codes of LOAD_CLASS's loaded
and LOAD_PROGRAM's unload indication, and the payload of a CAL_WRITE with an unknown target, are the model's (log entries 6,
15, 49, 43, 48). -/
def Obligations.RequestBytesOnTheLineAreReadBack : Prop :=
  ∀ (i : Instr) (kind tag : Nat) (b : List Byte) (p : HostPort) (t : LaneTime),
    i.wf = true → requestTag i = some (kind, tag) → requestPayload i = some b → b.length ≤ 1024 → p.frame = none →
    (hostFrame kind tag b).foldl (fun q x => q.takeByte x true t) p
        = { p with completed := p.completed ++ [{ kind := kind, tag := tag, payload := b }] }
      ∧ readRequest kind tag b = .request i

/-! ## Laws that every step keeps -/

/-- R126, R181, R184: no command leaves anything of its event over. -/
def Obligations.EveryStepLeavesThePartCalm : Prop :=
  ∀ s t : State, s.pending ≠ [] → step s = .next t → Calm t

/-- R70: a RUN output is set only in SPIN_UP, DRAG or BRAKING, and every step keeps it so. -/
def Obligations.EveryStepKeepsTheRunLaw : Prop := ∀ s t : State, RunLaw s → step s = .next t → RunLaw t

/-- R164: the frames outstanding never exceed the credit window, whatever command is taken. -/
def Obligations.EveryStepKeepsTheCreditLaw : Prop := ∀ s t : State, CreditLaw s → step s = .next t → CreditLaw t

/-- R3: no command makes a record's axle list longer than 12 axles. -/
def Obligations.EveryStepKeepsTheAxleLaw : Prop := ∀ s t : State, AxleLaw s → step s = .next t → AxleLaw t

/-- R16, R19, R9, R158, R6: the lane queue holds exactly the IN_LANE records, at most 3, and a record with a certificate
job is COMPLETE; every step keeps both, and with them the two shares of the table. -/
def Obligations.EveryStepKeepsTheLaneAndTheJobs : Prop :=
  ∀ s t : State, LaneLaw s → JobLaw s → step s = .next t → LaneLaw t ∧ JobLaw t
    ∧ (ShareLaw s → ShareLaw t)

/-- R141, R142, R144, R145: in each partition the free blocks and the blocks of live descriptors are all its blocks,
whatever command is taken. -/
def Obligations.EveryStepKeepsTheBlocks : Prop := ∀ s t : State, BlockLaw s → step s = .next t → BlockLaw t

/-- R177, R204: the EEPROM keeps its canonical form: addresses rising, inside its 8 KiB. -/
def Obligations.EveryStepKeepsTheEepromForm : Prop :=
  ∀ s t : State, s.eeprom.wf = true → step s = .next t → t.eeprom.wf = true
end

