-- ==== Sys2Proof/Laws/State.lean ====
section
/-! SUPPORT. The fields of the state under each update of Machine/Ops.lean, all true by rfl. -/

namespace Sys2Proof.Machine

@[simp] theorem State.onTime_pending (s : State) (f : TimeBase → TimeBase) : (s.onTime f).pending = s.pending := rfl
@[simp] theorem State.onTime_time (s : State) (f : TimeBase → TimeBase) : (s.onTime f).time = f s.time := rfl
@[simp] theorem State.onTime_sig (s : State) (f : TimeBase → TimeBase) : (s.onTime f).sig = s.sig := rfl
@[simp] theorem State.onTime_vt (s : State) (f : TimeBase → TimeBase) : (s.onTime f).vt = s.vt := rfl
@[simp] theorem State.onTime_entry (s : State) (f : TimeBase → TimeBase) : (s.onTime f).entry = s.entry := rfl
@[simp] theorem State.onTime_brake (s : State) (f : TimeBase → TimeBase) : (s.onTime f).brake = s.brake := rfl
@[simp] theorem State.onTime_pedal (s : State) (f : TimeBase → TimeBase) : (s.onTime f).pedal = s.pedal := rfl
@[simp] theorem State.onTime_guide (s : State) (f : TimeBase → TimeBase) : (s.onTime f).guide = s.guide := rfl
@[simp] theorem State.onTime_traces (s : State) (f : TimeBase → TimeBase) : (s.onTime f).traces = s.traces := rfl
@[simp] theorem State.onTime_cert (s : State) (f : TimeBase → TimeBase) : (s.onTime f).cert = s.cert := rfl
@[simp] theorem State.onTime_cal (s : State) (f : TimeBase → TimeBase) : (s.onTime f).cal = s.cal := rfl
@[simp] theorem State.onTime_port (s : State) (f : TimeBase → TimeBase) : (s.onTime f).port = s.port := rfl
@[simp] theorem State.onTime_eeprom (s : State) (f : TimeBase → TimeBase) : (s.onTime f).eeprom = s.eeprom := rfl
@[simp] theorem State.onTime_torn (s : State) (f : TimeBase → TimeBase) : (s.onTime f).torn = s.torn := rfl
@[simp] theorem State.onTime_work (s : State) (f : TimeBase → TimeBase) : (s.onTime f).work = s.work := rfl
@[simp] theorem State.onSig_pending (s : State) (f : Signals → Signals) : (s.onSig f).pending = s.pending := rfl
@[simp] theorem State.onSig_time (s : State) (f : Signals → Signals) : (s.onSig f).time = s.time := rfl
@[simp] theorem State.onSig_sig (s : State) (f : Signals → Signals) : (s.onSig f).sig = f s.sig := rfl
@[simp] theorem State.onSig_vt (s : State) (f : Signals → Signals) : (s.onSig f).vt = s.vt := rfl
@[simp] theorem State.onSig_entry (s : State) (f : Signals → Signals) : (s.onSig f).entry = s.entry := rfl
@[simp] theorem State.onSig_brake (s : State) (f : Signals → Signals) : (s.onSig f).brake = s.brake := rfl
@[simp] theorem State.onSig_pedal (s : State) (f : Signals → Signals) : (s.onSig f).pedal = s.pedal := rfl
@[simp] theorem State.onSig_guide (s : State) (f : Signals → Signals) : (s.onSig f).guide = s.guide := rfl
@[simp] theorem State.onSig_traces (s : State) (f : Signals → Signals) : (s.onSig f).traces = s.traces := rfl
@[simp] theorem State.onSig_cert (s : State) (f : Signals → Signals) : (s.onSig f).cert = s.cert := rfl
@[simp] theorem State.onSig_cal (s : State) (f : Signals → Signals) : (s.onSig f).cal = s.cal := rfl
@[simp] theorem State.onSig_port (s : State) (f : Signals → Signals) : (s.onSig f).port = s.port := rfl
@[simp] theorem State.onSig_eeprom (s : State) (f : Signals → Signals) : (s.onSig f).eeprom = s.eeprom := rfl
@[simp] theorem State.onSig_torn (s : State) (f : Signals → Signals) : (s.onSig f).torn = s.torn := rfl
@[simp] theorem State.onSig_work (s : State) (f : Signals → Signals) : (s.onSig f).work = s.work := rfl
@[simp] theorem State.onVt_pending (s : State) (f : VehicleTable → VehicleTable) : (s.onVt f).pending = s.pending := rfl
@[simp] theorem State.onVt_time (s : State) (f : VehicleTable → VehicleTable) : (s.onVt f).time = s.time := rfl
@[simp] theorem State.onVt_sig (s : State) (f : VehicleTable → VehicleTable) : (s.onVt f).sig = s.sig := rfl
@[simp] theorem State.onVt_vt (s : State) (f : VehicleTable → VehicleTable) : (s.onVt f).vt = f s.vt := rfl
@[simp] theorem State.onVt_entry (s : State) (f : VehicleTable → VehicleTable) : (s.onVt f).entry = s.entry := rfl
@[simp] theorem State.onVt_brake (s : State) (f : VehicleTable → VehicleTable) : (s.onVt f).brake = s.brake := rfl
@[simp] theorem State.onVt_pedal (s : State) (f : VehicleTable → VehicleTable) : (s.onVt f).pedal = s.pedal := rfl
@[simp] theorem State.onVt_guide (s : State) (f : VehicleTable → VehicleTable) : (s.onVt f).guide = s.guide := rfl
@[simp] theorem State.onVt_traces (s : State) (f : VehicleTable → VehicleTable) : (s.onVt f).traces = s.traces := rfl
@[simp] theorem State.onVt_cert (s : State) (f : VehicleTable → VehicleTable) : (s.onVt f).cert = s.cert := rfl
@[simp] theorem State.onVt_cal (s : State) (f : VehicleTable → VehicleTable) : (s.onVt f).cal = s.cal := rfl
@[simp] theorem State.onVt_port (s : State) (f : VehicleTable → VehicleTable) : (s.onVt f).port = s.port := rfl
@[simp] theorem State.onVt_eeprom (s : State) (f : VehicleTable → VehicleTable) : (s.onVt f).eeprom = s.eeprom := rfl
@[simp] theorem State.onVt_torn (s : State) (f : VehicleTable → VehicleTable) : (s.onVt f).torn = s.torn := rfl
@[simp] theorem State.onVt_work (s : State) (f : VehicleTable → VehicleTable) : (s.onVt f).work = s.work := rfl
@[simp] theorem State.onEntry_pending (s : State) (f : EntryStation → EntryStation) : (s.onEntry f).pending = s.pending := rfl
@[simp] theorem State.onEntry_time (s : State) (f : EntryStation → EntryStation) : (s.onEntry f).time = s.time := rfl
@[simp] theorem State.onEntry_sig (s : State) (f : EntryStation → EntryStation) : (s.onEntry f).sig = s.sig := rfl
@[simp] theorem State.onEntry_vt (s : State) (f : EntryStation → EntryStation) : (s.onEntry f).vt = s.vt := rfl
@[simp] theorem State.onEntry_entry (s : State) (f : EntryStation → EntryStation) : (s.onEntry f).entry = f s.entry := rfl
@[simp] theorem State.onEntry_brake (s : State) (f : EntryStation → EntryStation) : (s.onEntry f).brake = s.brake := rfl
@[simp] theorem State.onEntry_pedal (s : State) (f : EntryStation → EntryStation) : (s.onEntry f).pedal = s.pedal := rfl
@[simp] theorem State.onEntry_guide (s : State) (f : EntryStation → EntryStation) : (s.onEntry f).guide = s.guide := rfl
@[simp] theorem State.onEntry_traces (s : State) (f : EntryStation → EntryStation) : (s.onEntry f).traces = s.traces := rfl
@[simp] theorem State.onEntry_cert (s : State) (f : EntryStation → EntryStation) : (s.onEntry f).cert = s.cert := rfl
@[simp] theorem State.onEntry_cal (s : State) (f : EntryStation → EntryStation) : (s.onEntry f).cal = s.cal := rfl
@[simp] theorem State.onEntry_port (s : State) (f : EntryStation → EntryStation) : (s.onEntry f).port = s.port := rfl
@[simp] theorem State.onEntry_eeprom (s : State) (f : EntryStation → EntryStation) : (s.onEntry f).eeprom = s.eeprom := rfl
@[simp] theorem State.onEntry_torn (s : State) (f : EntryStation → EntryStation) : (s.onEntry f).torn = s.torn := rfl
@[simp] theorem State.onEntry_work (s : State) (f : EntryStation → EntryStation) : (s.onEntry f).work = s.work := rfl
@[simp] theorem State.onBrake_pending (s : State) (f : BrakeStation → BrakeStation) : (s.onBrake f).pending = s.pending := rfl
@[simp] theorem State.onBrake_time (s : State) (f : BrakeStation → BrakeStation) : (s.onBrake f).time = s.time := rfl
@[simp] theorem State.onBrake_sig (s : State) (f : BrakeStation → BrakeStation) : (s.onBrake f).sig = s.sig := rfl
@[simp] theorem State.onBrake_vt (s : State) (f : BrakeStation → BrakeStation) : (s.onBrake f).vt = s.vt := rfl
@[simp] theorem State.onBrake_entry (s : State) (f : BrakeStation → BrakeStation) : (s.onBrake f).entry = s.entry := rfl
@[simp] theorem State.onBrake_brake (s : State) (f : BrakeStation → BrakeStation) : (s.onBrake f).brake = f s.brake := rfl
@[simp] theorem State.onBrake_pedal (s : State) (f : BrakeStation → BrakeStation) : (s.onBrake f).pedal = s.pedal := rfl
@[simp] theorem State.onBrake_guide (s : State) (f : BrakeStation → BrakeStation) : (s.onBrake f).guide = s.guide := rfl
@[simp] theorem State.onBrake_traces (s : State) (f : BrakeStation → BrakeStation) : (s.onBrake f).traces = s.traces := rfl
@[simp] theorem State.onBrake_cert (s : State) (f : BrakeStation → BrakeStation) : (s.onBrake f).cert = s.cert := rfl
@[simp] theorem State.onBrake_cal (s : State) (f : BrakeStation → BrakeStation) : (s.onBrake f).cal = s.cal := rfl
@[simp] theorem State.onBrake_port (s : State) (f : BrakeStation → BrakeStation) : (s.onBrake f).port = s.port := rfl
@[simp] theorem State.onBrake_eeprom (s : State) (f : BrakeStation → BrakeStation) : (s.onBrake f).eeprom = s.eeprom := rfl
@[simp] theorem State.onBrake_torn (s : State) (f : BrakeStation → BrakeStation) : (s.onBrake f).torn = s.torn := rfl
@[simp] theorem State.onBrake_work (s : State) (f : BrakeStation → BrakeStation) : (s.onBrake f).work = s.work := rfl
@[simp] theorem State.onPedal_pending (s : State) (f : PedalLink → PedalLink) : (s.onPedal f).pending = s.pending := rfl
@[simp] theorem State.onPedal_time (s : State) (f : PedalLink → PedalLink) : (s.onPedal f).time = s.time := rfl
@[simp] theorem State.onPedal_sig (s : State) (f : PedalLink → PedalLink) : (s.onPedal f).sig = s.sig := rfl
@[simp] theorem State.onPedal_vt (s : State) (f : PedalLink → PedalLink) : (s.onPedal f).vt = s.vt := rfl
@[simp] theorem State.onPedal_entry (s : State) (f : PedalLink → PedalLink) : (s.onPedal f).entry = s.entry := rfl
@[simp] theorem State.onPedal_brake (s : State) (f : PedalLink → PedalLink) : (s.onPedal f).brake = s.brake := rfl
@[simp] theorem State.onPedal_pedal (s : State) (f : PedalLink → PedalLink) : (s.onPedal f).pedal = f s.pedal := rfl
@[simp] theorem State.onPedal_guide (s : State) (f : PedalLink → PedalLink) : (s.onPedal f).guide = s.guide := rfl
@[simp] theorem State.onPedal_traces (s : State) (f : PedalLink → PedalLink) : (s.onPedal f).traces = s.traces := rfl
@[simp] theorem State.onPedal_cert (s : State) (f : PedalLink → PedalLink) : (s.onPedal f).cert = s.cert := rfl
@[simp] theorem State.onPedal_cal (s : State) (f : PedalLink → PedalLink) : (s.onPedal f).cal = s.cal := rfl
@[simp] theorem State.onPedal_port (s : State) (f : PedalLink → PedalLink) : (s.onPedal f).port = s.port := rfl
@[simp] theorem State.onPedal_eeprom (s : State) (f : PedalLink → PedalLink) : (s.onPedal f).eeprom = s.eeprom := rfl
@[simp] theorem State.onPedal_torn (s : State) (f : PedalLink → PedalLink) : (s.onPedal f).torn = s.torn := rfl
@[simp] theorem State.onPedal_work (s : State) (f : PedalLink → PedalLink) : (s.onPedal f).work = s.work := rfl
@[simp] theorem State.onGuide_pending (s : State) (f : Guidance → Guidance) : (s.onGuide f).pending = s.pending := rfl
@[simp] theorem State.onGuide_time (s : State) (f : Guidance → Guidance) : (s.onGuide f).time = s.time := rfl
@[simp] theorem State.onGuide_sig (s : State) (f : Guidance → Guidance) : (s.onGuide f).sig = s.sig := rfl
@[simp] theorem State.onGuide_vt (s : State) (f : Guidance → Guidance) : (s.onGuide f).vt = s.vt := rfl
@[simp] theorem State.onGuide_entry (s : State) (f : Guidance → Guidance) : (s.onGuide f).entry = s.entry := rfl
@[simp] theorem State.onGuide_brake (s : State) (f : Guidance → Guidance) : (s.onGuide f).brake = s.brake := rfl
@[simp] theorem State.onGuide_pedal (s : State) (f : Guidance → Guidance) : (s.onGuide f).pedal = s.pedal := rfl
@[simp] theorem State.onGuide_guide (s : State) (f : Guidance → Guidance) : (s.onGuide f).guide = f s.guide := rfl
@[simp] theorem State.onGuide_traces (s : State) (f : Guidance → Guidance) : (s.onGuide f).traces = s.traces := rfl
@[simp] theorem State.onGuide_cert (s : State) (f : Guidance → Guidance) : (s.onGuide f).cert = s.cert := rfl
@[simp] theorem State.onGuide_cal (s : State) (f : Guidance → Guidance) : (s.onGuide f).cal = s.cal := rfl
@[simp] theorem State.onGuide_port (s : State) (f : Guidance → Guidance) : (s.onGuide f).port = s.port := rfl
@[simp] theorem State.onGuide_eeprom (s : State) (f : Guidance → Guidance) : (s.onGuide f).eeprom = s.eeprom := rfl
@[simp] theorem State.onGuide_torn (s : State) (f : Guidance → Guidance) : (s.onGuide f).torn = s.torn := rfl
@[simp] theorem State.onGuide_work (s : State) (f : Guidance → Guidance) : (s.onGuide f).work = s.work := rfl
@[simp] theorem State.onTraces_pending (s : State) (f : TraceStore → TraceStore) : (s.onTraces f).pending = s.pending := rfl
@[simp] theorem State.onTraces_time (s : State) (f : TraceStore → TraceStore) : (s.onTraces f).time = s.time := rfl
@[simp] theorem State.onTraces_sig (s : State) (f : TraceStore → TraceStore) : (s.onTraces f).sig = s.sig := rfl
@[simp] theorem State.onTraces_vt (s : State) (f : TraceStore → TraceStore) : (s.onTraces f).vt = s.vt := rfl
@[simp] theorem State.onTraces_entry (s : State) (f : TraceStore → TraceStore) : (s.onTraces f).entry = s.entry := rfl
@[simp] theorem State.onTraces_brake (s : State) (f : TraceStore → TraceStore) : (s.onTraces f).brake = s.brake := rfl
@[simp] theorem State.onTraces_pedal (s : State) (f : TraceStore → TraceStore) : (s.onTraces f).pedal = s.pedal := rfl
@[simp] theorem State.onTraces_guide (s : State) (f : TraceStore → TraceStore) : (s.onTraces f).guide = s.guide := rfl
@[simp] theorem State.onTraces_traces (s : State) (f : TraceStore → TraceStore) : (s.onTraces f).traces = f s.traces := rfl
@[simp] theorem State.onTraces_cert (s : State) (f : TraceStore → TraceStore) : (s.onTraces f).cert = s.cert := rfl
@[simp] theorem State.onTraces_cal (s : State) (f : TraceStore → TraceStore) : (s.onTraces f).cal = s.cal := rfl
@[simp] theorem State.onTraces_port (s : State) (f : TraceStore → TraceStore) : (s.onTraces f).port = s.port := rfl
@[simp] theorem State.onTraces_eeprom (s : State) (f : TraceStore → TraceStore) : (s.onTraces f).eeprom = s.eeprom := rfl
@[simp] theorem State.onTraces_torn (s : State) (f : TraceStore → TraceStore) : (s.onTraces f).torn = s.torn := rfl
@[simp] theorem State.onTraces_work (s : State) (f : TraceStore → TraceStore) : (s.onTraces f).work = s.work := rfl
@[simp] theorem State.onCert_pending (s : State) (f : CertUnit → CertUnit) : (s.onCert f).pending = s.pending := rfl
@[simp] theorem State.onCert_time (s : State) (f : CertUnit → CertUnit) : (s.onCert f).time = s.time := rfl
@[simp] theorem State.onCert_sig (s : State) (f : CertUnit → CertUnit) : (s.onCert f).sig = s.sig := rfl
@[simp] theorem State.onCert_vt (s : State) (f : CertUnit → CertUnit) : (s.onCert f).vt = s.vt := rfl
@[simp] theorem State.onCert_entry (s : State) (f : CertUnit → CertUnit) : (s.onCert f).entry = s.entry := rfl
@[simp] theorem State.onCert_brake (s : State) (f : CertUnit → CertUnit) : (s.onCert f).brake = s.brake := rfl
@[simp] theorem State.onCert_pedal (s : State) (f : CertUnit → CertUnit) : (s.onCert f).pedal = s.pedal := rfl
@[simp] theorem State.onCert_guide (s : State) (f : CertUnit → CertUnit) : (s.onCert f).guide = s.guide := rfl
@[simp] theorem State.onCert_traces (s : State) (f : CertUnit → CertUnit) : (s.onCert f).traces = s.traces := rfl
@[simp] theorem State.onCert_cert (s : State) (f : CertUnit → CertUnit) : (s.onCert f).cert = f s.cert := rfl
@[simp] theorem State.onCert_cal (s : State) (f : CertUnit → CertUnit) : (s.onCert f).cal = s.cal := rfl
@[simp] theorem State.onCert_port (s : State) (f : CertUnit → CertUnit) : (s.onCert f).port = s.port := rfl
@[simp] theorem State.onCert_eeprom (s : State) (f : CertUnit → CertUnit) : (s.onCert f).eeprom = s.eeprom := rfl
@[simp] theorem State.onCert_torn (s : State) (f : CertUnit → CertUnit) : (s.onCert f).torn = s.torn := rfl
@[simp] theorem State.onCert_work (s : State) (f : CertUnit → CertUnit) : (s.onCert f).work = s.work := rfl
@[simp] theorem State.onCal_pending (s : State) (f : CalStore → CalStore) : (s.onCal f).pending = s.pending := rfl
@[simp] theorem State.onCal_time (s : State) (f : CalStore → CalStore) : (s.onCal f).time = s.time := rfl
@[simp] theorem State.onCal_sig (s : State) (f : CalStore → CalStore) : (s.onCal f).sig = s.sig := rfl
@[simp] theorem State.onCal_vt (s : State) (f : CalStore → CalStore) : (s.onCal f).vt = s.vt := rfl
@[simp] theorem State.onCal_entry (s : State) (f : CalStore → CalStore) : (s.onCal f).entry = s.entry := rfl
@[simp] theorem State.onCal_brake (s : State) (f : CalStore → CalStore) : (s.onCal f).brake = s.brake := rfl
@[simp] theorem State.onCal_pedal (s : State) (f : CalStore → CalStore) : (s.onCal f).pedal = s.pedal := rfl
@[simp] theorem State.onCal_guide (s : State) (f : CalStore → CalStore) : (s.onCal f).guide = s.guide := rfl
@[simp] theorem State.onCal_traces (s : State) (f : CalStore → CalStore) : (s.onCal f).traces = s.traces := rfl
@[simp] theorem State.onCal_cert (s : State) (f : CalStore → CalStore) : (s.onCal f).cert = s.cert := rfl
@[simp] theorem State.onCal_cal (s : State) (f : CalStore → CalStore) : (s.onCal f).cal = f s.cal := rfl
@[simp] theorem State.onCal_port (s : State) (f : CalStore → CalStore) : (s.onCal f).port = s.port := rfl
@[simp] theorem State.onCal_eeprom (s : State) (f : CalStore → CalStore) : (s.onCal f).eeprom = s.eeprom := rfl
@[simp] theorem State.onCal_torn (s : State) (f : CalStore → CalStore) : (s.onCal f).torn = s.torn := rfl
@[simp] theorem State.onCal_work (s : State) (f : CalStore → CalStore) : (s.onCal f).work = s.work := rfl
@[simp] theorem State.onPort_pending (s : State) (f : HostPort → HostPort) : (s.onPort f).pending = s.pending := rfl
@[simp] theorem State.onPort_time (s : State) (f : HostPort → HostPort) : (s.onPort f).time = s.time := rfl
@[simp] theorem State.onPort_sig (s : State) (f : HostPort → HostPort) : (s.onPort f).sig = s.sig := rfl
@[simp] theorem State.onPort_vt (s : State) (f : HostPort → HostPort) : (s.onPort f).vt = s.vt := rfl
@[simp] theorem State.onPort_entry (s : State) (f : HostPort → HostPort) : (s.onPort f).entry = s.entry := rfl
@[simp] theorem State.onPort_brake (s : State) (f : HostPort → HostPort) : (s.onPort f).brake = s.brake := rfl
@[simp] theorem State.onPort_pedal (s : State) (f : HostPort → HostPort) : (s.onPort f).pedal = s.pedal := rfl
@[simp] theorem State.onPort_guide (s : State) (f : HostPort → HostPort) : (s.onPort f).guide = s.guide := rfl
@[simp] theorem State.onPort_traces (s : State) (f : HostPort → HostPort) : (s.onPort f).traces = s.traces := rfl
@[simp] theorem State.onPort_cert (s : State) (f : HostPort → HostPort) : (s.onPort f).cert = s.cert := rfl
@[simp] theorem State.onPort_cal (s : State) (f : HostPort → HostPort) : (s.onPort f).cal = s.cal := rfl
@[simp] theorem State.onPort_port (s : State) (f : HostPort → HostPort) : (s.onPort f).port = f s.port := rfl
@[simp] theorem State.onPort_eeprom (s : State) (f : HostPort → HostPort) : (s.onPort f).eeprom = s.eeprom := rfl
@[simp] theorem State.onPort_torn (s : State) (f : HostPort → HostPort) : (s.onPort f).torn = s.torn := rfl
@[simp] theorem State.onPort_work (s : State) (f : HostPort → HostPort) : (s.onPort f).work = s.work := rfl
@[simp] theorem State.onWork_pending (s : State) (f : Work → Work) : (s.onWork f).pending = s.pending := rfl
@[simp] theorem State.onWork_time (s : State) (f : Work → Work) : (s.onWork f).time = s.time := rfl
@[simp] theorem State.onWork_sig (s : State) (f : Work → Work) : (s.onWork f).sig = s.sig := rfl
@[simp] theorem State.onWork_vt (s : State) (f : Work → Work) : (s.onWork f).vt = s.vt := rfl
@[simp] theorem State.onWork_entry (s : State) (f : Work → Work) : (s.onWork f).entry = s.entry := rfl
@[simp] theorem State.onWork_brake (s : State) (f : Work → Work) : (s.onWork f).brake = s.brake := rfl
@[simp] theorem State.onWork_pedal (s : State) (f : Work → Work) : (s.onWork f).pedal = s.pedal := rfl
@[simp] theorem State.onWork_guide (s : State) (f : Work → Work) : (s.onWork f).guide = s.guide := rfl
@[simp] theorem State.onWork_traces (s : State) (f : Work → Work) : (s.onWork f).traces = s.traces := rfl
@[simp] theorem State.onWork_cert (s : State) (f : Work → Work) : (s.onWork f).cert = s.cert := rfl
@[simp] theorem State.onWork_cal (s : State) (f : Work → Work) : (s.onWork f).cal = s.cal := rfl
@[simp] theorem State.onWork_port (s : State) (f : Work → Work) : (s.onWork f).port = s.port := rfl
@[simp] theorem State.onWork_eeprom (s : State) (f : Work → Work) : (s.onWork f).eeprom = s.eeprom := rfl
@[simp] theorem State.onWork_torn (s : State) (f : Work → Work) : (s.onWork f).torn = s.torn := rfl
@[simp] theorem State.onWork_work (s : State) (f : Work → Work) : (s.onWork f).work = f s.work := rfl
@[simp] theorem State.setEeprom_pending (s : State) (m : Eeprom) : (s.setEeprom m).pending = s.pending := rfl
@[simp] theorem State.setEeprom_time (s : State) (m : Eeprom) : (s.setEeprom m).time = s.time := rfl
@[simp] theorem State.setEeprom_sig (s : State) (m : Eeprom) : (s.setEeprom m).sig = s.sig := rfl
@[simp] theorem State.setEeprom_vt (s : State) (m : Eeprom) : (s.setEeprom m).vt = s.vt := rfl
@[simp] theorem State.setEeprom_entry (s : State) (m : Eeprom) : (s.setEeprom m).entry = s.entry := rfl
@[simp] theorem State.setEeprom_brake (s : State) (m : Eeprom) : (s.setEeprom m).brake = s.brake := rfl
@[simp] theorem State.setEeprom_pedal (s : State) (m : Eeprom) : (s.setEeprom m).pedal = s.pedal := rfl
@[simp] theorem State.setEeprom_guide (s : State) (m : Eeprom) : (s.setEeprom m).guide = s.guide := rfl
@[simp] theorem State.setEeprom_traces (s : State) (m : Eeprom) : (s.setEeprom m).traces = s.traces := rfl
@[simp] theorem State.setEeprom_cert (s : State) (m : Eeprom) : (s.setEeprom m).cert = s.cert := rfl
@[simp] theorem State.setEeprom_cal (s : State) (m : Eeprom) : (s.setEeprom m).cal = s.cal := rfl
@[simp] theorem State.setEeprom_port (s : State) (m : Eeprom) : (s.setEeprom m).port = s.port := rfl
@[simp] theorem State.setEeprom_eeprom (s : State) (m : Eeprom) : (s.setEeprom m).eeprom = m := rfl
@[simp] theorem State.setEeprom_torn (s : State) (m : Eeprom) : (s.setEeprom m).torn = s.torn := rfl
@[simp] theorem State.setEeprom_work (s : State) (m : Eeprom) : (s.setEeprom m).work = s.work := rfl
@[simp] theorem State.setTorn_pending (s : State) (n : Nat) : (s.setTorn n).pending = s.pending := rfl
@[simp] theorem State.setTorn_time (s : State) (n : Nat) : (s.setTorn n).time = s.time := rfl
@[simp] theorem State.setTorn_sig (s : State) (n : Nat) : (s.setTorn n).sig = s.sig := rfl
@[simp] theorem State.setTorn_vt (s : State) (n : Nat) : (s.setTorn n).vt = s.vt := rfl
@[simp] theorem State.setTorn_entry (s : State) (n : Nat) : (s.setTorn n).entry = s.entry := rfl
@[simp] theorem State.setTorn_brake (s : State) (n : Nat) : (s.setTorn n).brake = s.brake := rfl
@[simp] theorem State.setTorn_pedal (s : State) (n : Nat) : (s.setTorn n).pedal = s.pedal := rfl
@[simp] theorem State.setTorn_guide (s : State) (n : Nat) : (s.setTorn n).guide = s.guide := rfl
@[simp] theorem State.setTorn_traces (s : State) (n : Nat) : (s.setTorn n).traces = s.traces := rfl
@[simp] theorem State.setTorn_cert (s : State) (n : Nat) : (s.setTorn n).cert = s.cert := rfl
@[simp] theorem State.setTorn_cal (s : State) (n : Nat) : (s.setTorn n).cal = s.cal := rfl
@[simp] theorem State.setTorn_port (s : State) (n : Nat) : (s.setTorn n).port = s.port := rfl
@[simp] theorem State.setTorn_eeprom (s : State) (n : Nat) : (s.setTorn n).eeprom = s.eeprom := rfl
@[simp] theorem State.setTorn_torn (s : State) (n : Nat) : (s.setTorn n).torn = n := rfl
@[simp] theorem State.setTorn_work (s : State) (n : Nat) : (s.setTorn n).work = s.work := rfl

end Sys2Proof.Machine
end

