-- ==== Sys2Proof/Laws/Settle.lean ====
section
/-! SUPPORT. What follows an event's own effect does nothing on a part at rest. -/

namespace Sys2Proof.Machine

theorem onWork_none (s : State) (h : s.work = Work.none) : s.onWork (fun _ => Work.none) = s := by
  cases s; simp_all [State.onWork]

theorem pumpWrites_rest (n : Nat) (s : State) (h : s.cal.writing.isSome ∨ s.cal.queue = []) :
    pumpWrites (n + 1) s = s := by
  have hb : s.cal.beginWrite s.now = s.cal := by
    unfold CalStore.beginWrite
    split <;> simp_all
  have hf : (s.cal.writing.isNone && s.cal.commitFails) = false := by
    rcases h with h | h
    · simp [Option.isSome_iff_ne_none.mp h]
    · simp [CalStore.commitFails, h]
  unfold pumpWrites
  rw [hf]
  cases s; simp_all [State.onCal]

/-- Calm is a property of what is owed, the store, the channels' functions and the two stations' states. -/
theorem Calm.of_eq {s t : State} (h : Calm s) (hw : t.work = s.work) (hc : t.cal = s.cal)
    (hs : t.sig.channels.map Channel.fn = s.sig.channels.map Channel.fn) (he : entryName t.entry = entryName s.entry)
    (hb : t.brake.state = s.brake.state) : Calm t := by
  refine ⟨hw ▸ h.1, hc ▸ h.2.1, ?_⟩
  intro c hcc
  have := h.2.2 c (by rw [← hc]; exact hcc)
  have key : (t.sig.channels.getD c.channel Channel.reset).fn = (s.sig.channels.getD c.channel Channel.reset).fn := by
    have e : ∀ l : List Channel, (l.getD c.channel Channel.reset).fn
        = (l.map Channel.fn).getD c.channel Channel.reset.fn := by
      intro l; simp [List.getD_eq_getElem?_getD]
    rw [e, e, hs]
  unfold channelBusy at this ⊢
  rw [key]
  revert this
  cases ownerOf (s.sig.channels.getD c.channel Channel.reset).fn with
  | none => simp
  | some st => cases st <;> simp [stationIdle, he, hb]

theorem settle_calm (s : State) (h : Calm s) : settle s = s := by
  obtain ⟨hw, hq, hc⟩ := h
  have hg : guardCollection s = s := by
    unfold guardCollection
    split
    · rfl
    · next c heq => simp [hc c heq]
  simp [settle, settleWrites, pumpWrites_rest _ _ hq, settleHead, settleRetry, settleRematch, hg,
    settleGuidance, hw, Work.none]
  exact onWork_none s hw

/-- A command whose effect leaves the part calm answers that effect. -/
theorem finish_calm (s : State) (h : Calm s) : finish s = .next s := by rw [finish, settle_calm s h]

end Sys2Proof.Machine
end

