-- ==== Sys2Proof/Laws/Requests.lean ====
section
/-! SUPPORT. A host request between the Host Port and its owner: what `atOwner` changes, and what an answer is. -/

namespace Sys2Proof.Machine

/-- The owner meets the state with the request out of the Host Port's hands; nothing else differs. -/
theorem atOwner_eq (i : Instr) (s : State) : atOwner i s = { s with port := (atOwner i s).port } := by
  unfold atOwner; split <;> rfl

theorem atOwner_replies (i : Instr) (s : State) : (atOwner i s).port.replies = s.port.replies := by
  unfold atOwner; split <;> rfl

theorem calm_atOwner (i : Instr) (s : State) (h : Calm s) : Calm (atOwner i s) := by
  rw [atOwner_eq]; exact Calm.of_eq h rfl rfl rfl rfl rfl

/-- R191: an owner that answers leaves its effect and one reply, once the part is at rest again. -/
theorem answer_next (i : Instr) (k t : Nat) (op : State → Handled) (s : State) (st : Status) (b : ReplyBody)
    (u : State) (hr : reachesOwner i s = true) (ho : op (atOwner i s) = { reply := some (st, b), state := u })
    (hu : Calm u) : finish (answer i k t op s) = .next (postReply k t st b u) := by
  unfold answer
  rw [if_pos hr, ho]
  exact finish_calm _ (Calm.of_eq hu rfl rfl rfl rfl rfl)

/-- A request whose owner answers later leaves its effect without a reply. -/
theorem answer_withheld (i : Instr) (k t : Nat) (op : State → Handled) (s : State) (u : State)
    (hr : reachesOwner i s = true) (ho : op (atOwner i s) = { reply := none, state := u }) :
    answer i k t op s = u := by
  unfold answer
  rw [if_pos hr, ho]
  rfl

/-- A request that cannot reach its owner changes nothing. -/
theorem answer_waits (i : Instr) (k t : Nat) (op : State → Handled) (s : State) (hr : reachesOwner i s = false) :
    answer i k t op s = s := by
  unfold answer; rw [if_neg (by simp [hr])]

end Sys2Proof.Machine
end

