-- ==== Sys2Proof/Laws/Accept.lean ====
section
/-! SUPPORT. The checks of SET_CONFIG, SET_CHANNELS and SET_LINES as the machine makes them are the conditions that
R196, R32 and R40 put on the operands, those of the calibration records are the ranges of R177, and those of LOAD_CLASS,
LOAD_PROGRAM and SET_CLOCK the ranges of R24, R124 and R28. -/

namespace Sys2Proof.Machine

/-! ## Lists of operands -/

theorem distinct_iff (l : List Nat) : distinct l = true ↔ l.Nodup := by
  induction l with
  | nil => simp [distinct]
  | cons a l ih => simp [distinct, ih]

/-- A list is read exactly when each of its entries is. -/
theorem readAll_isSome {α β : Type} (f : α → Option β) (l : List α) :
    (readAll f l).isSome = true ↔ ∀ a ∈ l, (f a).isSome = true := by
  induction l with
  | nil => simp [readAll]
  | cons a l ih =>
    cases ha : f a <;> cases hl : readAll f l <;> simp_all [readAll]

/-- The entries read, in order. -/
theorem readAll_eq_some {α β : Type} {f : α → Option β} {l : List α} {m : List β} (h : readAll f l = some m) :
    l.map f = m.map some := by
  induction l generalizing m with
  | nil => cases h; rfl
  | cons a l ih =>
    cases ha : f a <;> cases hl : readAll f l <;> simp_all [readAll]
    subst h; simp

/-! ## SET_CONFIG (R196) -/

theorem carried_eq_some {es : List (Nat × Nat)} (h : (es.map Prod.fst).Nodup) (i v : Nat) :
    carried es i = some v ↔ (i, v) ∈ es := by
  induction es with
  | nil => simp [carried]
  | cons e es ih =>
    obtain ⟨j, w⟩ := e
    simp only [List.map_cons, List.nodup_cons] at h
    have ih := ih h.2
    unfold carried at ih ⊢
    by_cases hj : j = i
    · subst hj
      have hn : (j, v) ∉ es := fun hm => h.1 (List.mem_map.mpr ⟨_, hm, rfl⟩)
      simp [hn, eq_comm]
    · simp [hj, ih, Ne.symm hj]

theorem carried_eq_none {es : List (Nat × Nat)} (h : (es.map Prod.fst).Nodup) (i : Nat) :
    carried es i = none ↔ ∀ v, (i, v) ∉ es := by
  rw [Option.eq_none_iff_forall_ne_some]
  exact forall_congr' fun v => not_congr (carried_eq_some h i v)

/-- R196: the value of a setting as it would stand. -/
theorem standsAfter_iff {es : List (Nat × Nat)} (h : (es.map Prod.fst).Nodup) (i p v : Nat) :
    StandsAfter es i p v ↔ v = (carried es i).getD p := by
  unfold StandsAfter
  rw [← carried_eq_some h, ← carried_eq_none h]
  cases carried es i <;> simp [eq_comm]

/-- R196 check 2: the machine's range check is the rule's. -/
theorem settingOk_iff (i v : Nat) : settingOk i v = true ↔ 1 ≤ i ∧ i ≤ 18 ∧ SettingInRange i v := by
  by_cases h : 1 ≤ i ∧ i ≤ 18
  · have : i ∈ List.range' 1 18 := List.mem_range'_1.mpr (by omega)
    simp only [List.range', List.mem_cons, List.not_mem_nil, or_false] at this
    rcases this with rfl | rfl | rfl | rfl | rfl | rfl | rfl | rfl | rfl | rfl | rfl | rfl | rfl | rfl | rfl | rfl
      | rfl | rfl <;> simp [settingOk, SettingInRange]
  · have : settingOk i v = false := by
      unfold settingOk; split <;> first | omega | rfl
    simp only [this, Bool.false_eq_true, false_iff]; exact fun hh => h ⟨hh.1, hh.2.1⟩

/-- R196 checks 1 to 3. -/
theorem configFieldsOk_iff (es : List (Nat × Nat)) (s : State) : ConfigFieldsOk es s ↔
    (configListOk es && es.all (fun e => settingOk e.1 e.2) && jointOk es s) = true := by
  by_cases hn : (es.map Prod.fst).Nodup
  · have ha : (es.all fun e => settingOk e.1 e.2) = true ↔ ∀ e ∈ es, 1 ≤ e.1 ∧ e.1 ≤ 18 ∧ SettingInRange e.1 e.2 := by
      simp [List.all_eq_true, settingOk_iff]
    have hl : configListOk es = true ↔ 1 ≤ es.length ∧ es.length ≤ 18 ∧ ∀ e ∈ es, 1 ≤ e.1 ∧ e.1 ≤ 18 := by
      have h0 : es.isEmpty = false ↔ 1 ≤ es.length := by cases es <;> simp
      simp only [configListOk, Bool.and_eq_true, distinct_iff, hn, and_true, List.all_eq_true, decide_eq_true_eq,
        Bool.not_eq_true', h0, and_assoc]
    have hj : jointOk es s = true ↔ ((∃ e ∈ es, 12 ≤ e.1 ∧ e.1 ≤ 15) → ∀ l w, StandsAfter es 14 s.pedal.latency l →
        StandsAfter es 15 s.pedal.window w → l + w < 120) := by
      simp only [standsAfter_iff hn, forall_eq_apply_imp_iff, forall_eq, jointOk, Bool.or_eq_true, Bool.not_eq_true',
        List.any_eq_false, Bool.and_eq_true, decide_eq_true_eq]
      have e14 : afterwards es 14 s = (carried es 14).getD s.pedal.latency := rfl
      have e15 : afterwards es 15 s = (carried es 15).getD s.pedal.window := rfl
      rw [e14, e15]
      constructor
      · rintro (h | h)
        · rintro ⟨e, he, h12⟩; exact absurd h12 (h e he)
        · exact fun _ => h
      · intro h
        by_cases hx : ∃ e ∈ es, 12 ≤ e.1 ∧ e.1 ≤ 15
        · exact .inr (h hx)
        · exact .inl fun e he hh => hx ⟨e, he, hh⟩
    rw [Bool.and_eq_true, Bool.and_eq_true, hl, ha, hj]
    unfold ConfigFieldsOk
    constructor
    · rintro ⟨h1, h2, -, h4, h5⟩
      exact ⟨⟨⟨h1, h2, fun e he => ⟨(h4 e he).1, (h4 e he).2.1⟩⟩, h4⟩, h5⟩
    · rintro ⟨⟨⟨h1, h2, -⟩, h4⟩, h5⟩
      exact ⟨h1, h2, hn, h4, h5⟩
  · have : configListOk es = false := by
      cases h : configListOk es
      · rfl
      · simp only [configListOk, Bool.and_eq_true, distinct_iff] at h; exact absurd h.2 hn
    simp only [this, Bool.false_and, Bool.false_eq_true, iff_false]
    exact fun h => hn h.2.2.1

/-- R196 check 4. -/
theorem configStateOk_iff {es : List (Nat × Nat)} (h : (es.map Prod.fst).Nodup) (s : State) :
    ConfigStateOk es s ↔ dynMaxOk es s = true := by
  unfold ConfigStateOk dynMaxOk
  simp only [← carried_eq_some h]
  cases carried es 1 <;> simp

/-- R196 check 5. -/
theorem configIdleOk_iff {es : List (Nat × Nat)} (h : ∀ e ∈ es, 1 ≤ e.1 ∧ e.1 ≤ 18) (s : State) :
    ConfigIdleOk es s ↔ es.any (settingBusy s) = false := by
  unfold ConfigIdleOk
  rw [List.any_eq_false, Prod.forall]
  refine forall_congr' fun i => forall_congr' fun v => ?_
  by_cases hm : (i, v) ∈ es
  · have hi := h _ hm
    simp only [hm, true_implies, settingBusy, settingOwner]
    by_cases h8 : i = 8 ∨ i = 9
    · have : ¬ ((4 ≤ i ∧ i ≤ 7) ∨ (10 ≤ i ∧ i ≤ 15)) := by omega
      simp only [this, false_implies, and_true, h8, true_implies]
      rcases h8 with rfl | rfl <;> simp
    · by_cases h4 : (4 ≤ i ∧ i ≤ 7) ∨ (10 ≤ i ∧ i ≤ 15)
      · simp only [h8, h4, false_implies, true_and, true_implies]
        have e8 : (decide (i = 8) || decide (i = 9)) = false := by simpa using h8
        have e4 : ((decide (4 ≤ i) && decide (i ≤ 7)) || (decide (10 ≤ i) && decide (i ≤ 15))) = true := by simpa using h4
        simp [e8, e4]
      · have e8 : (decide (i = 8) || decide (i = 9)) = false := by simpa using h8
        have e4 : ((decide (4 ≤ i) && decide (i ≤ 7)) || (decide (10 ≤ i) && decide (i ≤ 15))) = false := by
          simp only [not_or, not_and] at h4
          simpa using h4
        simp [h8, h4, e8, e4]
  · simp [hm]

/-! ## Tables in which one function stands once (R31, R37) -/

/-- In a list whose entries but `u` stand once, the entries at two places are `u` when they are equal. -/
theorem distinct_codes {α : Type} [DecidableEq α] (order : List α) (u : α) (ho : ∀ x, x ∈ order) (l : List α) :
    distinct ((l.filter (fun x => x != u)).map (codeIn order)) = true ↔
      ∀ n m f, n < m → m < l.length → l[n]? = some f → l[m]? = some f → f = u := by
  have hinj : ∀ x y, codeIn order x = codeIn order y ↔ x = y := fun x y => by
    unfold codeIn
    exact ⟨fun h => (List.idxOf_inj (ho x)).mp h, fun h => by rw [h]⟩
  rw [distinct_iff, List.Nodup, List.pairwise_map, List.pairwise_filter, List.pairwise_iff_getElem]
  simp only [bne_iff_ne, ne_eq, hinj]
  constructor
  · intro h n m f hnm hm hn hf
    have hn' : n < l.length := by omega
    rw [List.getElem?_eq_getElem hn', Option.some.injEq] at hn
    rw [List.getElem?_eq_getElem hm, Option.some.injEq] at hf
    by_contra hu
    exact h n m hn' hm hnm (by rw [hn]; exact hu) (by rw [hf]; exact hu) (by rw [hn, hf])
  · intro h i j hi hj hij hiu _ he
    exact hiu (h i j _ hij hj (List.getElem?_eq_getElem hi) (by rw [he]; exact List.getElem?_eq_getElem hj))

/-! ## SET_CHANNELS (R32) -/

/-- R32: the function of each channel after assignments that name none twice. -/
theorem assignChannels_fn {as : List (Nat × ChannelFn)} (h : (as.map Prod.fst).Nodup) (cs : List Channel) (n : Nat)
    (f : ChannelFn) (hn : n < cs.length) : ((assignChannels as cs).map Channel.fn)[n]? = some f ↔
      (n, f) ∈ as ∨ ((∀ g, (n, g) ∉ as) ∧ (cs.map Channel.fn)[n]? = some f) := by
  induction as generalizing cs with
  | nil => simp [assignChannels]
  | cons a as ih =>
    obtain ⟨k, g⟩ := a
    simp only [List.map_cons, List.nodup_cons] at h
    have hk : ∀ g', (k, g') ∉ as := fun g' hm => h.1 (List.mem_map.mpr ⟨_, hm, rfl⟩)
    have e : assignChannels ((k, g) :: as) cs = assignChannels as (tableMod cs k (fun c => { c with fn := g })) := rfl
    rw [e, ih h.2 _ (by simpa [tableMod] using hn)]
    by_cases hnk : n = k
    · subst hnk
      have hgm : ((tableMod cs n (fun c => { c with fn := g })).map Channel.fn)[n]? = some g := by
        simp [tableMod, List.getElem?_eq_getElem hn]
      rw [hgm]
      constructor
      · rintro (h1 | ⟨-, h2⟩)
        · exact absurd h1 (hk f)
        · exact .inl (by cases h2; simp)
      · rintro (h1 | ⟨h1, -⟩)
        · rcases List.mem_cons.mp h1 with h1 | h1
          · cases h1; exact .inr ⟨hk, rfl⟩
          · exact absurd h1 (hk f)
        · exact absurd (List.mem_cons_self ..) (h1 g)
    · have hc : ((tableMod cs k (fun c => { c with fn := g })).map Channel.fn)[n]? = (cs.map Channel.fn)[n]? := by
        simp [tableMod, Ne.symm hnk]
      simp [hc, hnk]

theorem assignChannels_length (as : List (Nat × ChannelFn)) (cs : List Channel) :
    (assignChannels as cs).length = cs.length := by
  induction as generalizing cs with
  | nil => rfl
  | cons a as ih => exact (ih _).trans (by simp [tableMod])

/-- What reading the assignments says of each of them. -/
theorem readAll_assignments {as : List (Nat × Nat)} {bs : List (Nat × ChannelFn)}
    (h : readAll assignmentOf as = some bs) :
    bs.map Prod.fst = as.map Prod.fst ∧ (∀ a ∈ as, a.1 ≤ 15 ∧ a.2 ≤ 5)
      ∧ ∀ n f, (n, f) ∈ bs ↔ ∃ k, (n, k) ∈ as ∧ ofCode channelFns k = some f := by
  induction as generalizing bs with
  | nil => cases h; simp
  | cons a as ih =>
    obtain ⟨k, c⟩ := a
    cases hf : ofCode channelFns c with
    | none => simp [readAll, assignmentOf, hf] at h
    | some g =>
      by_cases hk : k ≤ 15
      · cases hr : readAll assignmentOf as with
        | none => simp [readAll, assignmentOf, hf, hr] at h
        | some cs =>
          have hb : bs = (k, g) :: cs := by
            simpa [readAll, assignmentOf, hf, hk, hr] using h.symm
          subst hb
          obtain ⟨h1, h2, h3⟩ := ih hr
          have hc : c ≤ 5 := by
            have := (List.getElem?_eq_some_iff.mp hf).1
            simpa [channelFns] using Nat.le_of_lt_succ this
          refine ⟨by simp [h1], ?_, fun n f => ?_⟩
          · rintro a ha
            rcases List.mem_cons.mp ha with rfl | ha
            · exact ⟨hk, hc⟩
            · exact h2 a ha
          · simp only [List.mem_cons, h3, Prod.mk.injEq]
            constructor
            · rintro (⟨rfl, rfl⟩ | ⟨x, hx, hxf⟩)
              · exact ⟨c, .inl ⟨rfl, rfl⟩, hf⟩
              · exact ⟨x, .inr hx, hxf⟩
            · rintro ⟨x, ⟨rfl, rfl⟩ | hx, hxf⟩
              · exact .inl ⟨rfl, Option.some.inj (hxf.symm.trans hf)⟩
              · exact .inr ⟨x, hx, hxf⟩
      · simp [readAll, assignmentOf, hf, hk] at h

/-- An assignment out of range is not read. -/
theorem readAll_assignments_none {as : List (Nat × Nat)} (h : readAll assignmentOf as = none) :
    ¬ ∀ a ∈ as, a.1 ≤ 15 ∧ a.2 ≤ 5 := by
  intro ha
  have : (readAll assignmentOf as).isSome = true := (readAll_isSome _ _).mpr fun a hm => by
    obtain ⟨h1, h2⟩ := ha a hm
    have : a.2 < channelFns.length := by simpa [channelFns] using Nat.lt_succ_of_le h2
    simp [assignmentOf, ofCode, List.getElem?_eq_getElem this, h1]
  rw [h] at this
  cases this

theorem mem_channelFns (f : ChannelFn) : f ∈ channelFns := by cases f <;> decide

/-- R32 check 2. -/
theorem channelsDistinct_iff {as : List (Nat × Nat)} {bs : List (Nat × ChannelFn)} {s : State}
    (h : readAll assignmentOf as = some bs) (hn : (as.map Prod.fst).Nodup) :
    channelsDistinct (assignChannels bs s.sig.channels) = true ↔
      ∀ n m f, n < m → m < s.sig.channels.length → ChannelAfter as s n f → ChannelAfter as s m f → f = .unused := by
  obtain ⟨h1, -, h3⟩ := readAll_assignments h
  have hb : (bs.map Prod.fst).Nodup := h1 ▸ hn
  have e : ∀ l : List Channel, channelsDistinct l
      = distinct (((l.map Channel.fn).filter (fun x => x != .unused)).map (codeIn channelFns)) := fun l => by
    unfold channelsDistinct; rw [List.filter_map, List.map_map]; rfl
  have ha : ∀ n f, n < s.sig.channels.length →
      (((assignChannels bs s.sig.channels).map Channel.fn)[n]? = some f ↔ ChannelAfter as s n f) := fun n f hl => by
    rw [assignChannels_fn hb _ _ _ hl, h3]
    refine or_congr Iff.rfl (and_congr ⟨fun hx k hk => ?_, fun hx g hg => ?_⟩ Iff.rfl)
    · obtain ⟨-, h2, -⟩ := readAll_assignments h
      have : k < channelFns.length := by simpa [channelFns] using Nat.lt_succ_of_le (h2 _ hk).2
      exact hx _ ((h3 n channelFns[k]).mpr ⟨k, hk, List.getElem?_eq_getElem this⟩)
    · obtain ⟨k, hk, -⟩ := (h3 n g).mp hg
      exact hx k hk
  rw [e, distinct_codes _ _ mem_channelFns]
  simp only [List.length_map, assignChannels_length]
  refine forall_congr' fun n => forall_congr' fun m => forall_congr' fun f => ?_
  refine ⟨fun hx h1 h2 h3 h4 => hx h1 h2 ((ha n f (by omega)).mpr h3) ((ha m f h2).mpr h4), fun hx h1 h2 h3 h4 =>
    hx h1 h2 ((ha n f (by omega)).mp h3) ((ha m f h2).mp h4)⟩

/-- R32 check 3. -/
theorem channelsIdleOk_iff {as : List (Nat × Nat)} {bs : List (Nat × ChannelFn)} {s : State}
    (h : readAll assignmentOf as = some bs) : ChannelsIdleOk as s ↔ bs.any (assignmentBusy s) = false := by
  obtain ⟨-, -, h3⟩ := readAll_assignments h
  have ho : ∀ f, ownerBusy f s = false ↔ ∀ st, ownerOf f = some st → stationIdle st s = true := fun f => by
    unfold ownerBusy; cases ownerOf f <;> simp
  have hold : ∀ n, ((s.sig.channels.map Channel.fn)[n]?).getD .unused = (s.sig.channels.getD n Channel.reset).fn :=
    fun n => by
      rw [List.getD_eq_getElem?_getD, List.getElem?_map]
      cases s.sig.channels[n]? <;> rfl
  rw [List.any_eq_false, Prod.forall]
  unfold ChannelsIdleOk
  simp only [hold, h3, assignmentBusy, Bool.and_eq_true, bne_iff_ne, ne_eq, Bool.or_eq_true, not_and, not_or,
    Bool.not_eq_true, ho]
  constructor
  · rintro hx n f ⟨k, hk, hf⟩ hne
    exact ⟨fun st hs => hx n k _ f hk hf rfl hne st (.inl hs), fun st hs => hx n k _ f hk hf rfl hne st (.inr hs)⟩
  · rintro hx n k old f hk hf rfl hne st (hs | hs)
    · exact (hx n f ⟨k, hk, hf⟩ hne).1 st hs
    · exact (hx n f ⟨k, hk, hf⟩ hne).2 st hs

/-- R32: SET_CHANNELS at Signal Acquisition, by the conditions on its operands. -/
theorem setChannelTable_cases (as : List (Nat × Nat)) (s : State) :
    (¬ ChannelsFieldsOk as s → setChannelTable as s = refuse .badField s)
    ∧ (ChannelsFieldsOk as s → ¬ ChannelsIdleOk as s → setChannelTable as s = refuse .busy s)
    ∧ (ChannelsFieldsOk as s → ChannelsIdleOk as s → (setChannelTable as s).reply = some (.ok, .none)) := by
  unfold setChannelTable
  cases h : readAll assignmentOf as with
  | none =>
    have := readAll_assignments_none h
    exact ⟨fun _ => rfl, fun hf => absurd hf.2.2.2.1 this, fun hf => absurd hf.2.2.2.1 this⟩
  | some bs =>
    obtain ⟨h1, h2, -⟩ := readAll_assignments h
    have hlen : bs.length = as.length := by simpa using congrArg List.length h1
    have hne : bs.isEmpty = false ↔ 1 ≤ as.length := by
      rw [← hlen]; cases bs <;> simp
    by_cases hc : 1 ≤ as.length ∧ as.length ≤ 16 ∧ (as.map Prod.fst).Nodup
    · have hg : (bs.isEmpty || decide (16 < bs.length) || !distinct (bs.map Prod.fst)) = false := by
        simp only [Bool.or_eq_false_iff, hne, decide_eq_false_iff_not, Bool.not_eq_false', distinct_iff, h1, hlen]
        exact ⟨⟨hc.1, by omega⟩, hc.2.2⟩
      have hd := channelsDistinct_iff (s := s) h hc.2.2
      have hi := channelsIdleOk_iff (s := s) h
      have hf : ChannelsFieldsOk as s ↔ channelsDistinct (assignChannels bs s.sig.channels) = true := by
        rw [hd]; exact ⟨fun x => x.2.2.2.2, fun x => ⟨hc.1, hc.2.1, hc.2.2, h2, x⟩⟩
      rw [hf, hi]
      simp only [hg]
      cases channelsDistinct (assignChannels bs s.sig.channels) <;> cases bs.any (assignmentBusy s) <;>
        simp [accept, acceptWith]
    · have hg : (bs.isEmpty || decide (16 < bs.length) || !distinct (bs.map Prod.fst)) = true := by
        rw [← Bool.not_eq_false]
        simp only [Bool.or_eq_false_iff, hne, decide_eq_false_iff_not, Bool.not_eq_false', distinct_iff, h1, hlen]
        exact fun x => hc ⟨x.1.1, by omega, x.2⟩
      have : ¬ ChannelsFieldsOk as s := fun x => hc ⟨x.1, x.2.1, x.2.2.1⟩
      simp [hg, this]

/-! ## SET_LINES (R40) -/

/-- R40: the lines after entries that name none twice. -/
theorem restartLines_fn {bs : List (Nat × LineFn × Level × Nat)} (h : (bs.map Prod.fst).Nodup) (now : LaneTime)
    (g : Signals) (n : Nat) (f : LineFn) (hn : n < g.lines.length) :
    ((bs.foldl (fun g e => restartLine now e g) g).lines.map Line.fn)[n]? = some f ↔
      (∃ x, (n, f, x) ∈ bs) ∨ ((∀ x, (n, x) ∉ bs) ∧ (g.lines.map Line.fn)[n]? = some f) := by
  induction bs generalizing g with
  | nil => simp
  | cons b bs ih =>
    obtain ⟨k, f', x'⟩ := b
    simp only [List.map_cons, List.nodup_cons] at h
    have hk : ∀ x, (k, x) ∉ bs := fun x hm => h.1 (List.mem_map.mpr ⟨_, hm, rfl⟩)
    rw [List.foldl_cons, ih h.2 _ (by simpa [restartLine] using hn)]
    by_cases hnk : n = k
    · subst hnk
      have hgm : ((restartLine now (n, f', x') g).lines.map Line.fn)[n]? = some f' := by
        simp [restartLine, hn]
      rw [hgm]
      constructor
      · rintro (⟨x, h1⟩ | ⟨-, h2⟩)
        · exact absurd h1 (hk _)
        · cases h2; exact .inl ⟨x', List.mem_cons_self ..⟩
      · rintro (⟨x, h1⟩ | ⟨h1, -⟩)
        · rcases List.mem_cons.mp h1 with h1 | h1
          · cases h1; exact .inr ⟨hk, rfl⟩
          · exact absurd h1 (hk _)
        · exact absurd (List.mem_cons_self ..) (h1 _)
    · have hc : ((restartLine now (k, f', x') g).lines.map Line.fn)[n]? = (g.lines.map Line.fn)[n]? := by
        simp [restartLine, List.getElem?_set_ne (Ne.symm hnk)]
      simp [hc, hnk]

theorem restartLines_length (bs : List (Nat × LineFn × Level × Nat)) (now : LaneTime) (g : Signals) :
    (bs.foldl (fun g e => restartLine now e g) g).lines.length = g.lines.length := by
  induction bs generalizing g with
  | nil => rfl
  | cons b bs ih => exact (ih _).trans (by simp [restartLine])

/-- What reading an entry says of it. -/
theorem lineOf_eq_some {e : RawLine} {b : Nat × LineFn × Level × Nat} (h : lineOf e = some b) :
    LineEntryOk e ∧ b.1 = e.line ∧ ofCode lineFns e.fn = some b.2.1 := by
  unfold lineOf at h
  cases hf : ofCode lineFns e.fn with
  | none => simp [hf] at h
  | some f =>
    cases hl : ofCode levels e.level with
    | none => simp [hf, hl] at h
    | some l =>
      simp only [hf, hl] at h
      split at h
      · next hc =>
        cases h
        simp only [Bool.and_eq_true, decide_eq_true_eq, Bool.or_eq_true, Bool.not_eq_true'] at hc
        have h1 := (List.getElem?_eq_some_iff.mp hf).1
        have h2 := (List.getElem?_eq_some_iff.mp hl).1
        refine ⟨⟨hc.1, by simpa [lineFns] using Nat.le_of_lt_succ h1, by simpa [levels] using Nat.le_of_lt_succ h2,
          fun f' hf' hi => ?_⟩, rfl, rfl⟩
        cases Option.some.inj (hf'.symm.trans hf)
        exact hc.2.resolve_left (by simp [hi])
      · cases h

theorem lineOf_isSome {e : RawLine} (h : LineEntryOk e) : (lineOf e).isSome = true := by
  obtain ⟨h1, h2, h3, h4⟩ := h
  have hf : e.fn < lineFns.length := by simpa [lineFns] using Nat.lt_succ_of_le h2
  have hl : e.level < levels.length := by simpa [levels] using Nat.lt_succ_of_le h3
  have ef : ofCode lineFns e.fn = some lineFns[e.fn] := List.getElem?_eq_getElem hf
  have el : ofCode levels e.level = some levels[e.level] := List.getElem?_eq_getElem hl
  have hc : (decide (e.line ≤ 23) && (!lineFns[e.fn].isInput || decide (e.debounce ≤ 250))) = true := by
    simp only [Bool.and_eq_true, decide_eq_true_eq, Bool.or_eq_true, Bool.not_eq_true']
    refine ⟨h1, ?_⟩
    cases hi : lineFns[e.fn].isInput
    · exact .inl rfl
    · exact .inr (h4 _ ef hi)
  simp only [lineOf, ef, el, hc, if_true, Option.isSome_some]

/-- What reading the entries says of each of them. -/
theorem readAll_lines {es : List RawLine} {bs : List (Nat × LineFn × Level × Nat)} (h : readAll lineOf es = some bs) :
    bs.map Prod.fst = es.map RawLine.line ∧ (∀ e ∈ es, LineEntryOk e)
      ∧ ∀ n f, (∃ x, (n, f, x) ∈ bs) ↔ ∃ e ∈ es, e.line = n ∧ ofCode lineFns e.fn = some f := by
  have hm := readAll_eq_some h
  have hmem : ∀ b, b ∈ bs ↔ ∃ e ∈ es, lineOf e = some b := fun b => by
    have : some b ∈ bs.map some ↔ some b ∈ es.map lineOf := by rw [hm]
    simpa using this
  refine ⟨?_, fun e he => ?_, fun n f => ?_⟩
  · have := congrArg (List.map (fun o => (o.map Prod.fst).getD 0)) hm
    simp only [List.map_map] at this
    have hb : bs.map ((fun o : Option (Nat × LineFn × Level × Nat) => (o.map Prod.fst).getD 0) ∘ some)
        = bs.map Prod.fst := List.map_congr_left fun _ _ => rfl
    rw [← hb, ← this]
    refine List.map_congr_left fun e he => ?_
    obtain ⟨b, hb⟩ := Option.isSome_iff_exists.mp ((readAll_isSome _ _).mp (by rw [h]; rfl) e he)
    simp [hb, (lineOf_eq_some hb).2.1]
  · obtain ⟨b, hb⟩ := Option.isSome_iff_exists.mp ((readAll_isSome _ _).mp (by rw [h]; rfl) e he)
    exact (lineOf_eq_some hb).1
  · constructor
    · rintro ⟨x, hx⟩
      obtain ⟨e, he, hb⟩ := (hmem _).mp hx
      exact ⟨e, he, (lineOf_eq_some hb).2.1.symm, (lineOf_eq_some hb).2.2⟩
    · rintro ⟨e, he, hl, hf⟩
      obtain ⟨b, hb⟩ := Option.isSome_iff_exists.mp ((readAll_isSome _ _).mp (by rw [h]; rfl) e he)
      obtain ⟨-, h1, h2⟩ := lineOf_eq_some hb
      obtain ⟨k, f', x⟩ := b
      cases Option.some.inj (hf.symm.trans h2)
      exact ⟨x, (hmem _).mpr ⟨e, he, by rw [hb]; simp [← hl, ← h1]⟩⟩

theorem mem_lineFns (f : LineFn) : f ∈ lineFns := by cases f <;> decide

/-- R40: SET_LINES, by the conditions on its operands. -/
theorem setLines_cases (es : List RawLine) (s : State) :
    (¬ LinesFieldsOk es s → setLines es s = refuse .badField s)
    ∧ (LinesFieldsOk es s → stationIdle .entry s = false ∨ stationIdle .brake s = false →
        setLines es s = refuse .busy s)
    ∧ (LinesFieldsOk es s → stationIdle .entry s = true → stationIdle .brake s = true →
        (setLines es s).reply = some (.ok, .none)) := by
  unfold setLines
  cases h : readAll lineOf es with
  | none =>
    have : ¬ ∀ e ∈ es, LineEntryOk e := fun ha => by
      have := (readAll_isSome lineOf es).mpr fun e he => lineOf_isSome (ha e he)
      rw [h] at this; cases this
    exact ⟨fun _ => rfl, fun hf => absurd hf.2.2.2.1 this, fun hf => absurd hf.2.2.2.1 this⟩
  | some bs =>
    obtain ⟨h1, h2, h3⟩ := readAll_lines h
    have hlen : bs.length = es.length := by simpa using congrArg List.length h1
    have hne : bs.isEmpty = false ↔ 1 ≤ es.length := by
      rw [← hlen]; cases bs <;> simp
    by_cases hc : 1 ≤ es.length ∧ es.length ≤ 24 ∧ (es.map RawLine.line).Nodup
    · have hg : (bs.isEmpty || decide (24 < bs.length) || !distinct (bs.map Prod.fst)) = false := by
        simp only [Bool.or_eq_false_iff, hne, decide_eq_false_iff_not, Bool.not_eq_false', distinct_iff, h1, hlen]
        exact ⟨⟨hc.1, by omega⟩, hc.2.2⟩
      have hb : (bs.map Prod.fst).Nodup := h1 ▸ hc.2.2
      have e : ∀ l : List Line, linesDistinct l
          = distinct (((l.map Line.fn).filter (fun x => x != .none)).map (codeIn lineFns)) := fun l => by
        unfold linesDistinct; rw [List.filter_map, List.map_map]; rfl
      have hno : ∀ n, (∀ x, (n, x) ∉ bs) ↔ ∀ e ∈ es, e.line ≠ n := fun n => by
        have : (∃ f x, (n, f, x) ∈ bs) ↔ ∃ e ∈ es, e.line = n := by
          constructor
          · rintro ⟨f, x, hx⟩
            obtain ⟨e, he, hl, -⟩ := (h3 n f).mp ⟨x, hx⟩
            exact ⟨e, he, hl⟩
          · rintro ⟨e, he, hl⟩
            have : e.fn < lineFns.length := by simpa [lineFns] using Nat.lt_succ_of_le (h2 e he).2.1
            obtain ⟨x, hx⟩ := (h3 n lineFns[e.fn]).mpr ⟨e, he, hl, List.getElem?_eq_getElem this⟩
            exact ⟨_, x, hx⟩
        constructor
        · rintro hx e he hl
          obtain ⟨f, x, hm⟩ := this.mpr ⟨e, he, hl⟩
          exact hx _ hm
        · rintro hx ⟨f, x⟩ hm
          obtain ⟨e, he, hl⟩ := this.mp ⟨f, x, hm⟩
          exact hx e he hl
      have ha : ∀ n f, n < s.sig.lines.length →
          (((bs.foldl (fun g e => restartLine s.now e g) s.sig).lines.map Line.fn)[n]? = some f ↔ LineAfter es s n f) :=
        fun n f hl => by
          rw [restartLines_fn hb _ _ _ _ hl, h3, hno]; rfl
      have hf : LinesFieldsOk es s ↔
          linesDistinct (bs.foldl (fun g e => restartLine s.now e g) s.sig).lines = true := by
        rw [e, distinct_codes _ _ mem_lineFns]
        simp only [List.length_map, restartLines_length]
        constructor
        · intro x n m f hnm hm h5 h6
          exact x.2.2.2.2 n m f hnm hm ((ha n f (by omega)).mp h5) ((ha m f hm).mp h6)
        · intro x
          exact ⟨hc.1, hc.2.1, hc.2.2, h2, fun n m f hnm hm h5 h6 =>
            x n m f hnm hm ((ha n f (by omega)).mpr h5) ((ha m f hm).mpr h6)⟩
      rw [hf]
      simp only [hg]
      have hs : (s.onSig fun g => bs.foldl (fun g e => restartLine s.now e g) g).sig
          = bs.foldl (fun g e => restartLine s.now e g) s.sig := rfl
      rw [hs]
      cases linesDistinct (bs.foldl (fun g e => restartLine s.now e g) s.sig).lines <;>
        cases stationIdle .entry s <;> cases stationIdle .brake s <;> simp [accept, acceptWith]
    · have hg : (bs.isEmpty || decide (24 < bs.length) || !distinct (bs.map Prod.fst)) = true := by
        rw [← Bool.not_eq_false]
        simp only [Bool.or_eq_false_iff, hne, decide_eq_false_iff_not, Bool.not_eq_false', distinct_iff, h1, hlen]
        exact fun x => hc ⟨x.1.1, by omega, x.2⟩
      have : ¬ LinesFieldsOk es s := fun x => hc ⟨x.1, x.2.1, x.2.2.1⟩
      simp [hg, this]

/-- R196: SET_CONFIG, by the conditions on its operands. -/
theorem setConfig_cases (es : List (Nat × Nat)) (s : State) :
    (¬ ConfigFieldsOk es s → setConfig es s = refuse .badField s)
    ∧ (ConfigFieldsOk es s → ¬ ConfigStateOk es s → setConfig es s = refuse .state s)
    ∧ (ConfigFieldsOk es s → ConfigStateOk es s → ¬ ConfigIdleOk es s → setConfig es s = refuse .busy s)
    ∧ (ConfigFieldsOk es s → ConfigStateOk es s → ConfigIdleOk es s →
        setConfig es s = accept (applyConfig es s)) := by
  have hf := configFieldsOk_iff es s
  unfold setConfig
  by_cases h : ConfigFieldsOk es s
  · have hs := configStateOk_iff h.2.2.1 s
    have hi := configIdleOk_iff (fun e he => ⟨(h.2.2.2.1 e he).1, (h.2.2.2.1 e he).2.1⟩) s
    have hb := hf.mp h
    simp only [Bool.and_eq_true] at hb
    rw [hs, hi]
    simp only [hb.1.1, hb.1.2, hb.2, h]
    cases dynMaxOk es s <;> cases es.any (settingBusy s) <;> simp
  · have hb : ¬ _ := fun x => h (hf.mpr x)
    simp only [h]
    cases h1 : configListOk es <;> cases h2 : es.all (fun e => settingOk e.1 e.2) <;> cases h3 : jointOk es s <;>
      simp_all

/-! ## Calibration records (R177) -/

theorem constantsOk_iff (dd ds plate speed : Nat) :
    constantsOk dd ds plate speed = true ↔ ConstantsInRange dd ds plate speed := by
  simp [constantsOk, ConstantsInRange, and_assoc]

theorem channelCalOk_iff (z g : Option Nat) (valid : Nat) :
    channelCalOk z g valid = true ↔ ChannelInRange z g valid := by
  cases z <;> cases g <;> by_cases h : valid = 1 <;>
    simp [channelCalOk, ChannelInRange, zcalOk, gainOk, h, and_assoc]

/-! ## LOAD_CLASS, LOAD_PROGRAM and SET_CLOCK (R24, R122, R124, R28) -/

theorem printable_iff (t : Text) : printable t = true ↔ ∀ x ∈ t, 32 ≤ x ∧ x ≤ 126 := by
  simp [printable, List.all_eq_true]

/-- R24: a class is read exactly when its fields are in their ranges, and it holds them. -/
theorem classOf_eq_some (r : RawClass) (e : ClassEntry) : classOf r = some e ↔ ClassInRange r ∧ e =
    { name := r.name, minServiceEff := r.minServiceEff, minParkingEff := r.minParkingEff, maxImbalance := r.maxImbalance,
      maxDrag := r.maxDrag, maxSideSlip := r.maxSideSlip, maxAxleWeight := r.maxAxleWeight, entryProgram := r.entryProgram,
      brakeProgram := r.brakeProgram, printCurves := r.printCurves == 1 } := by
  unfold classOf ClassInRange
  simp only [Option.ite_none_right_eq_some, Bool.and_eq_true, decide_eq_true_eq, printable_iff, Option.some.injEq, and_assoc,
    eq_comm (a := e)]

theorem gEvents_at (k : Nat) : gEvents[k]? = none ↔ 17 ≤ k := by simp [gEvents]

/-- R122, R199: a wait condition is read exactly when its kind and threshold are in their ranges. -/
theorem waitOf_isSome (k n : Nat) : (waitOf k n).isSome = true ↔
    (k ≤ 16 ∧ n = 0) ∨ (17 ≤ k ∧ k ≤ 19 ∧ n ≤ 65535) := by
  unfold waitOf
  cases h : gEvents[k]? with
  | some e =>
    have : ¬ 17 ≤ k := fun hk => by rw [(gEvents_at k).mpr hk] at h; cases h
    by_cases hn : n = 0 <;> simp [hn] <;> omega
  | none =>
    have := (gEvents_at k).mp h
    by_cases hn : n ≤ 65535
    · by_cases h7 : k = 17
      · simp [hn, h7]
      · by_cases h8 : k = 18
        · simp [hn, h8]
        · by_cases h9 : k = 19
          · simp [hn, h9]
          · simp [hn, h7, h8, h9]; omega
    · simp [hn]; omega

theorem successorOf_isSome (first last n : Nat) :
    (successorOf first last n).isSome = true ↔ n = 255 ∨ (first ≤ n ∧ n ≤ last) := by
  unfold successorOf
  by_cases h : n = 255 <;> by_cases h2 : first ≤ n ∧ n ≤ last <;> simp [h, h2]

theorem ofCode_isSome {α : Type} (l : List α) (n : Nat) : (ofCode l n).isSome = true ↔ n < l.length := by
  simp [ofCode]

/-- R122, R124: a step is read exactly when its fields are in their ranges. -/
theorem stepOf_isSome (first last : Nat) (r : RawStep) :
    (stepOf first last r).isSome = true ↔ StepInRange first last r := by
  have h1 := ofCode_isSome lamps r.red
  have h2 := ofCode_isSome lamps r.amber
  have h3 := ofCode_isSome lamps r.green
  have h4 := ofCode_isSome showKinds r.showKind
  have h5 := waitOf_isSome r.waitKind r.threshold
  have h6 := successorOf_isSome first last r.nextAdvance
  have h7 := successorOf_isSome first last r.nextTimeout
  have h8 := ofCode_isSome stationRequests r.request
  have e : StepInRange first last r ↔ r.prompt ≤ 255 ∧ (ofCode lamps r.red).isSome = true
      ∧ (ofCode lamps r.amber).isSome = true ∧ (ofCode lamps r.green).isSome = true
      ∧ (ofCode showKinds r.showKind).isSome = true ∧ (waitOf r.waitKind r.threshold).isSome = true ∧ r.timeout ≤ 600
      ∧ (successorOf first last r.nextAdvance).isSome = true ∧ (successorOf first last r.nextTimeout).isSome = true
      ∧ (ofCode stationRequests r.request).isSome = true := by
    rw [h1, h2, h3, h4, h5, h6, h7, h8]
    unfold StepInRange
    simp only [lamps, showKinds, stationRequests, List.length_cons, List.length_nil]
    omega
  rw [e]
  unfold stepOf
  split
  · rename_i q1 q2 q3 q4 q5 q6 q7 q8
    rw [q1, q2, q3, q4, q5, q6, q7, q8]
    by_cases hp : r.prompt ≤ 255 <;> by_cases ht : r.timeout ≤ 600 <;> simp [hp, ht]
  · rename_i hn
    simp only [Option.isSome_none, Bool.false_eq_true, false_iff]
    rintro ⟨-, a1, a2, a3, a4, a5, -, a6, a7, a8⟩
    obtain ⟨b1, c1⟩ := Option.isSome_iff_exists.mp a1
    obtain ⟨b2, c2⟩ := Option.isSome_iff_exists.mp a2
    obtain ⟨b3, c3⟩ := Option.isSome_iff_exists.mp a3
    obtain ⟨b4, c4⟩ := Option.isSome_iff_exists.mp a4
    obtain ⟨b5, c5⟩ := Option.isSome_iff_exists.mp a5
    obtain ⟨b6, c6⟩ := Option.isSome_iff_exists.mp a6
    obtain ⟨b7, c7⟩ := Option.isSome_iff_exists.mp a7
    obtain ⟨b8, c8⟩ := Option.isSome_iff_exists.mp a8
    exact hn b1 b2 b3 b4 b5 b6 b7 b8 c1 c2 c3 c4 c5 c6 c7 c8

theorem successorOf_eq_some {first last n : Nat} {o : Option Nat} (h : successorOf first last n = some o) :
    o = if n = 255 then none else some n := by
  unfold successorOf at h
  split at h
  · simp_all
  · split at h <;> simp_all

/-- R122, R199: a step read holds what its fields spell. -/
theorem stepOf_spelled {first last : Nat} {r : RawStep} {x : Step} (h : stepOf first last r = some x) :
    StepSpelled r x := by
  unfold stepOf at h
  split at h
  · rename_i q1 q2 q3 q4 q5 q6 q7 q8
    split at h
    · cases h
      refine ⟨rfl, q1, q2, q3, q4, ?_, ?_, ?_, ?_, rfl, successorOf_eq_some q6, successorOf_eq_some q7, q8⟩
      · intro e he
        simp only [waitOf, he] at q5
        split at q5 <;> simp_all
      all_goals
        intro hk
        have : gEvents[r.waitKind]? = none := (gEvents_at _).mpr (by omega)
        simp only [waitOf, this] at q5
        split at q5
        · simp [hk] at q5; exact q5.symm
        · cases q5
    · cases h
  · cases h

/-- R124: the wait of a step read, by its kind. -/
theorem stepOf_wait {first last : Nat} {r : RawStep} {x : Step} (h : stepOf first last r = some x) (e : GEvent) :
    x.wait = .event e ↔ gEvents[r.waitKind]? = some e := by
  obtain ⟨-, -, -, -, -, h1, h2, h3, h4, -⟩ := stepOf_spelled h
  constructor
  · intro hw
    cases hk : gEvents[r.waitKind]? with
    | some e' => rw [h1 e' hk] at hw; cases hw; rfl
    | none =>
      have hr := (stepOf_isSome first last r).mp (by rw [h]; rfl)
      have h17 := (gEvents_at _).mp hk
      have : r.waitKind = 17 ∨ r.waitKind = 18 ∨ r.waitKind = 19 := by
        rcases hr.2.2.2.2.2.1 with h | h <;> omega
      rcases this with h | h | h
      · rw [h2 h] at hw; cases hw
      · rw [h3 h] at hw; cases hw
      · rw [h4 h] at hw; cases hw
  · exact h1 e

theorem gEvents_blocked (k : Nat) (e : GEvent) (h : gEvents[k]? = some e) :
    (e = .entryBlocked ∨ e = .stationFault) ↔ (k = 6 ∨ k = 16) := by
  have hk : k < 17 := by
    by_contra hh
    rw [(gEvents_at k).mpr (by omega)] at h; cases h
  have : ∀ k < 17, ∀ e, gEvents[k]? = some e → ((e = .entryBlocked ∨ e = .stationFault) ↔ (k = 6 ∨ k = 16)) := by
    intro k hk
    interval_cases k <;> intro e he <;> cases he <;> decide
  exact this k hk e h

theorem gEvents_inj {j k : Nat} {e : GEvent} (h : gEvents[j]? = some e) (h' : gEvents[k]? = some e) : j = k := by
  have hn : gEvents.Nodup := by decide
  have hj := (List.getElem?_eq_some_iff.mp h)
  have hk := (List.getElem?_eq_some_iff.mp h')
  obtain ⟨a, ha⟩ := hj
  obtain ⟨b, hb⟩ := hk
  exact (List.Nodup.getElem_inj_iff hn).mp (ha.trans hb.symm)

/-- R124 item 1: the steps of a load are read exactly when its fields are in their ranges. -/
theorem loadedSteps_isSome (c : RawProgram) : (∃ steps, loadedSteps c = some steps) ↔ ProgramInRange c := by
  unfold loadedSteps ProgramInRange
  by_cases hc : 16 ≤ c.first ∧ c.first ≤ c.last ∧ c.last ≤ 95 ∧ c.first ≤ c.entryStep ∧ c.entryStep ≤ c.last
      ∧ c.steps.length = c.last - c.first + 1
  · obtain ⟨g1, g2, g3, g4, g5, g6⟩ := hc
    have hg : (decide (16 ≤ c.first) && decide (c.first ≤ 95) && decide (16 ≤ c.last) && decide (c.last ≤ 95)
      && decide (c.first ≤ c.last) && decide (c.first ≤ c.entryStep) && decide (c.entryStep ≤ c.last)
      && decide (c.steps.length = c.last - c.first + 1)) = true := by
      simp only [Bool.and_eq_true, decide_eq_true_eq]; omega
    rw [if_pos hg]
    have hr : (readAll (stepOf c.first c.last) c.steps).isSome = true ↔ ∀ r ∈ c.steps, StepInRange c.first c.last r := by
      rw [readAll_isSome]; simp only [stepOf_isSome]
    cases hs : readAll (stepOf c.first c.last) c.steps with
    | none =>
      have : ¬ ∀ r ∈ c.steps, StepInRange c.first c.last r := fun h => by
        have := hr.mpr h; rw [hs] at this; cases this
      simp only [reduceCtorEq, exists_false, false_iff]
      exact fun h => this h.2.2.2.2.2.2.1
    | some steps =>
      have hall := hr.mp (by rw [hs]; rfl)
      have hm := readAll_eq_some hs
      have hat : ∀ (i : Nat) (r : RawStep) (x : Step), c.steps[i]? = some r → steps[i]? = some x →
          stepOf c.first c.last r = some x := fun i r x h1 h2 => by
        have := congrArg (fun l => l[i]?) hm
        simpa [h1, h2] using this
      have hlen : c.steps.length = steps.length := by simpa using congrArg List.length hm
      have key : steps.any (chained c.first steps) = false ↔ ∀ r ∈ c.steps, ∀ x, r.waitKind = 6 ∨ r.waitKind = 16 →
          r.nextAdvance ≠ 255 → c.steps[r.nextAdvance - c.first]? = some x → x.waitKind ≠ r.waitKind := by
        rw [List.any_eq_false]
        constructor
        · intro h r hr x hk hn hx heq
          obtain ⟨i, hi⟩ := List.mem_iff_getElem?.mp hr
          obtain ⟨y, hy⟩ : ∃ y, steps[i]? = some y := by
            have : i < steps.length := by rw [← hlen]; exact (List.getElem?_eq_some_iff.mp hi).1
            exact ⟨_, List.getElem?_eq_getElem this⟩
          obtain ⟨z, hz⟩ : ∃ z, steps[r.nextAdvance - c.first]? = some z := by
            have : r.nextAdvance - c.first < steps.length := by rw [← hlen]; exact (List.getElem?_eq_some_iff.mp hx).1
            exact ⟨_, List.getElem?_eq_getElem this⟩
          have s1 := hat _ _ _ hi hy
          have s2 := hat _ _ _ hx hz
          obtain ⟨e, he⟩ : ∃ e, gEvents[r.waitKind]? = some e := by
            rcases hk with h | h <;> rw [h] <;> exact ⟨_, rfl⟩
          have w1 := (stepOf_wait s1 e).mpr he
          have w2 := (stepOf_wait s2 e).mpr (by rw [heq]; exact he)
          have a1 := (stepOf_spelled s1).2.2.2.2.2.2.2.2.2.2.1
          have hbe := (gEvents_blocked _ _ he).mpr hk
          apply h y (List.mem_of_getElem? hy)
          simp only [chained, w1, a1, if_neg hn, hz, Option.any_some, w2, decide_true, Bool.and_true]
          rcases hbe with h | h <;> rw [h] <;> rfl
        · intro h y hy hch
          obtain ⟨i, hi⟩ := List.mem_iff_getElem?.mp hy
          obtain ⟨r, hr⟩ : ∃ r, c.steps[i]? = some r := by
            have : i < c.steps.length := by rw [hlen]; exact (List.getElem?_eq_some_iff.mp hi).1
            exact ⟨_, List.getElem?_eq_getElem this⟩
          have s1 := hat _ _ _ hr hi
          have a1 := (stepOf_spelled s1).2.2.2.2.2.2.2.2.2.2.1
          unfold chained at hch
          split at hch
          · rename_i e n hw hn
            simp only [Bool.and_eq_true, Bool.or_eq_true, beq_iff_eq] at hch
            obtain ⟨hbe, hz'⟩ := hch
            have hn255 : r.nextAdvance ≠ 255 := fun h255 => by rw [a1, if_pos h255] at hn; cases hn
            have hnn : n = r.nextAdvance := by rw [a1, if_neg hn255] at hn; cases hn; rfl
            subst hnn
            cases hz : steps[r.nextAdvance - c.first]? with
            | none => rw [hz] at hz'; cases hz'
            | some z =>
              rw [hz] at hz'
              simp only [Option.any_some, decide_eq_true_eq] at hz'
              obtain ⟨x, hx⟩ : ∃ x, c.steps[r.nextAdvance - c.first]? = some x := by
                have : r.nextAdvance - c.first < c.steps.length := by rw [hlen]; exact (List.getElem?_eq_some_iff.mp hz).1
                exact ⟨_, List.getElem?_eq_getElem this⟩
              have e1 := (stepOf_wait s1 e).mp hw
              have e2 := (stepOf_wait (hat _ _ _ hx hz) e).mp hz'
              exact h r (List.mem_of_getElem? hr) x ((gEvents_blocked _ _ e1).mp hbe) hn255 hx (gEvents_inj e2 e1)
          · cases hch
      by_cases hch : steps.any (chained c.first steps) = true
      · have : ¬ _ := fun h => by rw [key.mpr h] at hch; cases hch
        simp only [hch, if_true, reduceCtorEq, exists_false, false_iff]
        exact fun h => this h.2.2.2.2.2.2.2
      · have hch : steps.any (chained c.first steps) = false := by simpa using hch
        simp only [hch, Bool.false_eq_true, if_false, Option.some.injEq, exists_eq', true_iff]
        exact ⟨g1, g2, g3, g4, g5, g6, hall, key.mp hch⟩
  · have hg : ¬ (decide (16 ≤ c.first) && decide (c.first ≤ 95) && decide (16 ≤ c.last) && decide (c.last ≤ 95)
      && decide (c.first ≤ c.last) && decide (c.first ≤ c.entryStep) && decide (c.entryStep ≤ c.last)
      && decide (c.steps.length = c.last - c.first + 1)) = true := by
      simp only [Bool.and_eq_true, decide_eq_true_eq]; omega
    rw [if_neg hg]
    simp only [reduceCtorEq, exists_false, false_iff]
    exact fun h => hc ⟨h.1, h.2.1, h.2.2.1, h.2.2.2.1, h.2.2.2.2.1, h.2.2.2.2.2.1⟩

/-- R124 item 2. -/
theorem rangeTaken_iff (p first last : Nat) (g : Guidance) : rangeTaken p first last g = true ↔ RangeOwned p first last g := by
  unfold rangeTaken RangeOwned
  simp only [List.any_eq_true, Bool.and_eq_true, bne_iff_ne, Option.any_eq_true, decide_eq_true_eq, Prod.exists,
    List.mem_zipIdx_iff_getElem?]
  constructor
  · rintro ⟨o, q, h, hp, r, rfl, h1, h2⟩
    exact ⟨q + 2, r, by omega, hp, by simp [programAt, h], h2, h1⟩
  · rintro ⟨q, r, h2, hp, hr, h3, h4⟩
    obtain ⟨q, rfl⟩ : ∃ k, q = k + 2 := ⟨q - 2, by omega⟩
    simp only [programAt, Option.join_eq_some_iff] at hr
    exact ⟨some r, q, hr, hp, r, rfl, h4, h3⟩

/-- R124 item 3. -/
theorem programBusy_iff (p : Nat) (g : Guidance) : programBusy p g = true ↔ ProgramInHand p g := by
  simp [programBusy, ProgramInHand, Option.isSome_iff_ne_none]
/-- R28: the machine's date check is the rule's. -/
theorem dateOk_iff (y mo d h mi sec : Nat) : dateOk y mo d h mi sec = true ↔ DateInRange y mo d h mi sec := by
  unfold dateOk DateInRange
  simp only [Bool.and_eq_true, decide_eq_true_eq, and_assoc]
  refine and_congr_right fun h1 => and_congr_right fun h2 => and_congr_right fun h3 => and_congr_right fun h4 => ?_
  have hl : leapYear y = (y % 4 == 0) := by
    have : ∀ n < 100, leapYear (2000 + n) = ((2000 + n) % 4 == 0) := by decide +kernel
    have := this (y - 2000) (by omega)
    rwa [show 2000 + (y - 2000) = y by omega] at this
  have : monthDays y mo = (if mo = 2 then (if y % 4 = 0 then 29 else 28) else if mo ∈ [4, 6, 9, 11] then 30 else 31) := by
    have h4 : mo = 1 ∨ mo = 2 ∨ mo = 3 ∨ mo = 4 ∨ mo = 5 ∨ mo = 6 ∨ mo = 7 ∨ mo = 8 ∨ mo = 9 ∨ mo = 10 ∨ mo = 11
        ∨ mo = 12 := by omega
    rcases h4 with rfl | rfl | rfl | rfl | rfl | rfl | rfl | rfl | rfl | rfl | rfl | rfl <;>
      simp [monthDays, monthLengths, hl]
  rw [this]

end Sys2Proof.Machine
end

