-- ==== Sys2Proof/Laws/Ops.lean ====
section
/-! SUPPORT. The shared operations, each with one lemma that says what it changes: notices and replies, pulse
counters and output lines, records and axles, edges, the brake station's states, its aborts and faults, a step
entered by Guidance. -/

namespace Sys2Proof.Machine

/-! ## Notices and replies -/

/-- R192: a notice changes the Host Port alone. -/
theorem sendNotice_eq (n : Notice) (s : State) : sendNotice n s = { s with port := (sendNotice n s).port } := rfl

/-- R192: a notice takes the next number, and joins the queue or sets NOTICE_OVERFLOW. -/
theorem sendNotice_port (n : Notice) (s : State) : (sendNotice n s).port = { s.port with
    lastNotice := some (nextNotice s.port)
    notices := if s.port.notices.length < 32 then s.port.notices ++ [(nextNotice s.port, n)] else s.port.notices
    overflow := s.port.overflow || decide (32 ≤ s.port.notices.length) } := rfl

/-- R191: a reply joins the replies and changes nothing else. -/
theorem postReply_eq (k t : Nat) (st : Status) (b : ReplyBody) (s : State) : postReply k t st b s =
    { s with port := { s.port with replies := s.port.replies
        ++ [{ kind := k, tag := t, status := st, body := b, refusal := false }] } } := rfl

theorem noticeBrake_eq (s : State) : noticeBrake s = { s with port := (noticeBrake s).port } := rfl

theorem noticeFault_eq (c : BrakeCause) (e : Bool) (s : State) :
    noticeFault c e s = { s with port := (noticeFault c e s).port } := rfl

theorem noticeTested_eq (r : Option AbortReason) (x : Option AxleResult) (s : State) :
    noticeTested r x s = { s with port := (noticeTested r x s).port } := by
  unfold noticeTested; split <;> rfl

/-! ## Pulse counters and output lines (R36, R39) -/

/-- R36: an accepted change of a prescaler clears the residue; the units counted and the setting in force stay. -/
theorem Pulse.setPrescale_of_ne {p : Pulse} {v : Nat} (h : p.prescale ≠ v) :
    p.setPrescale v = { p with prescale := v, residue := 0 } := if_neg h

@[simp] theorem Pulse.setPrescale_prescale (p : Pulse) (v : Nat) : (p.setPrescale v).prescale = v := by
  unfold Pulse.setPrescale; split
  · assumption
  · rfl

@[simp] theorem Pulse.setPrescale_total (p : Pulse) (v : Nat) : (p.setPrescale v).total = p.total := by
  unfold Pulse.setPrescale; split <;> rfl

@[simp] theorem Pulse.setPrescale_inForce (p : Pulse) (v : Nat) : (p.setPrescale v).inForce = p.inForce := by
  unfold Pulse.setPrescale; split <;> rfl

/-- R39: a line drives a level exactly when its function is an output. -/
theorem Line.driven_isSome (l : Line) (s : State) : (l.driven s).isSome = (outputLit l.fn s).isSome :=
  Option.isSome_map

/-- R39: a lit output drives its active level, an unlit one the other. -/
theorem Line.driven_eq {l : Line} {s : State} {b : Bool} (h : outputLit l.fn s = some b) :
    l.driven s = some (if b then l.level else Level.other l.level) := by
  unfold Line.driven; rw [h]; rfl

/-! ## Records and axles -/

/-- A record changed is that record changed, and every other record is as before. -/
theorem record_modRec (k j : Nat) (f : Record → Record) (s : State) :
    (modRec k f s).record j = if j = k ∧ k < s.vt.records.length then f (s.record j) else s.record j := by
  unfold State.record modRec tableMod State.onVt
  simp only [List.getD_eq_getElem?_getD, List.getElem?_modify]
  by_cases hj : j = k
  · subst hj
    cases hh : s.vt.records[j]? with
    | none =>
      have : s.vt.records.length ≤ j := List.getElem?_eq_none_iff.mp hh
      rw [if_neg (fun x => by omega)]; simp
    | some r => rw [if_pos ⟨rfl, (List.getElem?_eq_some_iff.mp hh).1⟩]; simp
  · rw [if_neg (fun x => hj x.1)]
    have hk : ¬ k = j := fun x => hj x.symm
    simp [hk]

theorem record_writeRec (k j : Nat) (f : Record → Record) (s : State) : (writeRec k f s).record j =
    if j = k ∧ k < s.vt.records.length then { f (s.record j) with lastActivity := s.time.now } else s.record j :=
  record_modRec k j _ s

/-- A record whose slot the table lacks is FREE. -/
theorem record_none (s : State) (k : Nat) (h : s.vt.records.length ≤ k) : s.record k = Record.free := by
  unfold State.record
  rw [List.getD_eq_getElem?_getD, List.getElem?_eq_none h]; rfl

/-- R15: a write to axle `n` of a record changes that entry. -/
theorem axle_writeAxle (k n : Nat) (f : Axle → Axle) (s : State) (a : Axle) (h : (s.record k).axle n = some a) :
    ((writeAxle k n f s).record k).axle n = some (f a) := by
  have hk : k < s.vt.records.length := by
    by_contra hc
    rw [record_none s k (by omega)] at h
    simp [Record.axle, Record.free] at h
  unfold writeAxle
  rw [record_writeRec, if_pos ⟨rfl, hk⟩]
  unfold Record.axle at h ⊢
  split at h
  · cases h
  · next hn => rw [if_neg hn]; simp [tableMod, h]

/-! ## Traces (R148, R150) -/

/-- R148: closing a trace changes the Trace Store and the Host Port's notices alone. -/
theorem closeTrace_eq (id : Nat) (a : Bool) (s : State) : (closeTrace id a s).2 =
    { s with traces := (closeTrace id a s).2.traces, port := (closeTrace id a s).2.port } := by
  unfold closeTrace
  split
  · rfl
  · simp only []
    split
    · unfold joinDrain; simp only []; split <;> rfl
    · rfl

theorem abortTrace_eq (o : Option Nat) (s : State) :
    abortTrace o s = { s with traces := (abortTrace o s).traces, port := (abortTrace o s).port } := by
  unfold abortTrace
  split
  · rfl
  · exact closeTrace_eq _ _ _

/-! ## Edges (R38) -/

/-- An edge that is taken changes the lines and the edges on their way alone. -/
theorem takeEdge_eq {f : LineFn} {b : Bool} {s u : State} {t : LaneTime} (h : takeEdge f b s = some (t, u)) :
    u = { s with sig := { s.sig with lines := u.sig.lines, edges := u.sig.edges } } := by
  unfold takeEdge at h
  split at h
  · split at h
    · simp only [Option.some.injEq, Prod.mk.injEq] at h; rw [← h.2]; rfl
    · cases h
  · split at h
    · cases h
    · split at h
      · cases h
      · simp only [Option.some.injEq, Prod.mk.injEq] at h; rw [← h.2]; rfl

/-! ## The brake station -/

/-- R39, R70: both RUN functions and nothing else. -/
theorem setRun_eq (on : Bool) (s : State) : setRun on s =
    { s with sig := { s.sig with outputs := { s.sig.outputs with runL := on, runR := on } } } := rfl

/-- R62: a change of state changes the state, and may send a notice. -/
theorem enterState_eq (st : BrakeState) (s : State) :
    enterState st s = { s with brake := { s.brake with state := st }, port := (enterState st s).port } := by
  unfold enterState; split <;> rfl

/-- R78: an abort clears both RUN outputs, keeps the station's state, vehicle and axle, and owes no work. -/
theorem abortAttempt_brake (r : AbortReason) (s : State) : (abortAttempt r s).sig =
      { s.sig with outputs := { s.sig.outputs with runL := false, runR := false } }
    ∧ (abortAttempt r s).brake = { s.brake.discarded with
        presence := none, spinUp := none, braking := none, stop := none, openTrace := none } := by
  unfold abortAttempt
  rw [noticeTested_eq]
  simp only
  rw [abortTrace_eq]
  split <;> exact ⟨rfl, rfl⟩

/-- R80: FAULT with its cause, both RUN outputs OFF and no expiry, unless the station is in FAULT already. -/
theorem enterFault_brake (c : BrakeCause) (s : State) (h : s.brake.state ≠ .fault) :
    (enterFault c s).brake.state = .fault ∧ (enterFault c s).brake.cause = some c
      ∧ (enterFault c s).sig.outputs.runL = false ∧ (enterFault c s).sig.outputs.runR = false
      ∧ (enterFault c s).brake.spinUp = none ∧ (enterFault c s).brake.stop = none
      ∧ (enterFault c s).brake.braking = none ∧ (enterFault c s).brake.presence = none
      ∧ (enterFault c s).brake.clear = none := by
  have hf : (s.brake.state == BrakeState.fault) = false := by simpa using h
  unfold enterFault
  rw [hf]
  simp only [Bool.false_eq_true, if_false]
  rw [noticeFault_eq]
  simp only [raiseEvent, hand, State.onWork]
  rw [enterState_eq]
  simp [setRun_eq, State.onBrake]

theorem enterFault_in_fault (c : BrakeCause) (s : State) (h : s.brake.state = .fault) : enterFault c s = s := by
  unfold enterFault; simp [h]

/-! ## Guidance -/

/-- R127, R138: coming to rest changes Guidance's state of the station and the lamps alone. -/
theorem comeToRest_eq (st : Station) (s : State) : comeToRest st s =
    { s with guide := (comeToRest st s).guide
             sig := { s.sig with outputs := (comeToRest st s).sig.outputs } } := by
  cases st <;> rfl

/-- R127: entering a step or END changes Guidance alone. -/
theorem enterNext_eq (st : Station) (n : Option Nat) (s : State) :
    enterNext st n s = { s with guide := (enterNext st n s).guide } := by
  have h1 : ∀ f : StationGuide → StationGuide, modGuide st f s = { s with guide := (modGuide st f s).guide } :=
    fun f => rfl
  unfold enterNext
  split
  · unfold enterOnce
    split
    · rfl
    · unfold issueRequest; split <;> rfl
  · rfl

/-- R127: entering a step, and coming to rest, changes Guidance and the lamps alone. -/
theorem enter_eq (st : Station) (n : Option Nat) (s : State) :
    enter st n s = { s with guide := (enter st n s).guide
                            sig := { s.sig with outputs := (enter st n s).sig.outputs } } := by
  unfold enter
  rw [comeToRest_eq]
  split
  · next m _ =>
    have h2 := enterNext_eq st m (enterNext st n s)
    rw [enterNext_eq st n s] at h2
    rw [enterNext_eq st n s, h2]
  · rw [enterNext_eq st n s]

end Sys2Proof.Machine
end

