-- ==== Sys2Proof/Laws/Guided.lean ====
section
/-! SUPPORT. What entering a successor does to a station of Guidance, said once in the terms of Safety.lean: it changes
nothing but Guidance and the lamps, and the station comes to rest as R127 gives. -/

namespace Sys2Proof.Machine

@[simp] theorem modGuide_at (st : Station) (f : StationGuide → StationGuide) (s : State) :
    (modGuide st f s).guide.at st = f (s.guide.at st) := by cases st <;> rfl

@[simp] theorem modGuide_requests (st : Station) (f : StationGuide → StationGuide) (s : State) :
    (modGuide st f s).guide.requests = s.guide.requests := by cases st <;> rfl

@[simp] theorem modGuide_stepAt (st : Station) (f : StationGuide → StationGuide) (s : State) (n : Nat) :
    stepAt (modGuide st f s).guide n = stepAt s.guide n := by cases st <;> rfl

@[simp] theorem modGuide_programAt (st : Station) (f : StationGuide → StationGuide) (s : State) (p : Nat) :
    programAt (modGuide st f s).guide p = programAt s.guide p := by cases st <;> rfl

@[simp] theorem modGuide_now (st : Station) (f : StationGuide → StationGuide) (s : State) :
    (modGuide st f s).time = s.time := by cases st <;> rfl

@[simp] theorem modGuide_flags (st st' : Station) (f : StationGuide → StationGuide) (s : State) :
    standingFlags st' (modGuide st f s) = standingFlags st' s := by cases st <;> cases st' <;> rfl

@[simp] theorem modGuide_values (st st' : Station) (f : StationGuide → StationGuide) (k : ShowKind) (s : State) :
    showValues st' k (modGuide st f s) = showValues st' k s := by cases st <;> cases st' <;> cases k <;> rfl

/-- R134: what issuing a request does. -/
theorem issueRequest_eq (st : Station) (r : StationRequest) (s : State) :
    issueRequest st r s = s.onGuide fun g => { g with requests := requestsAfter st r s.guide.requests } := by
  unfold issueRequest requestsAfter
  by_cases h : st = .brake ∧ r ≠ .none
  · have : (st == .brake && r != .none) = true := by simpa using h
    rw [if_pos this, if_pos h]; rfl
  · have : ¬ (st == .brake && r != .none) = true := by simpa using h
    rw [if_neg this, if_neg h]; rfl

/-- R127 actions 1 to 5: the step entered, its flags, times and request. -/
theorem enterOnce_eq {st : Station} {n : Nat} {y : Step} {s : State} (h : stepAt s.guide n = some y) :
    enterOnce st n s = (modGuide st (fun g => { g with
        step := some n, entryTime := s.time.now, flags := standingFlags st s
        timeout := if y.timeout = 0 then none else some (later s.time.now (y.timeout * 100)) }) s).onGuide
      fun g => { g with requests := requestsAfter st y.request s.guide.requests } := by
  unfold enterOnce
  rw [h]
  simp only [issueRequest_eq, modGuide_requests]
  rfl

/-- R136, R137, R138: a station that comes to rest in a step. -/
theorem comeToRest_step {st : Station} {y : Step} {s : State} (h : stepInHand st s = some y) :
    (comeToRest st s).guide = s.guide.modAt st (fun g => { g with
        slot := some { frame := stepFrame st y s, since := s.time.now, sending := false }
        refresh := later s.time.now (stepPeriod y) })
      ∧ LampsShow st y.red y.amber y.green (comeToRest st s) := by
  have h' : ∀ f, stepInHand st (setLamps st f s) = some y := fun f => h
  have hf : showFrame st s = stepFrame st y s := by
    unfold showFrame; rw [h]; cases st <;> rfl
  have hf' : showFrame st (setLamps st (stepFrame st y s) s) = stepFrame st y s := by
    unfold showFrame; rw [h']; cases st <;> cases y.showKind <;> rfl
  have hp : refreshPeriod st s = stepPeriod y := by
    unfold refreshPeriod stepPeriod; rw [h]; simp
  unfold comeToRest makePending
  rw [hp, hf, hf']
  cases st <;> exact ⟨rfl, by simp [LampsShow, modGuide, setLamps, stepFrame, State.onGuide, State.onSig]⟩

/-- R133, R137, R138: a station that comes to rest at END. -/
theorem comeToRest_end {st : Station} {s : State} (h : (s.guide.at st).step = none) :
    (comeToRest st s).guide = s.guide.modAt st (fun g => { g with
        slot := some { frame := endFrame st, since := s.time.now, sending := false }
        refresh := later s.time.now 1000 })
      ∧ LampsShow st .off .off .off (comeToRest st s) := by
  have h0 : stepInHand st s = none := by unfold stepInHand; rw [h]; rfl
  have h' : ∀ f, stepInHand st (setLamps st f s) = none := fun f => h0
  have hf : showFrame st s = endFrame st := by unfold showFrame; rw [h0]; cases st <;> rfl
  have hf' : showFrame st (setLamps st (endFrame st) s) = endFrame st := by
    unfold showFrame; rw [h']; cases st <;> rfl
  have hp : refreshPeriod st s = 1000 := by unfold refreshPeriod; rw [h0]
  unfold comeToRest makePending
  rw [hp, hf, hf']
  cases st <;> exact ⟨rfl, by simp [LampsShow, modGuide, setLamps, endFrame, State.onGuide, State.onSig]⟩

/-- R127 action 6: whether the step just entered is left at once, by a standing flag. -/
theorem flagMet_entered {st : Station} {y : Step} {s : State} (h : stepInHand st s = some y) :
    flagMet st s = match y.wait with
      | .event e => if e ∈ (s.guide.at st).flags then some y.nextAdvance else none
      | .pedalAbove _ | .forceAbove _ | .speedAbove _ => none := by
  unfold flagMet; rw [h]; cases hw : y.wait <;> simp only [hw, List.contains_iff_mem]

theorem stepInHand_none {st : Station} {s : State} (h : (s.guide.at st).step = none) : stepInHand st s = none := by
  unfold stepInHand; rw [h]; rfl

theorem stepInHand_some {st : Station} {n : Nat} {s : State} (h : (s.guide.at st).step = some n) :
    stepInHand st s = stepAt s.guide n := by
  unfold stepInHand; rw [h]; rfl

/-! ## Entering a successor, said once -/

@[simp] theorem Guidance.modAt_at (st : Station) (f : StationGuide → StationGuide) (g : Guidance) :
    (g.modAt st f).at st = f (g.at st) := by cases st <;> rfl

/-- R127: changes of one station's Guidance add up. -/
theorem OnlyGuided.trans {st : Station} {s u t : State} (h : OnlyGuided st s u) (k : OnlyGuided st u t) :
    OnlyGuided st s t := by
  obtain ⟨h1, h2, h3⟩ := h
  obtain ⟨k1, k2, k3⟩ := k
  refine ⟨?_, fun e => ?_, fun e => ?_⟩
  · rw [k1, h1]
  · obtain ⟨a1, a2, a3⟩ := h2 e
    obtain ⟨b1, b2, b3⟩ := k2 e
    exact ⟨b1.trans a1, b2.trans a2, by rw [b3, a3]⟩
  · obtain ⟨a1, a2⟩ := h3 e
    obtain ⟨b1, b2⟩ := k3 e
    exact ⟨b1.trans a1, by rw [b2, a2]⟩

theorem onlyGuided_modGuide (st : Station) (f : StationGuide → StationGuide) (s : State) :
    OnlyGuided st s (modGuide st f s) := by
  cases st <;> exact ⟨rfl, by simp [modGuide, State.onGuide, Guidance.modAt], by simp [modGuide, State.onGuide, Guidance.modAt]⟩

theorem onlyGuided_issueRequest (st : Station) (r : StationRequest) (s : State) :
    OnlyGuided st s (issueRequest st r s) := by
  rw [issueRequest_eq]
  cases st <;> exact ⟨rfl, by simp [State.onGuide, requestsAfter], by simp [State.onGuide]⟩

theorem onlyGuided_setLamps (st : Station) (f : ShowFrame) (s : State) : OnlyGuided st s (setLamps st f s) := by
  cases st <;> exact ⟨rfl, by simp [setLamps, State.onSig], by simp [setLamps, State.onSig]⟩

theorem onlyGuided_enterNext (st : Station) (n : Option Nat) (s : State) : OnlyGuided st s (enterNext st n s) := by
  unfold enterNext
  split
  · unfold enterOnce
    split
    · exact onlyGuided_modGuide st _ s
    · exact (onlyGuided_modGuide st _ s).trans (onlyGuided_issueRequest st _ _)
  · exact onlyGuided_modGuide st _ s

theorem onlyGuided_comeToRest (st : Station) (s : State) : OnlyGuided st s (comeToRest st s) :=
  ((onlyGuided_setLamps st _ s).trans (onlyGuided_modGuide st _ _)).trans (onlyGuided_modGuide st _ _)

/-- R127: entering a successor, and coming to rest, changes nothing but the station's part of Guidance and its lamps. -/
theorem enter_onlyGuided (st : Station) (next : Option Nat) (s : State) : OnlyGuided st s (enter st next s) := by
  unfold enter
  refine OnlyGuided.trans ?_ (onlyGuided_comeToRest st _)
  have h := onlyGuided_enterNext st next s
  split
  · exact h.trans (onlyGuided_enterNext st _ _)
  · exact h

/-- What a station shows, and what stands for it, is read from no field of Guidance and no lamp. -/
theorem OnlyGuided.reads {st : Station} {s t : State} (h : OnlyGuided st s t) :
    (∀ st, standingFlags st t = standingFlags st s) ∧ (∀ st k, showValues st k t = showValues st k s)
      ∧ t.time = s.time ∧ ∀ n, stepAt t.guide n = stepAt s.guide n := by
  rw [h.1]
  exact ⟨fun st => by cases st <;> rfl, fun st k => by cases st <;> cases k <;> rfl, rfl, fun n => rfl⟩

theorem comeToRest_requests (st : Station) (s : State) : (comeToRest st s).guide.requests = s.guide.requests := by
  cases st <;> rfl

/-- A station that comes to rest in the step it has just entered. -/
theorem rest_step {st : Station} {n : Nat} {y : Step} {s u : State} (hu : OnlyGuided st s u)
    (hs : stepAt s.guide n = some y) (hg : u.guide.at st = { s.guide.at st with
        step := some n, entryTime := s.time.now, flags := standingFlags st s
        timeout := if y.timeout = 0 then none else some (later s.time.now (y.timeout * 100))
        slot := (u.guide.at st).slot, refresh := (u.guide.at st).refresh }) :
    (comeToRest st u).guide.at st = restedIn st (s.guide.at st).program n y (comeToRest st u)
      ∧ LampsShow st y.red y.amber y.green (comeToRest st u) := by
  have r := hu.reads
  have r' := (hu.trans (onlyGuided_comeToRest st u)).reads
  have hi : stepInHand st u = some y := by
    rw [stepInHand_some (n := n) (by rw [hg]), r.2.2.2, hs]
  obtain ⟨h1, h2⟩ := comeToRest_step hi
  refine ⟨?_, h2⟩
  rw [h1]
  unfold restedIn stepFrame
  rw [r'.1, r'.2.2.1, r'.2.1, r.2.1, r.2.2.1]
  rw [Guidance.modAt_at, hg]

/-- A station that comes to rest at END. -/
theorem rest_end {st : Station} {s u : State} (hu : OnlyGuided st s u) (hg : u.guide.at st = { s.guide.at st with
        step := none, entryTime := s.time.now, timeout := none, flags := []
        slot := (u.guide.at st).slot, refresh := (u.guide.at st).refresh }) :
    (comeToRest st u).guide.at st = restedAtEnd st (s.guide.at st).program (comeToRest st u)
      ∧ LampsShow st .off .off .off (comeToRest st u) := by
  have r := hu.reads
  have r' := (hu.trans (onlyGuided_comeToRest st u)).reads
  obtain ⟨h1, h2⟩ := comeToRest_end (st := st) (s := u) (by rw [hg])
  refine ⟨?_, h2⟩
  rw [h1]
  unfold restedAtEnd
  rw [r'.2.2.1, r.2.2.1]
  rw [Guidance.modAt_at, hg]

theorem enterNext_some {st : Station} {n : Nat} {y : Step} {s : State} (h : stepAt s.guide n = some y) :
    (enterNext st (some n) s).guide.at st = { s.guide.at st with
        step := some n, entryTime := s.time.now, flags := standingFlags st s
        timeout := if y.timeout = 0 then none else some (later s.time.now (y.timeout * 100)) }
      ∧ (enterNext st (some n) s).guide.requests = requestsAfter st y.request s.guide.requests := by
  have : enterNext st (some n) s = enterOnce st n s := rfl
  rw [this, enterOnce_eq h]
  cases st <;> exact ⟨rfl, rfl⟩

theorem enterNext_none (st : Station) (s : State) :
    (enterNext st none s).guide.at st =
        { s.guide.at st with step := none, entryTime := s.time.now, timeout := none, flags := [] }
      ∧ (enterNext st none s).guide.requests = s.guide.requests := by
  cases st <;> exact ⟨rfl, rfl⟩

/-- R127, R129, R133, R134, R138: entering a successor brings the station to rest as `GuidedTo` says. -/
theorem enter_guided (st : Station) (next : Option Nat) (s : State) :
    GuidedTo st (s.guide.at st).program next s.guide.requests (enter st next s) := by
  have hr := (enter_onlyGuided st next s).reads
  refine ⟨?_, ?_⟩
  · rintro rfl
    obtain ⟨h1, h2⟩ := enterNext_none st s
    have hf : flagMet st (enterNext st none s) = none := by
      unfold flagMet; rw [stepInHand_none (by rw [h1])]
    have : enter st none s = comeToRest st (enterNext st none s) := by unfold enter; simp only [hf]
    rw [this, comeToRest_requests, h2]
    obtain ⟨a, b⟩ := rest_end (onlyGuided_enterNext st none s) (by rw [h1])
    exact ⟨a, b, rfl⟩
  · rintro n y rfl hy
    rw [hr.2.2.2] at hy
    rw [hr.1]
    obtain ⟨h1, h2⟩ := enterNext_some (st := st) hy
    have ho := onlyGuided_enterNext st (some n) s
    have hi : stepInHand st (enterNext st (some n) s) = some y := by
      rw [stepInHand_some (n := n) (by rw [h1]), ho.reads.2.2.2, hy]
    have hm := flagMet_entered hi
    rw [h1] at hm
    refine ⟨fun hw => ?_, fun e he hmem => ?_⟩
    · have hf : flagMet st (enterNext st (some n) s) = none := by
        rw [hm]
        cases hwy : y.wait with
        | event e => simp [hw e hwy]
        | _ => rfl
      have : enter st (some n) s = comeToRest st (enterNext st (some n) s) := by unfold enter; simp only [hf]
      rw [this, comeToRest_requests, h2]
      obtain ⟨a, b⟩ := rest_step ho hy (by rw [h1])
      exact ⟨a, b, rfl⟩
    · have hf : flagMet st (enterNext st (some n) s) = some y.nextAdvance := by
        rw [hm, he]; simp [hmem]
      have hen : enter st (some n) s = comeToRest st (enterNext st y.nextAdvance (enterNext st (some n) s)) := by
        unfold enter; simp only [hf]
      have ho2 := ho.trans (onlyGuided_enterNext st y.nextAdvance (enterNext st (some n) s))
      rw [hen, comeToRest_requests]
      refine ⟨fun hn => ?_, fun m z hn hz => ?_⟩
      · rw [hn] at ho2 ⊢
        obtain ⟨k1, k2⟩ := enterNext_none st (enterNext st (some n) s)
        obtain ⟨a, b⟩ := rest_end ho2 (by rw [k1, h1, ho.reads.2.2.1])
        exact ⟨a, b, by rw [k2, h2]⟩
      · rw [← hen, hr.2.2.2] at hz
        rw [hn] at ho2 ⊢
        obtain ⟨k1, k2⟩ := enterNext_some (st := st) (s := enterNext st (some n) s) (y := z) (n := m)
          (by rw [ho.reads.2.2.2, hz])
        obtain ⟨a, b⟩ := rest_step ho2 hz (by rw [k1, h1, ho.reads.2.2.1, ho.reads.1])
        exact ⟨a, b, by rw [k2, h2]⟩
end Sys2Proof.Machine
end

