-- ==== Sys2Proof/Laws/Memory.lean ====
section
/-! SUPPORT. The EEPROM as a memory: a write is read back, leaves every other address alone and keeps the
canonical form; a page write is its 32 byte writes; what a failed write leaves. -/

namespace Sys2Proof.Machine

/-! ## The canonical form -/

theorem Eeprom.wfFrom_cons (lo a : Nat) (v : Byte) (m : Eeprom) :
    Eeprom.wfFrom lo ((a, v) :: m) = true ↔
      lo ≤ a ∧ a < Config.eepromSize ∧ v ≠ Config.eepromBlank ∧ Eeprom.wfFrom (a + 1) m = true := by
  simp [Eeprom.wfFrom, and_assoc]

theorem Eeprom.wfFrom_mono {lo lo' : Nat} {m : Eeprom} (hl : lo ≤ lo') (h : Eeprom.wfFrom lo' m = true) :
    Eeprom.wfFrom lo m = true := by
  cases m with
  | nil => rfl
  | cons c m =>
    obtain ⟨a, v⟩ := c
    rw [wfFrom_cons] at h ⊢
    exact ⟨by omega, h.2⟩

/-- An address below every listed one reads blank. -/
theorem Eeprom.read_below {lo a : Nat} {m : Eeprom} (h : Eeprom.wfFrom lo m = true) (ha : a < lo) :
    m.read a = Config.eepromBlank := by
  induction m generalizing lo with
  | nil => rfl
  | cons c m ih =>
    obtain ⟨b, v⟩ := c
    rw [wfFrom_cons] at h
    rw [Eeprom.read, if_neg (by omega)]
    exact ih h.2.2.2 (by omega)

theorem Eeprom.wfFrom_put {lo a : Nat} {v : Byte} {m : Eeprom} (h : Eeprom.wfFrom lo m = true) (hl : lo ≤ a)
    (ha : a < Config.eepromSize) (hv : v ≠ Config.eepromBlank) : Eeprom.wfFrom lo (m.put a v) = true := by
  induction m generalizing lo with
  | nil => simp [Eeprom.put, Eeprom.wfFrom, hl, ha, hv]
  | cons c m ih =>
    obtain ⟨b, w⟩ := c
    rw [wfFrom_cons] at h
    unfold Eeprom.put
    split
    · rw [wfFrom_cons, wfFrom_cons]; exact ⟨hl, ha, hv, by omega, h.2.1, h.2.2.1, h.2.2.2⟩
    · split
      · rw [wfFrom_cons]; subst_vars; exact ⟨hl, ha, hv, h.2.2.2⟩
      · rw [wfFrom_cons]; exact ⟨h.1, h.2.1, h.2.2.1, ih h.2.2.2 (by omega)⟩

theorem Eeprom.wfFrom_drop {lo a : Nat} {m : Eeprom} (h : Eeprom.wfFrom lo m = true) :
    Eeprom.wfFrom lo (m.drop a) = true := by
  induction m generalizing lo with
  | nil => rfl
  | cons c m ih =>
    obtain ⟨b, w⟩ := c
    rw [wfFrom_cons] at h
    unfold Eeprom.drop
    split
    · exact wfFrom_mono (by omega) h.2.2.2
    · rw [wfFrom_cons]; exact ⟨h.1, h.2.1, h.2.2.1, ih h.2.2.2⟩

/-- Writing a byte inside the EEPROM keeps the canonical form. -/
theorem Eeprom.wf_write {m : Eeprom} {a : Nat} (v : Byte) (h : m.wf = true) (ha : a < Config.eepromSize) :
    (m.write a v).wf = true := by
  unfold Eeprom.write Eeprom.wf
  split
  · exact wfFrom_drop h
  · next hv => exact wfFrom_put h (Nat.zero_le a) ha hv

/-! ## Read after write -/

theorem Eeprom.read_put (m : Eeprom) (a b : Nat) (v : Byte) :
    (m.put a v).read b = if b = a then v else m.read b := by
  induction m with
  | nil => simp only [Eeprom.put, Eeprom.read, eq_comm]
  | cons c m ih =>
    obtain ⟨x, w⟩ := c
    unfold Eeprom.put
    split
    · simp only [Eeprom.read, eq_comm]
    · split
      · next hx => subst hx; simp only [Eeprom.read]; split <;> split <;> first | rfl | omega
      · simp only [Eeprom.read, ih]; split <;> split <;> first | rfl | omega

theorem Eeprom.read_drop {lo : Nat} {m : Eeprom} (a b : Nat) (h : Eeprom.wfFrom lo m = true) :
    (m.drop a).read b = if b = a then Config.eepromBlank else m.read b := by
  induction m generalizing lo with
  | nil => simp [Eeprom.drop, Eeprom.read]
  | cons c m ih =>
    obtain ⟨x, w⟩ := c
    rw [wfFrom_cons] at h
    unfold Eeprom.drop
    split
    · next hx =>
      subst hx
      split
      · next hb => subst hb; exact read_below h.2.2.2 (by omega)
      · next hb => simp only [Eeprom.read]; rw [if_neg (by omega)]
    · simp only [Eeprom.read, ih h.2.2.2]; split <;> split <;> first | rfl | omega

/-- A byte written is read back, and every other address reads as before. -/
theorem Eeprom.read_write {m : Eeprom} (a b : Nat) (v : Byte) (h : m.wf = true) :
    (m.write a v).read b = if b = a then v else m.read b := by
  unfold Eeprom.write
  split
  · next hv => rw [read_drop a b h, hv]
  · exact read_put m a b v

/-! ## Pages -/

theorem Eeprom.wf_writeList {m : Eeprom} {a : Nat} {vs : List Byte} (h : m.wf = true)
    (ha : a + vs.length ≤ Config.eepromSize) : (m.writeList a vs).wf = true := by
  induction vs generalizing m a with
  | nil => exact h
  | cons v vs ih =>
    simp only [List.length_cons] at ha
    exact ih (wf_write v h (by omega)) (by omega)

theorem Eeprom.read_writeList {m : Eeprom} {a : Nat} {vs : List Byte} (b : Nat) (h : m.wf = true)
    (ha : a + vs.length ≤ Config.eepromSize) :
    (m.writeList a vs).read b = if a ≤ b ∧ b < a + vs.length then vs.getD (b - a) Config.eepromBlank else m.read b := by
  induction vs generalizing m a with
  | nil => rw [if_neg (by simp only [List.length_nil]; omega)]; rfl
  | cons v vs ih =>
    simp only [List.length_cons] at ha ⊢
    rw [Eeprom.writeList, ih (wf_write v h (by omega)) (by omega), read_write a b v h]
    by_cases hb : b = a
    · subst hb
      rw [if_neg (by omega), if_pos rfl, if_pos (by omega), Nat.sub_self]; rfl
    · rw [if_neg hb]
      split
      · rw [if_pos (by omega)]
        obtain ⟨k, hk⟩ : ∃ k, b - a = k + 1 := ⟨b - a - 1, by omega⟩
        rw [hk, show b - (a + 1) = k by omega]
        simp
      · rw [if_neg (by omega)]

/-- R177, R204: a page write succeeds exactly on the EEPROM's 256 pages; it keeps the form, stores the page's first
32 bytes and changes no other address. -/
theorem Eeprom.writePage_spec {m m' : Eeprom} {p : Nat} {bytes : List Byte} (h : m.wf = true)
    (hw : m.writePage p bytes = some m') :
    p < 256 ∧ m'.wf = true ∧ ∀ b, m'.read b =
      if 32 * p ≤ b ∧ b < 32 * p + (bytes.take 32).length then (bytes.take 32).getD (b - 32 * p) Config.eepromBlank
      else m.read b := by
  unfold Eeprom.writePage at hw
  split at hw
  · next hp =>
    simp only [Option.some.injEq] at hw
    subst hw
    have hl : 32 * p + (bytes.take 32).length ≤ Config.eepromSize := by
      simp only [List.length_take, Config.eepromSize]; omega
    exact ⟨hp, wf_writeList h hl, fun b => read_writeList b h hl⟩
  · cases hw

/-- A page outside the EEPROM is not written (the fault `eepromAddress`). -/
theorem Eeprom.writePage_none (m : Eeprom) (p : Nat) (bytes : List Byte) (hp : 256 ≤ p) :
    m.writePage p bytes = none := by
  unfold Eeprom.writePage; rw [if_neg (by omega)]

/-- A page written reads back as the bytes written. -/
theorem Eeprom.page_writePage {m m' : Eeprom} {p : Nat} {bytes : List Byte} (h : m.wf = true)
    (hl : bytes.length = 32) (hw : m.writePage p bytes = some m') : m'.page p = bytes := by
  have hr := (writePage_spec h hw).2.2
  apply List.ext_getElem
  · simp [Eeprom.page, hl]
  · intro i hi _
    have hi' : i < 32 := by simpa [Eeprom.page] using hi
    simp only [Eeprom.page, List.getElem_map, List.getElem_range, hr, List.take_of_length_le (Nat.le_of_eq hl)]
    rw [if_pos ⟨Nat.le_add_right _ _, by omega⟩, Nat.add_sub_cancel_left, List.getD_eq_getElem?_getD,
      List.getElem?_eq_getElem (by omega), Option.getD_some]

/-! ## What a write that did not succeed leaves (R182) -/

@[simp] theorem tornPage_length (n : Nat) : (tornPage n).length = 32 := by simp [tornPage]

/-- The check of a torn page never matches, so a torn page is bad. -/
theorem tornPage_check (n : Nat) : crc8 ((tornPage n).take 31) ≠ (tornPage n).getD 31 0 := by
  have key : ∀ (b : List Byte) (x : Byte), b.length = 31 → x ≠ 0 →
      crc8 ((b ++ [crc8 b ^^^ x]).take 31) ≠ (b ++ [crc8 b ^^^ x]).getD 31 0 := by
    intro b x hb hx
    rw [List.take_left' hb, List.getD_eq_getElem?_getD, List.getElem?_append_right (by omega)]
    generalize crc8 b = c
    simp only [hb, Nat.sub_self, List.getElem?_cons_zero, Option.getD_some]
    intro h
    refine hx ?_
    have := congrArg (c ^^^ ·) h
    simpa [← BitVec.xor_assoc] using this.symm
  refine key _ _ (by simp) ?_
  by_cases h : Config.tornByte n 31 = 0
  · rw [if_pos h]; decide
  · rw [if_neg h]; exact h

/-- A torn page is read as bad, or gives no answer. -/
theorem readPage_torn {m : Eeprom} {p n : Nat} (nacks : List Nat) (h : m.page p = tornPage n) :
    ∃ c, readPage m nacks p = .bad c := by
  unfold readPage
  split
  · exact ⟨_, rfl⟩
  · rw [if_neg (by simpa [h] using tornPage_check n)]; exact ⟨_, rfl⟩

/-- R180: the three things a page may hold after a write that did not succeed. -/
theorem failedPage_cases (n : Nat) (w : PageWrite) (m : Eeprom) :
    failedPage n w m = w.values.page ∨ failedPage n w m = tornPage n ∨ failedPage n w m = m.page w.page := by
  unfold failedPage
  split
  · exact .inl rfl
  · split
    · exact .inr (.inl rfl)
    · exact .inr (.inr rfl)

end Sys2Proof.Machine
end

