-- ==== Sys2Proof/Laws/PerInstr.lean ====
section
/-! SUPPORT. Per command: the payload the host writes for a request reads back as that request (R199). -/

set_option Elab.async false
set_option linter.unusedSimpArgs false

namespace Sys2Proof.Laws

open Sys2Proof.Machine

/-! ## Fields -/

theorem leNat_leBytes (w n : Nat) (h : n < 256 ^ w) : leNat (leBytes w n) = n := by
  induction w generalizing n with
  | zero => simp [leBytes, leNat]; simp at h; omega
  | succ w ih =>
    have : n / 256 < 256 ^ w := by rw [Nat.div_lt_iff_lt_mul (by decide)]; rwa [Nat.pow_succ] at h
    simp [leBytes, leNat, ih _ this]
    omega

theorem leBytes_length (w n : Nat) : (leBytes w n).length = w := by
  induction w generalizing n with
  | zero => rfl
  | succ w ih => simp [leBytes, ih]

theorem readU_append (w n : Nat) (b : List Byte) (h : fits w n = true) :
    readU w (leBytes w n ++ b) = some (n, b) := by
  have hl := leBytes_length w n
  simp only [fits, decide_eq_true_eq] at h
  unfold readU
  rw [if_neg (by simp [hl]), List.take_left' hl, List.drop_left' hl, leNat_leBytes _ _ h]

theorem leBytes_ones (w n : Nat) (h : (leBytes w n).all (· == 0xFF) = true) (hn : n < 256 ^ w) :
    n + 1 = 256 ^ w := by
  induction w generalizing n with
  | zero => simp at hn; simp [hn]
  | succ w ih =>
    have hd : n / 256 < 256 ^ w := by rw [Nat.div_lt_iff_lt_mul (by decide)]; rwa [Nat.pow_succ] at hn
    simp only [leBytes, List.all_cons, Bool.and_eq_true] at h
    have h1 : n % 256 = 255 := by
      have := congrArg BitVec.toNat (beq_iff_eq.mp h.1)
      simpa using this
    have h2 := ih _ h.2 hd
    rw [Nat.pow_succ]
    omega

theorem readOpt_append (w : Nat) (v : Option Nat) (b : List Byte) (h : optFits w v = true) :
    readOpt w (optBytes w v ++ b) = some (v, b) := by
  cases v with
  | none =>
    have hl : (List.replicate w (0xFF : Byte)).length = w := List.length_replicate
    unfold readOpt optBytes
    rw [if_neg (by simp), List.take_left' hl, List.drop_left' hl]
    simp [optNat]
  | some n =>
    have hl := leBytes_length w n
    simp only [optFits, decide_eq_true_eq] at h
    unfold readOpt optBytes
    simp only
    rw [if_neg (by simp [hl]), List.take_left' hl, List.drop_left' hl]
    unfold optNat
    rw [if_neg (fun hh => by have := leBytes_ones w n hh (by omega); omega), leNat_leBytes _ _ (by omega)]

theorem readText_append (t : Text) (b : List Byte) (h : textFits t = true) :
    readText (textBytes t ++ b) = some (t, b) := by
  simp only [textFits, Bool.and_eq_true, decide_eq_true_eq, List.all_eq_true, fits, Nat.pow_one] at h
  have hm : (t.map (BitVec.ofNat 8)).map BitVec.toNat = t := by
    rw [List.map_map]
    conv => rhs; rw [← List.map_id t]
    exact List.map_congr_left fun x hx => by simp [Nat.mod_eq_of_lt (h.2 x hx)]
  have hl : (t.map (BitVec.ofNat 8)).length = t.length := List.length_map _
  simp [textBytes, leBytes, readText, Nat.mod_eq_of_lt h.1, List.take_left' hl, List.drop_left' hl, hm]

theorem readN_append {α : Type} (f : α → List Byte) (g : List Byte → Read α) (l : List α) (b : List Byte)
    (h : ∀ x ∈ l, ∀ b, g (f x ++ b) = some (x, b)) : readN g l.length (l.flatMap f ++ b) = some (l, b) := by
  induction l with
  | nil => rfl
  | cons a l ih =>
    simp only [List.length_cons, List.flatMap_cons, List.append_assoc, readN]
    rw [h a List.mem_cons_self]
    simp only
    rw [ih fun x hx => h x (List.mem_cons_of_mem _ hx)]

theorem readList_append {α : Type} (f : α → List Byte) (g : List Byte → Read α) (l : List α) (b : List Byte)
    (hl : listFits l = true) (h : ∀ x ∈ l, ∀ b, g (f x ++ b) = some (x, b)) :
    readList g (listBytes f l ++ b) = some (l, b) := by
  simp only [listFits, decide_eq_true_eq] at hl
  simp [listBytes, leBytes, readList, Nat.mod_eq_of_lt hl, readN_append f g l b h]

/-! ## The family -/

theorem readU_alone (w n : Nat) (h : fits w n = true) : readU w (leBytes w n) = some (n, []) := by
  simpa using readU_append w n [] h

theorem readOpt_alone (w : Nat) (v : Option Nat) (h : optFits w v = true) :
    readOpt w (optBytes w v) = some (v, []) := by
  simpa using readOpt_append w v [] h

theorem readText_alone (t : Text) (h : textFits t = true) : readText (textBytes t) = some (t, []) := by
  simpa using readText_append t [] h

theorem readList_alone {α : Type} (f : α → List Byte) (g : List Byte → Read α) (l : List α)
    (hl : listFits l = true) (h : ∀ x ∈ l, ∀ b, g (f x ++ b) = some (x, b)) :
    readList g (listBytes f l) = some (l, []) := by
  simpa using readList_append f g l [] hl h

theorem readLine_append (e : RawLine) (b : List Byte) (h : e.wf = true) :
    readLine (lineBytes e ++ b) = some (e, b) := by
  simp only [RawLine.wf, Bool.and_eq_true] at h
  simp [readLine, lineBytes, andThen, readU_append, h]

theorem readHeader_append (e : RawHeader) (b : List Byte) (h : e.wf = true) :
    readHeader (headerBytes e ++ b) = some (e, b) := by
  simp only [RawHeader.wf, Bool.and_eq_true] at h
  simp [readHeader, headerBytes, andThen, readU_append, readText_append, h]

theorem readStep_append (e : RawStep) (b : List Byte) (h : e.wf = true) :
    readStep (stepBytes e ++ b) = some (e, b) := by
  simp only [RawStep.wf, Bool.and_eq_true] at h
  simp [readStep, stepBytes, andThen, readU_append, h]

theorem readClass_append (c : RawClass) (b : List Byte) (h : c.wf = true) :
    readClass (classBytes c ++ b) = some (c, b) := by
  simp only [RawClass.wf, Bool.and_eq_true] at h
  simp [readClass, classBytes, andThen, readU_append, readText_append, h]

theorem readClass_alone (c : RawClass) (h : c.wf = true) : readClass (classBytes c) = some (c, []) := by
  simpa using readClass_append c [] h

theorem readProgram_alone (p : RawProgram) (h : p.wf = true) : readProgram (programBytes p) = some (p, []) := by
  simp only [RawProgram.wf, Bool.and_eq_true, List.all_eq_true] at h
  simp [readProgram, programBytes, andThen, readU_append, h,
    readList_alone stepBytes readStep p.steps h.1.2 fun x hx b => readStep_append x b (h.2 x hx)]

/-- A well-formed command whose kind, tag and payload section 11.5 gives is read back from them. -/
def Roundtrip.Statement (i : Instr) : Prop :=
  i.wf = true → ∀ kind tag b, requestTag i = some (kind, tag) → requestPayload i = some b →
    readRequest kind tag b = .request i

theorem Roundtrip.powerOn (strap : Level) : Statement (.powerOn strap) := by
  intro _ _ _ _ h; simp [requestTag] at h

theorem Roundtrip.resetLine (strap : Level) : Statement (.resetLine strap) := by
  intro _ _ _ _ h; simp [requestTag] at h

theorem Roundtrip.autoloadEnd (nacks : List Nat) : Statement (.autoloadEnd nacks) := by
  intro _ _ _ _ h; simp [requestTag] at h

theorem Roundtrip.laneTimeTick : Statement (.laneTimeTick) := by
  intro _ _ _ _ h; simp [requestTag] at h

theorem Roundtrip.clockReferenceAdvance : Statement (.clockReferenceAdvance) := by
  intro _ _ _ _ h; simp [requestTag] at h

theorem Roundtrip.conversion (values : List Nat) : Statement (.conversion values) := by
  intro _ _ _ _ h; simp [requestTag] at h

theorem Roundtrip.pulseEdge (input : PulseInput) : Statement (.pulseEdge input) := by
  intro _ _ _ _ h; simp [requestTag] at h

theorem Roundtrip.windowEnd : Statement (.windowEnd) := by
  intro _ _ _ _ h; simp [requestTag] at h

theorem Roundtrip.lineSample (levels : BitVec 24) : Statement (.lineSample levels) := by
  intro _ _ _ _ h; simp [requestTag] at h

theorem Roundtrip.entryBarrierActive : Statement (.entryBarrierActive) := by
  intro _ _ _ _ h; simp [requestTag] at h

theorem Roundtrip.entryBarrierInactive : Statement (.entryBarrierInactive) := by
  intro _ _ _ _ h; simp [requestTag] at h

theorem Roundtrip.slipPlateSwitchActive : Statement (.slipPlateSwitchActive) := by
  intro _ _ _ _ h; simp [requestTag] at h

theorem Roundtrip.slipPlateSwitchInactive : Statement (.slipPlateSwitchInactive) := by
  intro _ _ _ _ h; simp [requestTag] at h

theorem Roundtrip.exitBarrierBroken : Statement (.exitBarrierBroken) := by
  intro _ _ _ _ h; simp [requestTag] at h

theorem Roundtrip.exitBarrierClear : Statement (.exitBarrierClear) := by
  intro _ _ _ _ h; simp [requestTag] at h

theorem Roundtrip.wheelActive (side : Side) : Statement (.wheelActive side) := by
  intro _ _ _ _ h; simp [requestTag] at h

theorem Roundtrip.wheelInactive (side : Side) : Statement (.wheelInactive side) := by
  intro _ _ _ _ h; simp [requestTag] at h

theorem Roundtrip.driveReadyActive (side : Side) : Statement (.driveReadyActive side) := by
  intro _ _ _ _ h; simp [requestTag] at h

theorem Roundtrip.driveReadyInactive (side : Side) : Statement (.driveReadyInactive side) := by
  intro _ _ _ _ h; simp [requestTag] at h

theorem Roundtrip.estopActive : Statement (.estopActive) := by
  intro _ _ _ _ h; simp [requestTag] at h

theorem Roundtrip.estopInactive : Statement (.estopInactive) := by
  intro _ _ _ _ h; simp [requestTag] at h

theorem Roundtrip.ageExpiry (slot : Nat) : Statement (.ageExpiry slot) := by
  intro _ _ _ _ h; simp [requestTag] at h

theorem Roundtrip.entryWindowEnd : Statement (.entryWindowEnd) := by
  intro _ _ _ _ h; simp [requestTag] at h

theorem Roundtrip.settleExpiry : Statement (.settleExpiry) := by
  intro _ _ _ _ h; simp [requestTag] at h

theorem Roundtrip.quietExpiry : Statement (.quietExpiry) := by
  intro _ _ _ _ h; simp [requestTag] at h

theorem Roundtrip.brakeWindowEnd : Statement (.brakeWindowEnd) := by
  intro _ _ _ _ h; simp [requestTag] at h

theorem Roundtrip.presenceExpiry : Statement (.presenceExpiry) := by
  intro _ _ _ _ h; simp [requestTag] at h

theorem Roundtrip.spinUpExpiry : Statement (.spinUpExpiry) := by
  intro _ _ _ _ h; simp [requestTag] at h

theorem Roundtrip.brakingExpiry : Statement (.brakingExpiry) := by
  intro _ _ _ _ h; simp [requestTag] at h

theorem Roundtrip.stopExpiry : Statement (.stopExpiry) := by
  intro _ _ _ _ h; simp [requestTag] at h

theorem Roundtrip.clearExpiry : Statement (.clearExpiry) := by
  intro _ _ _ _ h; simp [requestTag] at h

theorem Roundtrip.markParking : Statement (.markParking) := by
  intro _ _ _ _ h; simp [requestTag] at h

theorem Roundtrip.endAxle : Statement (.endAxle) := by
  intro _ _ _ _ h; simp [requestTag] at h

theorem Roundtrip.guidanceSkipAxle : Statement (.guidanceSkipAxle) := by
  intro _ _ _ _ h; simp [requestTag] at h

theorem Roundtrip.guidanceReleaseVehicle : Statement (.guidanceReleaseVehicle) := by
  intro _ _ _ _ h; simp [requestTag] at h

theorem Roundtrip.pedalByte (byte : Byte) (stopOk : Bool) (idleUs : Nat) : Statement (.pedalByte byte stopOk idleUs) := by
  intro _ _ _ _ h; simp [requestTag] at h

theorem Roundtrip.pedalFrame (bytes : List Byte) : Statement (.pedalFrame bytes) := by
  intro _ _ _ _ h; simp [requestTag] at h

theorem Roundtrip.pedalSilenceExpiry : Statement (.pedalSilenceExpiry) := by
  intro _ _ _ _ h; simp [requestTag] at h

theorem Roundtrip.stepTimeout (station : Station) : Statement (.stepTimeout station) := by
  intro _ _ _ _ h; simp [requestTag] at h

theorem Roundtrip.showRefresh (station : Station) : Statement (.showRefresh station) := by
  intro _ _ _ _ h; simp [requestTag] at h

theorem Roundtrip.promptTransmitBegin : Statement (.promptTransmitBegin) := by
  intro _ _ _ _ h; simp [requestTag] at h

theorem Roundtrip.promptTransmitEnd : Statement (.promptTransmitEnd) := by
  intro _ _ _ _ h; simp [requestTag] at h

theorem Roundtrip.printerByte (byte : Byte) (stopOk : Bool) : Statement (.printerByte byte stopOk) := by
  intro _ _ _ _ h; simp [requestTag] at h

theorem Roundtrip.hello (window : Nat) : Statement (.hello window) := by
  intro _ _ _ _ h; simp [requestTag] at h

theorem Roundtrip.status (condition : PrinterCondition) : Statement (.status condition) := by
  intro _ _ _ _ h; simp [requestTag] at h

theorem Roundtrip.credit (n : Nat) : Statement (.credit n) := by
  intro _ _ _ _ h; simp [requestTag] at h

theorem Roundtrip.printerSilenceExpiry : Statement (.printerSilenceExpiry) := by
  intro _ _ _ _ h; simp [requestTag] at h

theorem Roundtrip.printerTransmitBegin : Statement (.printerTransmitBegin) := by
  intro _ _ _ _ h; simp [requestTag] at h

theorem Roundtrip.printerTransmitEnd : Statement (.printerTransmitEnd) := by
  intro _ _ _ _ h; simp [requestTag] at h

theorem Roundtrip.eepromWriteEnd (ack : Bool) : Statement (.eepromWriteEnd ack) := by
  intro _ _ _ _ h; simp [requestTag] at h

theorem Roundtrip.eepromAckTimeout : Statement (.eepromAckTimeout) := by
  intro _ _ _ _ h; simp [requestTag] at h

theorem Roundtrip.ctsChange (asserted : Bool) : Statement (.ctsChange asserted) := by
  intro _ _ _ _ h; simp [requestTag] at h

theorem Roundtrip.hostByte (byte : Byte) (stopOk : Bool) : Statement (.hostByte byte stopOk) := by
  intro _ _ _ _ h; simp [requestTag] at h

theorem Roundtrip.hostFrameReceived (kind : Nat) (tag : Nat) (payload : List Byte) : Statement (.hostFrameReceived kind tag payload) := by
  intro _ _ _ _ h; simp [requestTag] at h

theorem Roundtrip.requestTaken : Statement (.requestTaken) := by
  intro _ _ _ _ h; simp [requestTag] at h

theorem Roundtrip.hostTransmitBegin : Statement (.hostTransmitBegin) := by
  intro _ _ _ _ h; simp [requestTag] at h

theorem Roundtrip.hostTransmitEnd : Statement (.hostTransmitEnd) := by
  intro _ _ _ _ h; simp [requestTag] at h

theorem Roundtrip.getStatus (tag sect : Nat) :
    Statement (.getStatus tag sect) := by
  intro h k t b hk hb
  simp only [Instr.wf, Bool.and_eq_true] at h
  simp only [requestTag, requestPayload, Option.some.injEq, Prod.mk.injEq] at hk hb
  obtain ⟨rfl, rfl⟩ := hk; subst hb
  simp [readRequest, readOne, readClock, andThen, readU_append, readU_alone, readOpt_append, readOpt_alone,
    readText_append, h, done, taken]

theorem Roundtrip.restart (tag : Nat) :
    Statement (.restart tag) := by
  intro h k t b hk hb
  simp only [Instr.wf, Bool.and_eq_true] at h
  simp only [requestTag, requestPayload, Option.some.injEq, Prod.mk.injEq] at hk hb
  obtain ⟨rfl, rfl⟩ := hk; subst hb
  simp [readRequest, readOne, readClock, andThen, readU_append, readU_alone, readOpt_append, readOpt_alone,
    readText_append, h, done, taken]

theorem Roundtrip.setClock (tag year month day hour minute second : Nat) :
    Statement (.setClock tag year month day hour minute second) := by
  intro h k t b hk hb
  simp only [Instr.wf, Bool.and_eq_true] at h
  simp only [requestTag, requestPayload, Option.some.injEq, Prod.mk.injEq] at hk hb
  obtain ⟨rfl, rfl⟩ := hk; subst hb
  simp [readRequest, readOne, readClock, andThen, readU_append, readU_alone, readOpt_append, readOpt_alone,
    readText_append, h, done, taken]

theorem Roundtrip.setConfig (tag : Nat) (entries : List (Nat × Nat)) :
    Statement (.setConfig tag entries) := by
  intro h k t b hk hb
  simp only [Instr.wf, Bool.and_eq_true, List.all_eq_true] at h
  simp only [requestTag, requestPayload, Option.some.injEq, Prod.mk.injEq] at hk hb
  obtain ⟨rfl, rfl⟩ := hk; subst hb
  simp only [readRequest]
  rw [readList_alone _ readSetting entries h.1.2 fun x hx b => ?_]
  · simp [andThen, done, taken]
  · have := h.2 x hx
    simp [readSetting, andThen, readU_append, this]

theorem Roundtrip.getConfig (tag : Nat) :
    Statement (.getConfig tag) := by
  intro h k t b hk hb
  simp only [Instr.wf, Bool.and_eq_true] at h
  simp only [requestTag, requestPayload, Option.some.injEq, Prod.mk.injEq] at hk hb
  obtain ⟨rfl, rfl⟩ := hk; subst hb
  simp [readRequest, readOne, readClock, andThen, readU_append, readU_alone, readOpt_append, readOpt_alone,
    readText_append, h, done, taken]

theorem Roundtrip.setChannels (tag : Nat) (assignments : List (Nat × Nat)) :
    Statement (.setChannels tag assignments) := by
  intro h k t b hk hb
  simp only [Instr.wf, Bool.and_eq_true, List.all_eq_true] at h
  simp only [requestTag, requestPayload, Option.some.injEq, Prod.mk.injEq] at hk hb
  obtain ⟨rfl, rfl⟩ := hk; subst hb
  simp only [readRequest]
  rw [readList_alone _ readAssignment assignments h.1.2 fun x hx b => ?_]
  · simp [andThen, done, taken]
  · have := h.2 x hx
    simp [readAssignment, andThen, readU_append, this]

theorem Roundtrip.setLines (tag : Nat) (entries : List RawLine) :
    Statement (.setLines tag entries) := by
  intro h k t b hk hb
  simp only [Instr.wf, Bool.and_eq_true, List.all_eq_true] at h
  simp only [requestTag, requestPayload, Option.some.injEq, Prod.mk.injEq] at hk hb
  obtain ⟨rfl, rfl⟩ := hk; subst hb
  simp only [readRequest]
  rw [readList_alone _ readLine entries h.1.2 fun x hx b => readLine_append x b (h.2 x hx)]
  simp [andThen, done, taken]

theorem Roundtrip.loadClass (tag cls loaded : Nat) (fields : Option RawClass) :
    Statement (.loadClass tag cls loaded fields) := by
  intro h k t b hk hb
  simp only [Instr.wf, Bool.and_eq_true] at h
  simp only [requestTag, Option.some.injEq, Prod.mk.injEq] at hk
  obtain ⟨rfl, rfl⟩ := hk
  cases fields with
  | none =>
    simp only [requestPayload] at hb
    split at hb
    · cases hb
    · next hl =>
      cases hb
      simp [readRequest, readLoadClass, andThen, readU_append, readU_alone, h, hl, done, taken]
  | some f =>
    simp only [requestPayload] at hb
    split at hb
    · next hl =>
      cases hb
      have hf : f.wf = true := by simpa using h.2
      have h1 : fits 1 1 = true := by decide
      subst hl
      simp [readRequest, readLoadClass, andThen, readU_append, h, h1, readClass_alone f hf, done, taken]
    · cases hb

theorem Roundtrip.loadProgram (tag program unload : Nat) (content : Option RawProgram) :
    Statement (.loadProgram tag program unload content) := by
  intro h k t b hk hb
  simp only [Instr.wf, Bool.and_eq_true] at h
  simp only [requestTag, Option.some.injEq, Prod.mk.injEq] at hk
  obtain ⟨rfl, rfl⟩ := hk
  cases content with
  | none =>
    simp only [requestPayload] at hb
    split at hb
    · cases hb
    · next hl =>
      cases hb
      simp [readRequest, readLoadProgram, andThen, readU_append, readU_alone, h, hl, done, taken]
  | some c =>
    simp only [requestPayload] at hb
    split at hb
    · next hl =>
      cases hb
      have hf : c.wf = true := by simpa using h.2
      have h1 : fits 1 0 = true := by decide
      subst hl
      simp [readRequest, readLoadProgram, andThen, readU_append, h, h1, readProgram_alone c hf, done, taken]
    · cases hb

theorem Roundtrip.bookVehicle (tag : Nat) (id : Text) (cls : Nat) (expected : Option Nat) (parking : List Nat) :
    Statement (.bookVehicle tag id cls expected parking) := by
  intro h k t b hk hb
  simp only [Instr.wf, Bool.and_eq_true, List.all_eq_true] at h
  simp only [requestTag, requestPayload, Option.some.injEq, Prod.mk.injEq] at hk hb
  obtain ⟨rfl, rfl⟩ := hk; subst hb
  have hp := readList_alone (leBytes 1) (readU 1) parking h.1.2 fun x hx b => readU_append 1 x b (h.2 x hx)
  simp [readRequest, readBook, andThen, readText_append, readU_append, readOpt_append, h, hp, done, taken]

theorem Roundtrip.armVehicle (tag : Nat) (slot : Option Nat) :
    Statement (.armVehicle tag slot) := by
  intro h k t b hk hb
  simp only [Instr.wf, Bool.and_eq_true] at h
  simp only [requestTag, requestPayload, Option.some.injEq, Prod.mk.injEq] at hk hb
  obtain ⟨rfl, rfl⟩ := hk; subst hb
  simp [readRequest, readOne, readClock, andThen, readU_append, readU_alone, readOpt_append, readOpt_alone,
    readText_append, h, done, taken]

theorem Roundtrip.bindVehicle (tag slot : Nat) (id : Text) (cls : Option Nat) :
    Statement (.bindVehicle tag slot id cls) := by
  intro h k t b hk hb
  simp only [Instr.wf, Bool.and_eq_true] at h
  simp only [requestTag, requestPayload, Option.some.injEq, Prod.mk.injEq] at hk hb
  obtain ⟨rfl, rfl⟩ := hk; subst hb
  simp [readRequest, readOne, readClock, andThen, readU_append, readU_alone, readOpt_append, readOpt_alone,
    readText_append, h, done, taken]

theorem Roundtrip.discardVehicle (tag slot : Nat) :
    Statement (.discardVehicle tag slot) := by
  intro h k t b hk hb
  simp only [Instr.wf, Bool.and_eq_true] at h
  simp only [requestTag, requestPayload, Option.some.injEq, Prod.mk.injEq] at hk hb
  obtain ⟨rfl, rfl⟩ := hk; subst hb
  simp [readRequest, readOne, readClock, andThen, readU_append, readU_alone, readOpt_append, readOpt_alone,
    readText_append, h, done, taken]

theorem Roundtrip.getVehicle (tag slot : Nat) :
    Statement (.getVehicle tag slot) := by
  intro h k t b hk hb
  simp only [Instr.wf, Bool.and_eq_true] at h
  simp only [requestTag, requestPayload, Option.some.injEq, Prod.mk.injEq] at hk hb
  obtain ⟨rfl, rfl⟩ := hk; subst hb
  simp [readRequest, readOne, readClock, andThen, readU_append, readU_alone, readOpt_append, readOpt_alone,
    readText_append, h, done, taken]

theorem Roundtrip.listLane (tag : Nat) :
    Statement (.listLane tag) := by
  intro h k t b hk hb
  simp only [Instr.wf, Bool.and_eq_true] at h
  simp only [requestTag, requestPayload, Option.some.injEq, Prod.mk.injEq] at hk hb
  obtain ⟨rfl, rfl⟩ := hk; subst hb
  simp [readRequest, readOne, readClock, andThen, readU_append, readU_alone, readOpt_append, readOpt_alone,
    readText_append, h, done, taken]

theorem Roundtrip.skipAxle (tag : Nat) :
    Statement (.skipAxle tag) := by
  intro h k t b hk hb
  simp only [Instr.wf, Bool.and_eq_true] at h
  simp only [requestTag, requestPayload, Option.some.injEq, Prod.mk.injEq] at hk hb
  obtain ⟨rfl, rfl⟩ := hk; subst hb
  simp [readRequest, readOne, readClock, andThen, readU_append, readU_alone, readOpt_append, readOpt_alone,
    readText_append, h, done, taken]

theorem Roundtrip.releaseVehicle (tag : Nat) :
    Statement (.releaseVehicle tag) := by
  intro h k t b hk hb
  simp only [Instr.wf, Bool.and_eq_true] at h
  simp only [requestTag, requestPayload, Option.some.injEq, Prod.mk.injEq] at hk hb
  obtain ⟨rfl, rfl⟩ := hk; subst hb
  simp [readRequest, readOne, readClock, andThen, readU_append, readU_alone, readOpt_append, readOpt_alone,
    readText_append, h, done, taken]

theorem Roundtrip.ackFault (tag : Nat) :
    Statement (.ackFault tag) := by
  intro h k t b hk hb
  simp only [Instr.wf, Bool.and_eq_true] at h
  simp only [requestTag, requestPayload, Option.some.injEq, Prod.mk.injEq] at hk hb
  obtain ⟨rfl, rfl⟩ := hk; subst hb
  simp [readRequest, readOne, readClock, andThen, readU_append, readU_alone, readOpt_append, readOpt_alone,
    readText_append, h, done, taken]

theorem Roundtrip.setLive (tag station divider : Nat) :
    Statement (.setLive tag station divider) := by
  intro h k t b hk hb
  simp only [Instr.wf, Bool.and_eq_true] at h
  simp only [requestTag, requestPayload, Option.some.injEq, Prod.mk.injEq] at hk hb
  obtain ⟨rfl, rfl⟩ := hk; subst hb
  simp [readRequest, readOne, readClock, andThen, readU_append, readU_alone, readOpt_append, readOpt_alone,
    readText_append, h, done, taken]

theorem Roundtrip.traceList (tag selection start : Nat) :
    Statement (.traceList tag selection start) := by
  intro h k t b hk hb
  simp only [Instr.wf, Bool.and_eq_true] at h
  simp only [requestTag, requestPayload, Option.some.injEq, Prod.mk.injEq] at hk hb
  obtain ⟨rfl, rfl⟩ := hk; subst hb
  simp [readRequest, readOne, readClock, andThen, readU_append, readU_alone, readOpt_append, readOpt_alone,
    readText_append, h, done, taken]

theorem Roundtrip.traceRead (tag trace first count : Nat) :
    Statement (.traceRead tag trace first count) := by
  intro h k t b hk hb
  simp only [Instr.wf, Bool.and_eq_true] at h
  simp only [requestTag, requestPayload, Option.some.injEq, Prod.mk.injEq] at hk hb
  obtain ⟨rfl, rfl⟩ := hk; subst hb
  simp [readRequest, readOne, readClock, andThen, readU_append, readU_alone, readOpt_append, readOpt_alone,
    readText_append, h, done, taken]

theorem Roundtrip.traceRelease (tag trace : Nat) :
    Statement (.traceRelease tag trace) := by
  intro h k t b hk hb
  simp only [Instr.wf, Bool.and_eq_true] at h
  simp only [requestTag, requestPayload, Option.some.injEq, Prod.mk.injEq] at hk hb
  obtain ⟨rfl, rfl⟩ := hk; subst hb
  simp [readRequest, readOne, readClock, andThen, readU_append, readU_alone, readOpt_append, readOpt_alone,
    readText_append, h, done, taken]

theorem Roundtrip.setPartitions (tag brakeSize entrySize : Nat) :
    Statement (.setPartitions tag brakeSize entrySize) := by
  intro h k t b hk hb
  simp only [Instr.wf, Bool.and_eq_true] at h
  simp only [requestTag, requestPayload, Option.some.injEq, Prod.mk.injEq] at hk hb
  obtain ⟨rfl, rfl⟩ := hk; subst hb
  simp [readRequest, readOne, readClock, andThen, readU_append, readU_alone, readOpt_append, readOpt_alone,
    readText_append, h, done, taken]

theorem Roundtrip.certQueue (tag slot : Nat) (headers : List RawHeader) :
    Statement (.certQueue tag slot headers) := by
  intro h k t b hk hb
  simp only [Instr.wf, Bool.and_eq_true, List.all_eq_true] at h
  simp only [requestTag, requestPayload, Option.some.injEq, Prod.mk.injEq] at hk hb
  obtain ⟨rfl, rfl⟩ := hk; subst hb
  have hp := readList_alone headerBytes readHeader headers h.1.2 fun x hx b => readHeader_append x b (h.2 x hx)
  simp [readRequest, andThen, readU_append, h, hp, done, taken]

theorem Roundtrip.certAbort (tag slot : Nat) :
    Statement (.certAbort tag slot) := by
  intro h k t b hk hb
  simp only [Instr.wf, Bool.and_eq_true] at h
  simp only [requestTag, requestPayload, Option.some.injEq, Prod.mk.injEq] at hk hb
  obtain ⟨rfl, rfl⟩ := hk; subst hb
  simp [readRequest, readOne, readClock, andThen, readU_append, readU_alone, readOpt_append, readOpt_alone,
    readText_append, h, done, taken]

theorem Roundtrip.certList (tag : Nat) :
    Statement (.certList tag) := by
  intro h k t b hk hb
  simp only [Instr.wf, Bool.and_eq_true] at h
  simp only [requestTag, requestPayload, Option.some.injEq, Prod.mk.injEq] at hk hb
  obtain ⟨rfl, rfl⟩ := hk; subst hb
  simp [readRequest, readOne, readClock, andThen, readU_append, readU_alone, readOpt_append, readOpt_alone,
    readText_append, h, done, taken]

theorem Roundtrip.calRead (tag target : Nat) (channel : Option Nat) :
    Statement (.calRead tag target channel) := by
  intro h k t b hk hb
  simp only [Instr.wf, Bool.and_eq_true] at h
  simp only [requestTag, requestPayload, Option.some.injEq, Prod.mk.injEq] at hk hb
  obtain ⟨rfl, rfl⟩ := hk; subst hb
  simp [readRequest, readOne, readClock, andThen, readU_append, readU_alone, readOpt_append, readOpt_alone,
    readText_append, h, done, taken]

theorem Roundtrip.calWrite (tag target : Nat) (channel : Option Nat) (content : RawCal) :
    Statement (.calWrite tag target channel content) := by
  intro h k t b hk hb
  simp only [Instr.wf, Bool.and_eq_true] at h
  simp only [requestTag, Option.some.injEq, Prod.mk.injEq] at hk
  obtain ⟨rfl, rfl⟩ := hk
  cases content with
  | channel z g v =>
    simp only [requestPayload, calBytes] at hb
    split at hb
    · next ht =>
      cases hb; subst ht
      simp only [RawCal.wf, Bool.and_eq_true] at h
      simp [readRequest, readCal, andThen, readU_append, readU_alone, readOpt_append, h, done, taken]
    · cases hb
  | constants dd ds p sp =>
    simp only [requestPayload, calBytes] at hb
    split at hb
    · next ht =>
      cases hb; subst ht
      simp only [RawCal.wf, Bool.and_eq_true] at h
      simp [readRequest, readCal, andThen, readU_append, readU_alone, readOpt_append, h, done, taken]
    · cases hb
  | none =>
    simp only [requestPayload, calBytes] at hb
    split at hb
    · next ht =>
      cases hb
      obtain ⟨m, rfl⟩ : ∃ m, target = m + 2 := ⟨target - 2, by omega⟩
      simp [readRequest, readCal, andThen, readU_append, readOpt_alone, h, done, taken]
    · cases hb

theorem Roundtrip.calZero (tag channel : Nat) :
    Statement (.calZero tag channel) := by
  intro h k t b hk hb
  simp only [Instr.wf, Bool.and_eq_true] at h
  simp only [requestTag, requestPayload, Option.some.injEq, Prod.mk.injEq] at hk hb
  obtain ⟨rfl, rfl⟩ := hk; subst hb
  simp [readRequest, readOne, readClock, andThen, readU_append, readU_alone, readOpt_append, readOpt_alone,
    readText_append, h, done, taken]

theorem Roundtrip.calSpan (tag channel reference : Nat) :
    Statement (.calSpan tag channel reference) := by
  intro h k t b hk hb
  simp only [Instr.wf, Bool.and_eq_true] at h
  simp only [requestTag, requestPayload, Option.some.injEq, Prod.mk.injEq] at hk hb
  obtain ⟨rfl, rfl⟩ := hk; subst hb
  simp [readRequest, readOne, readClock, andThen, readU_append, readU_alone, readOpt_append, readOpt_alone,
    readText_append, h, done, taken]

theorem Roundtrip.setCounter (tag value : Nat) :
    Statement (.setCounter tag value) := by
  intro h k t b hk hb
  simp only [Instr.wf, Bool.and_eq_true] at h
  simp only [requestTag, requestPayload, Option.some.injEq, Prod.mk.injEq] at hk hb
  obtain ⟨rfl, rfl⟩ := hk; subst hb
  simp [readRequest, readOne, readClock, andThen, readU_append, readU_alone, readOpt_append, readOpt_alone,
    readText_append, h, done, taken]

end Sys2Proof.Laws
end

