-- ==== Sys2Proof/Laws/Runs.lean ====
section
/-! SUPPORT. How many blocks the operations on block lists leave: none is made and none is lost (R141, R142). -/

namespace Sys2Proof.Machine

theorem Runs.count_snoc (r : Runs) (p : Nat × Nat) : Runs.count (Runs.snoc r p) = Runs.count r + p.2 := by
  induction r with
  | nil =>
    obtain ⟨a, n⟩ := p
    cases n <;> simp [Runs.snoc, Runs.count]
  | cons q r ih =>
    obtain ⟨a, n⟩ := p
    cases n with
    | zero => cases r <;> simp [Runs.snoc]
    | succ n =>
      obtain ⟨b, m⟩ := q
      cases r with
      | nil => simp only [Runs.snoc]; split <;> simp [Runs.count]
      | cons q' r =>
        rw [Runs.snoc]
        · simp only [Runs.count] at ih ⊢; omega
        · intro x h; simp at h

theorem Runs.count_append (r more : Runs) : Runs.count (Runs.append r more) = Runs.count r + Runs.count more := by
  unfold Runs.append
  induction more generalizing r with
  | nil => rfl
  | cons q more ih => rw [List.foldl_cons, ih, count_snoc]; obtain ⟨a, n⟩ := q; simp only [Runs.count]; omega

theorem Runs.count_pop {r r' : Runs} {b : Nat} (h : Runs.pop r = some (b, r')) :
    Runs.count r = Runs.count r' + 1 := by
  induction r with
  | nil => cases h
  | cons q r ih =>
    obtain ⟨a, n⟩ := q
    match n, h with
    | 0, h => simp only [Runs.count]; rw [Nat.zero_add]; exact ih h
    | 1, h => simp only [Runs.pop, Option.some.injEq, Prod.mk.injEq] at h; rw [← h.2]; simp only [Runs.count]; omega
    | n + 2, h =>
      simp only [Runs.pop, Option.some.injEq, Prod.mk.injEq] at h; rw [← h.2]; simp only [Runs.count]; omega

theorem Runs.count_insert (r : Runs) (p : Nat × Nat) : Runs.count (Runs.insert r p) = Runs.count r + p.2 := by
  induction r generalizing p with
  | nil =>
    obtain ⟨a, n⟩ := p
    cases n <;> simp [Runs.insert, Runs.count]
  | cons q r ih =>
    obtain ⟨a, n⟩ := p
    obtain ⟨b, m⟩ := q
    cases n with
    | zero => simp [Runs.insert]
    | succ n =>
      rw [Runs.insert]
      split
      · simp only [Runs.count]; omega
      · split
        · simp only [Runs.count]; omega
        · split
          · rw [ih]; simp only [Runs.count]; omega
          · simp only [Runs.count, ih]; omega

theorem Runs.count_merge (r more : Runs) : Runs.count (Runs.merge r more) = Runs.count r + Runs.count more := by
  unfold Runs.merge
  induction more generalizing r with
  | nil => rfl
  | cons q more ih => rw [List.foldl_cons, ih, count_insert]; obtain ⟨a, n⟩ := q; simp only [Runs.count]; omega

theorem Runs.count_takeFirst (r : Runs) (k : Nat) (h : k ≤ Runs.count r) :
    Runs.count (Runs.takeFirst r k).1 = k ∧ Runs.count (Runs.takeFirst r k).2 + k = Runs.count r := by
  induction r generalizing k with
  | nil => simp only [Runs.count] at h; simp [Runs.takeFirst, Runs.count]; omega
  | cons q r ih =>
    obtain ⟨a, n⟩ := q
    simp only [Runs.count] at h
    rw [Runs.takeFirst]
    split
    · subst_vars; simp [Runs.count]
    · split
      · simp only [Runs.count]; omega
      · have := ih (k - n) (by omega)
        simp only [Runs.count]
        omega

end Sys2Proof.Machine
end

