-- ==== Sys2Proof/Tests/Slice0.lean ====
section
/-! SUPPORT. Tests: ill-formed terms refused; the worked numbers of the spec; one step on small states; and for
each obligation with hypotheses, states that meet them. Expected values are the spec's, named in each group. -/

set_option Elab.async false
set_option linter.unreachableTactic false
set_option linter.unusedTactic false

namespace Sys2Proof.Tests

open Sys2Proof Sys2Proof.Machine

/-! ## WellFormed refuses what cannot reach the part -/

theorem test_wf_page_range : (Instr.autoloadEnd [19]).wf = true ∧ (Instr.autoloadEnd [20]).wf = false := by decide
theorem test_wf_conversion_count : (Instr.conversion (List.replicate 15 0)).wf = false := by decide
theorem test_wf_conversion_value : (Instr.conversion (List.replicate 16 4096)).wf = false := by decide
theorem test_wf_slot : (Instr.ageExpiry 31).wf = true ∧ (Instr.ageExpiry 32).wf = false := by decide
theorem test_wf_pedal_length : (Instr.pedalFrame (List.replicate 15 0)).wf = false := by decide
theorem test_wf_hello : (Instr.hello 256).wf = false ∧ (Instr.credit 256).wf = false := by decide
theorem test_wf_payload : (Instr.hostFrameReceived 1 0 (List.replicate 1025 0)).wf = false := by decide +kernel
theorem test_wf_kind : (Instr.hostFrameReceived 256 0 []).wf = false := by decide
theorem test_wf_tag : (Instr.getConfig 65535).wf = true ∧ (Instr.getConfig 65536).wf = false := by decide
theorem test_wf_byte : (Instr.getStatus 0 256).wf = false := by decide
theorem test_wf_four_bytes : (Instr.setCounter 0 4294967296).wf = false := by decide
theorem test_wf_optional : (Instr.armVehicle 0 (some 254)).wf = true ∧ (Instr.armVehicle 0 (some 255)).wf = false := by
  decide
theorem test_wf_text : (Instr.bindVehicle 0 0 [256] none).wf = false := by decide
theorem test_wf_list : (Instr.setConfig 0 (List.replicate 256 (1, 1))).wf = false := by decide +kernel
theorem test_wf_line : (Instr.setLines 0 [{ line := 0, fn := 0, level := 0, debounce := 256 }]).wf = false := by decide
theorem test_wf_header : (Instr.certQueue 0 0 [{ style := 256, text := [] }]).wf = false := by decide
theorem test_wf_class : (Instr.loadClass 0 0 1 (some { name := [], minServiceEff := 65536, minParkingEff := 0, maxImbalance := 0, maxDrag := 0, maxSideSlip := 0, maxAxleWeight := 0, entryProgram := 0, brakeProgram := 0, printCurves := 0 })).wf = false := by decide
theorem test_wf_program : (Instr.loadProgram 0 2 0 (some { first := 16, last := 256, entryStep := 16, steps := [] })).wf = false := by decide
theorem test_wf_step : (RawStep.wf { prompt := 0, red := 0, amber := 0, green := 0, showKind := 0, waitKind := 0, threshold := 65536, timeout := 0, nextAdvance := 0, nextTimeout := 0, request := 0 }) = false := by decide
theorem test_wf_calibration : (Instr.calWrite 0 0 (some 0) (.channel (some 65535) none 0)).wf = false := by decide
theorem test_wf_constants : (Instr.calWrite 0 1 none (.constants 65536 1 1 1)).wf = false := by decide

/-- The table gives no row any bits, so no word spells a command. -/
theorem test_no_word_is_a_command : decodeTableWord 8 0 = none ∧ decodeTableWord 32 0xFFFFFFFF = none := by decide

theorem test_withFetchWord : State.reset.withFetchWord 8 1 = State.reset := rfl

/-! ## The cyclic checks (R200, R201): the check values of the two polynomials -/

/-- "123456789", the usual check string: F4h and 29B1h for the parameters of R201 and R200. -/
theorem test_crc8 : crc8 [0x31, 0x32, 0x33, 0x34, 0x35, 0x36, 0x37, 0x38, 0x39] = 0xF4 := by decide +kernel
theorem test_crc16 : crc16 [0x31, 0x32, 0x33, 0x34, 0x35, 0x36, 0x37, 0x38, 0x39] = 0x29B1 := by decide +kernel

/-! ## The worked numbers of chapter 5 -/

/-- 5.2.1. -/
theorem test_force : wheelForce 5236 412 2861 = 3369 ∧ wheelForce 4700 398 2875 = 3020 := by decide
theorem test_force_clamps : wheelForce 12000 412 2861 = 6000 ∧ forceClamped 12000 412 2861 = true
    ∧ wheelForce 400 412 2861 = 0 ∧ forceClamped 400 412 2861 = false := by decide
/-- 5.3.1. -/
theorem test_slip : wheelSlip true 69 104 1000 500 = 246 ∧ wheelSlip true 69 106 1000 500 = 232
    ∧ wheelSlip true 0 104 1000 500 = 1000 ∧ wheelSlip false 0 0 1000 500 = 0 ∧ driveSpeed 69 1000 = 690 := by decide
/-- R94 on 5.2.1's sample, and 5.7.1's 312. -/
theorem test_imbalance : imbalance 200 3369 3020 = some 104 ∧ imbalance 200 150 40 = none
    ∧ imbalance 200 1200 826 = some 312 := by decide
/-- R96. -/
theorem test_drag : dragOf 8230 = 41 ∧ dragOf 7500 = 38 := by decide
/-- R98. -/
theorem test_side_slip : sideSlipOf (-384) 1000 = -38 ∧ sideSlipOf (-384) 800 = -48 ∧ sideSlipOf (-385) 1000 = -39
    ∧ sideSlipOf 20000 1000 = 999 := by decide
/-- 5.5.1 and 5.7.1. -/
theorem test_efficiency : efficiency 18219 27960 = 664 ∧ efficiency 17875 27960 = 652 ∧ efficiency 6220 27960 = 227
    ∧ efficiency 3150 27960 = 115 := by decide
/-- 5.6.1. -/
theorem test_span_gain : spanGain 3000 300700 405 = some 2862 ∧ spanGain 1000 32319 405 = none := by decide
/-- 3.6.1: the two means of an axle that leaves unsettled. -/
theorem test_unsettled_mean : expiryMean true 30407 13 = some 2339 ∧ expiryMean true 29851 13 = some 2296 := by decide

def res (l r dl dr imb : Nat) : AxleResult :=
  { maxL := l, maxR := r, dragL := dl, dragR := dr, imbalanceMax := some imb, pedalAtMax := none,
    endCause := .release, completed := 0, zeroSubstituted := false, overrange := false, traceTruncated := false,
    noTrace := false, pedalPartial := false, traceId := none }

def axle (wl wr : Nat) (slip : Int) (parking : Bool) (sv pk : Option AxleResult) : Axle :=
  { Axle.fresh parking with weightL := some wl, weightR := some wr, sideSlip := some slip, service := sv,
                            parkingResult := pk }

/-- Class 2 of 5.7.1. -/
def class2 : ClassEntry :=
  { name := txt "BUS", minServiceEff := 500, minParkingEff := 160, maxImbalance := 300, maxDrag := 100,
    maxSideSlip := 70, maxAxleWeight := 11500, entryProgram := 0, brakeProgram := 1, printCurves := true }

/-- The three axles of BX-2207. -/
def bx2207 : List Axle :=
  [ axle 3562 3558 (-38) false (some (res 2460 2330 35 40 62)) none
  , axle 5240 5240 15 true (some (res 3402 3035 41 38 108)) (some (res 1610 1540 0 0 0))
  , axle 5187 5173 10 true (some (res 3360 3288 52 47 312)) (some (res 1580 1490 0 0 0)) ]

/-- 5.7.1: the totals and the one failed item. -/
theorem test_totals : (totalsOf (some class2) bx2207).mass = 27960
    ∧ (totalsOf (some class2) bx2207).serviceEff = some 652 ∧ (totalsOf (some class2) bx2207).parkingEff = some 227
    ∧ (totalsOf (some class2) bx2207).verdicts.axles.map AxleVerdicts.imbalance = [.pass, .pass, .fail]
    ∧ (totalsOf (some class2) bx2207).verdicts.overall = .fail
    ∧ (totalsOf none bx2207).verdicts.overall = .incomplete := by decide

/-- 2.1.1: converting result times, before and after the reference moves. -/
theorem test_wall_clock :
    convertTime { now := 0, refLane := 3600000, refMs := msOfDate 2024 3 1 8 0 0, clockSet := true } 3250500
      = some { year := 2024, month := 3, day := 1, hour := 7, minute := 54, second := 10 }
    ∧ convertTime { now := 0, refLane := 3600000, refMs := msOfDate 2024 3 1 8 0 0, clockSet := true } 90001234
      = some { year := 2024, month := 3, day := 2, hour := 8, minute := 0, second := 1 }
    ∧ convertTime ({ now := 1077341824, refLane := 3600000, refMs := msOfDate 2024 3 1 8 0 0, clockSet := true }
        : TimeBase).advance 3250500
      = some { year := 2024, month := 3, day := 1, hour := 7, minute := 54, second := 10 } := by decide +kernel

/-- 8.1.1: the two resizes of the trace store. -/
theorem test_partitions :
    (resizePartitions 24576 4096 TraceStore.reset).entryFree = [(24576, 4096)]
    ∧ (resizePartitions 24576 4096 TraceStore.reset).unassigned = [(28672, 4096)]
    ∧ (resizePartitions 28672 4096 (resizePartitions 24576 4096 TraceStore.reset)).brakeFree
      = [(0, 24576), (28672, 4096)] := by decide +kernel

/-! ## Small states -/

def laneFns : List ChannelFn := [.brakeL, .brakeR, .weighL, .weighR, .plate]
def inputFns : List LineFn :=
  [.entryBarrier, .slipPlateSwitch, .exitBarrier, .wheelL, .wheelR, .driveReadyL, .driveReadyR, .estop]

/-- A lane set up: channels, input lines, calibration and constants of 5.3.1, class 2 loaded, the store READY. -/
def lane : State :=
  { State.reset with
    sig := { Signals.reset with
      channels := laneFns.map (fun f => { Channel.reset with fn := f }) ++ List.replicate 11 Channel.reset
      lines := inputFns.map (fun f => { Line.reset with fn := f }) ++ List.replicate 16 Line.reset }
    vt := { VehicleTable.reset with classes := (List.replicate 8 none).set 2 (some class2) }
    cal := { CalStore.reset with
      state := .ready, headerStored := true, copyA := { value := 7, stored := true },
      copyB := { value := 6, stored := true }, counter := 7, available := true, current := .a
      constants := { dd := 1000, ds := 500, plate := 1000, testSpeed := 700, valid := true, stored := true }
      channels := List.replicate 16 { zcal := some 400, gain := some 4096, valid := true, stored := true } } }

/-- An input line's debounced state set. -/
def withInput (f : LineFn) (b : Bool) (s : State) : State :=
  s.onSig fun g => { g with lines := g.lines.map (fun l => if l.fn = f then { l with debounced := b } else l) }

/-- One edge on its way to its owner, stamped 0. -/
def sent (f : LineFn) (active : Bool) (s : State) : State :=
  s.onSig fun g => { g with edges := [{ fn := f, active := active, stamp := 0 }] }

/-- The same state when the edge has been taken. -/
def taken (s : State) : State := s.onSig fun g => { g with edges := [] }

theorem takeEdge_sent (f : LineFn) (a : Bool) (s : State) : takeEdge f a (sent f a s) = some (0, taken s) := by
  simp [takeEdge, sent, taken, State.onSig, dropEdge]

/-- A record in a slot. -/
def withRecord (k : Nat) (r : Record) (s : State) : State :=
  s.onVt fun v => { v with records := v.records.set k r }

/-- A learned vehicle in the lane with one axle to test, its entry phase ended. -/
def oneAxle : Record :=
  { Record.free with origin := .dynamic, state := .inLane, cls := 2, entryNumber := some 1, entryDone := true,
                     axles := [axle 3562 3558 (-38) false none none] }

/-- The lane with that vehicle in slot 0 at the head, the brake station in a state on it. -/
def testing (st : BrakeState) : State :=
  ((withRecord 0 oneAxle lane).onVt fun v => { v with queue := [0] }).onBrake fun b =>
    { b with state := st, vehicle := some 0, axle := if st = .waitWheels then none else some 1 }

/-- The entry station bound to a vehicle in slot 0. -/
def binding : State :=
  ((withRecord 0 { oneAxle with entryDone := false } lane).onVt fun v => { v with queue := [0] }).onEntry fun e =>
    { e with vehicle := some 0 }

/-- A COMPLETE record without a job. -/
def complete : Record := { oneAxle with state := .complete, totals := some (totalsOf none []) }

def calmNow (s : State) : Bool :=
  decide (s.work = Work.none) && (s.cal.writing.isSome || s.cal.queue.isEmpty)
    && s.cal.collection.all (fun c => !channelBusy c.channel s)

theorem calm_of {s : State} (h : calmNow s = true) : Calm s := by
  simp only [calmNow, Bool.and_eq_true, Bool.or_eq_true, decide_eq_true_eq, List.isEmpty_iff] at h
  refine ⟨h.1.1, h.1.2, fun c hc => ?_⟩
  have := h.2
  rw [hc] at this
  simpa using this

/-- Both RUN outputs on. -/
def running (s : State) : State := setRun true s

/-- Lane time at a value. -/
def at_ (t : LaneTime) (s : State) : State := s.onTime fun b => { b with now := t }

/-! ## States that meet the hypotheses of the statements, clause by clause -/

theorem test_hyp_StepRunsTheFrontCommand : ({ lane with pending := [.windowEnd] } : State).pending = .windowEnd :: []
    ∧ lane.pending = [] := ⟨rfl, rfl⟩

def torn : State := lane.onCal fun c =>
  { c with writing := some { page := 255, values := .counter 8, began := 0 }, queue := [.commit] }

theorem test_hyp_PowerOnAndResetLineGiveTheResetState : lane.cal.writing = none
    ∧ torn.cal.writing = some { page := 255, values := .counter 8, began := 0 } ∧ 255 < 256 ∧ torn.eeprom.wf = true := by
  (with_reducible and_intros) <;> first | rfl | decide

/-- An EEPROM with a good header and both counter copies. -/
def written : Eeprom :=
  Eeprom.writeList (Eeprom.writeList (Eeprom.writeList [] 0 StoredValues.header.page) 32 (StoredValues.counter 9).page)
    64 (StoredValues.counter 8).page

theorem good_page (m : Eeprom) (p : Nat) (h : (crc8 ((m.page p).take 31) == (m.page p).getD 31 0) = true) :
    readPage m [] p = .good (m.page p) := by
  simp only [readPage, h, if_true]; rfl

theorem test_hyp_AutoloadLoadsTheImage : State.reset.cal.state = .loading
    ∧ headerFault State.reset.eeprom [] = some .headerCrc
    ∧ headerFault State.reset.eeprom [0] = some .noAnswer
    ∧ headerFault written [] = none ∧ ({ State.reset with eeprom := written } : State).cal.state = .loading
    ∧ readPage written [] 1 = .good (written.page 1) ∧ readPage written [] 2 = .good (written.page 2) := by
  refine ⟨rfl, ?_, ?_, ?_, rfl, good_page _ _ ?_, good_page _ _ ?_⟩ <;> decide +kernel

/-- The same with good lane constants, channel 15 in range, and channel 14 with a zero of 0. -/
def recorded : Eeprom :=
  Eeprom.writeList (Eeprom.writeList (Eeprom.writeList written 96 (StoredValues.constants 1000 500 1000 700).page)
    (32 * 19) (StoredValues.channel (some 400) (some 4096) true).page)
    (32 * 18) (StoredValues.channel (some 0) (some 4096) true).page

theorem test_hyp_AutoloadLoadsTheImage_records :
    Calm State.reset ∧ State.reset.port.notices.length + 18 ≤ 32
    ∧ readPage written [2] (copyPage .a) = .good (written.page 1) ∧ readPage written [2] (copyPage .b) = .bad .noAnswer
    ∧ headerFault written [2] = none ∧ headerFault written [1, 2] = none
    ∧ readPage written [1, 2] 1 = .bad .noAnswer ∧ readPage written [1, 2] 2 = .bad .noAnswer
    ∧ headerFault recorded [] = none ∧ readPage recorded [] 3 = .good (recorded.page 3)
    ∧ constantsOk (leNat ((recorded.page 3).take 2)) 500 1000 700 = true
    ∧ readPage recorded [] (4 + 15) = .good (recorded.page 19)
    ∧ channelCalOk (optNat ((recorded.page 19).take 2)) (some 4096) 1 = true
    ∧ readPage recorded [] (4 + 14) = .good (recorded.page 18)
    ∧ channelCalOk (optNat ((recorded.page 18).take 2)) (some 4096) 1 = false
    ∧ readPage recorded [4] (4 + 0) = .bad .noAnswer ∧ readPage recorded [3] 3 = .bad .noAnswer := by
  refine ⟨calm_of rfl, by decide, ?_, rfl, ?_, ?_, rfl, rfl, ?_, good_page _ _ ?_, ?_, good_page _ _ ?_, ?_,
    good_page _ _ ?_, ?_, rfl, rfl⟩
  · exact (if_neg (by decide)).trans (if_pos (by decide +kernel))
  all_goals decide +kernel

theorem test_hyp_LaneTimeAndTheReferenceMoveForward :
    Calm (at_ 1073741824 lane)
    ∧ 2 ^ 30 ≤ ((at_ 1073741824 lane).time.now - (at_ 1073741824 lane).time.refLane).toNat
    ∧ (at_ 1073741824 lane).time.refMs + 2 ^ 30 ≤ lastMs
    ∧ (let s := (at_ 1073741824 lane).onTime fun b => { b with refMs := lastMs }
       Calm s ∧ 2 ^ 30 ≤ (s.time.now - s.time.refLane).toNat ∧ lastMs < s.time.refMs + 2 ^ 30)
    ∧ (let s := at_ 1073741823 lane; Calm s ∧ (s.time.now - s.time.refLane).toNat < 2 ^ 30) := by
  (with_reducible and_intros) <;> first | exact calm_of rfl | decide

/-- Channel 0 faulted or not, with its good run, after three conversions of the window. -/
def sensed (f : Bool) (good : Nat) : State :=
  lane.onSig fun g => { g with
    convs := 3, channels := g.channels.set 0 { Channel.reset with faulted := f, goodRun := good, railRun := 7 } }

theorem test_hyp_ConversionAddsToTheSumsAndMovesTheSensorState :
    (List.replicate 16 4095).length = (sensed false 0).sig.channels.length
    ∧ (sensed false 0).port.notices.length + (sensed false 0).sig.channels.length ≤ 32
    ∧ (sensed false 0).sig.channels[1]?.map Channel.fn = some .brakeR
    ∧ Calm (sensed false 0) ∧ (sensed false 0).sig.convs < 4
    ∧ (sensed false 0).sig.channels[0]?.map Channel.faulted = some false
    ∧ Calm (sensed true 398) ∧ (sensed true 398).sig.channels[0]?.map Channel.goodRun = some 398
    ∧ Calm (sensed true 399) ∧ (sensed true 399).sig.channels[0]?.map Channel.faulted = some true
    ∧ (List.replicate 16 0)[0]? = some 0 ∧ (List.replicate 16 4095)[0]? = some 4095
    ∧ (List.replicate 16 1)[0]? = some 1 ∧ (List.replicate 16 4094)[15]? = some 4094 := by
  (with_reducible and_intros) <;> first | exact calm_of rfl | rfl | decide

/-- R36: two accepted changes that end at the prescaler in force clear the residue and keep the counted units. -/
theorem test_prescale_twice :
    (({ Pulse.reset with prescale := 4, inForce := 4, residue := 3, total := 7 } : Pulse).setPrescale 8).setPrescale 4
      = { Pulse.reset with prescale := 4, inForce := 4, residue := 0, total := 7 } := by decide

/-- R39: a red lamp flashing on an active-LOW line, before and after the middle of the flash period. -/
theorem test_driven :
    let l : Line := { Line.reset with fn := .entryRed, level := .low }
    let s := lane.onSig fun g => { g with outputs := { g.outputs with entryRed := .flash } }
    l.driven (at_ 499 s) = some .low ∧ l.driven (at_ 500 s) = some .high
      ∧ ({ l with fn := .entryBarrier } : Line).driven s = none ∧ ({ l with fn := .none } : Line).driven s = none := by
  decide

theorem test_hyp_PulseEdgeCountsThroughThePrescaler : Calm lane
    ∧ Pulse.reset.inForce ≤ Pulse.reset.residue + 1
    ∧ (Pulse.reset.setPrescale 2).residue + 1 < { Pulse.reset with inForce := 3 }.inForce := by
  (with_reducible and_intros) <;> first | exact calm_of rfl | decide

theorem test_hyp_WindowEndClosesSumsAndTotals : Calm (at_ 10 (sensed false 0)) ∧ (at_ 10 (sensed false 0)).cal.collection = none
    ∧ (at_ 10 (sensed false 0)).time.now.toNat % 10 = 0 ∧ 0 < (at_ 10 (sensed false 0)).sig.convs := by
  (with_reducible and_intros) <;> first | exact calm_of rfl | rfl | decide

/-- Line 0 with a pending change that started at 0. -/
def pendingChange : State := lane.onSig fun g => { g with lines := g.lines.modify 0 fun l => { l with change := some 0 } }

theorem test_hyp_LineSampleDebouncesEveryInput : Calm pendingChange
    ∧ (∃ l, pendingChange.sig.lines[0]? = some l ∧ l.fn.isInput = true
        ∧ l.reads ((1 : BitVec 24).getLsbD 0) ≠ l.debounced ∧ l.reads ((0 : BitVec 24).getLsbD 0) = l.debounced
        ∧ l.debounce ≤ ((20 : LaneTime) - l.change.getD 0).toNat
        ∧ ¬ l.debounce ≤ ((19 : LaneTime) - l.change.getD 0).toNat)
    ∧ ∃ l, pendingChange.sig.lines[23]? = some l ∧ l.fn.isInput = false := by
  refine ⟨calm_of rfl, ⟨_, rfl, rfl, ?_, ?_, ?_, ?_⟩, ⟨_, rfl, rfl⟩⟩ <;> decide

theorem test_hyp_EveryRequestIsAnsweredOnce : Calm lane ∧ lane.cal.collection = none
    ∧ requestTag (.getConfig 65535) = some (5, 65535) ∧ 5 ≠ 0x1D ∧ 5 ≠ 0x1E ∧ reachesOwner (.getConfig 65535) lane = true := by
  (with_reducible and_intros) <;> first | exact calm_of rfl | rfl | decide

theorem test_hyp_ReportsAnswerWithoutChange : Calm lane ∧ reachesOwner (.getConfig 0) lane = true
    ∧ reachesOwner (.listLane 0) lane = true ∧ reachesOwner (.certList 0) lane = true := by
  (with_reducible and_intros) <;> first | exact calm_of rfl | rfl

theorem test_hyp_CalReadReportsTheImage : Calm lane ∧ reachesOwner (.calRead 0 3 (some 15)) lane = true := by
  (with_reducible and_intros) <;> first | exact calm_of rfl | rfl

theorem test_hyp_GetStatusReportsAndClearsTheOverflow : Calm lane ∧ reachesOwner (.getStatus 0 8) lane = true
    ∧ reachesOwner (.getStatus 0 9) lane = true ∧ 8 < 9 ∧ 8 ≤ 8 := by
  (with_reducible and_intros) <;> first | exact calm_of rfl | rfl | decide

theorem test_hyp_GetVehicleRenewsTheRecord : Calm (testing .zeroing) ∧ reachesOwner (.getVehicle 0 32) (testing .zeroing) = true
    ∧ reachesOwner (.getVehicle 0 0) (testing .zeroing) = true ∧ reachesOwner (.getVehicle 0 31) (testing .zeroing) = true
    ∧ 31 < 32 ∧ ((testing .zeroing).record 31).state = .free ∧ ((testing .zeroing).record 0).state ≠ .free := by
  (with_reducible and_intros) <;> first | exact calm_of rfl | rfl | decide

theorem test_hyp_TraceReportsAnswerWithoutChange : Calm lane ∧ reachesOwner (.traceList 0 1 1) lane = true
    ∧ reachesOwner (.traceRead 0 1 0 1) lane = true := by
  (with_reducible and_intros) <;> first | exact calm_of rfl | rfl

theorem test_hyp_ClockAndLiveRequestsTakeTheirValues : Calm lane
    ∧ reachesOwner (.setClock 0 2024 2 29 23 59 59) lane = true ∧ DateInRange 2024 2 29 23 59 59
    ∧ reachesOwner (.setClock 0 2100 1 1 0 0 0) lane = true ∧ ¬ DateInRange 2100 1 1 0 0 0
    ∧ ¬ DateInRange 2023 2 29 0 0 0 ∧ ¬ DateInRange 2024 4 31 0 0 0 ∧ reachesOwner (.setLive 0 1 100) lane = true := by
  simp only [← dateOk_iff]
  (with_reducible and_intros) <;> first | exact calm_of rfl | rfl | decide

/-- Accepted: DYN_MAX 4, LATENCY 100 with WINDOW 19; refused: an unknown identifier, a joint range of 120, a DYN_MAX below
the dynamic count, a changed SLIP_LIMIT outside IDLE. -/
theorem test_hyp_SetConfigTakesEveryValueOrNone :
    (let es := [(1, 4), (14, 100), (15, 19)]
     Calm lane ∧ reachesOwner (.setConfig 0 es) lane = true ∧ ConfigFieldsOk es lane ∧ ConfigStateOk es lane
       ∧ ConfigIdleOk es lane)
    ∧ reachesOwner (.setConfig 0 [(19, 0)]) lane = true ∧ ¬ ConfigFieldsOk [(19, 0)] lane
    ∧ ¬ ConfigFieldsOk [(14, 100), (15, 20)] lane
    ∧ (let s := withRecord 31 complete lane
       Calm s ∧ reachesOwner (.setConfig 0 [(1, 0)]) s = true ∧ ConfigFieldsOk [(1, 0)] s ∧ ¬ ConfigStateOk [(1, 0)] s)
    ∧ (let s := testing .zeroing
       Calm s ∧ reachesOwner (.setConfig 0 [(10, 1000)]) s = true ∧ ConfigFieldsOk [(10, 1000)] s
         ∧ ConfigStateOk [(10, 1000)] s ∧ ¬ ConfigIdleOk [(10, 1000)] s) := by
  simp only [configFieldsOk_iff]
  (with_reducible and_intros) <;>
    first
      | exact calm_of rfl
      | rfl
      | exact (configStateOk_iff (by decide) _).mpr (by decide +kernel)
      | exact (configIdleOk_iff (by decide) _).mpr (by decide +kernel)
      | exact fun h => absurd ((configStateOk_iff (by decide) _).mp h) (by decide +kernel)
      | exact fun h => absurd ((configIdleOk_iff (by decide) _).mp h) (by decide +kernel)
      | decide +kernel

/-- What the machine replies tells whether the operands of SET_CHANNELS are in order. -/
theorem channels_ok {as : List (Nat × Nat)} {s : State} (h : (setChannelTable as s).reply = some (.ok, .none)) :
    ChannelsFieldsOk as s ∧ ChannelsIdleOk as s := by
  obtain ⟨h1, h2, -⟩ := setChannelTable_cases as s
  by_cases hf : ChannelsFieldsOk as s
  · refine ⟨hf, ?_⟩
    by_contra hi
    rw [h2 hf hi] at h; cases h
  · rw [h1 hf] at h; cases h

theorem channels_bad {as : List (Nat × Nat)} {s : State} (h : (setChannelTable as s).reply = some (.badField, .none)) :
    ¬ ChannelsFieldsOk as s := fun hf => by
  obtain ⟨-, h2, h3⟩ := setChannelTable_cases as s
  by_cases hi : ChannelsIdleOk as s
  · rw [h3 hf hi] at h; cases h
  · rw [h2 hf hi] at h; cases h

theorem channels_busy {as : List (Nat × Nat)} {s : State} (h : (setChannelTable as s).reply = some (.busy, .none)) :
    ChannelsFieldsOk as s ∧ ¬ ChannelsIdleOk as s := by
  obtain ⟨h1, -, h3⟩ := setChannelTable_cases as s
  by_cases hf : ChannelsFieldsOk as s
  · exact ⟨hf, fun hi => by rw [h3 hf hi] at h; cases h⟩
  · rw [h1 hf] at h; cases h

/-- Accepted: BRAKE_L from channel 0 to 15; refused: BRAKE_R twice, a function taken from a busy station. -/
theorem test_hyp_SetChannelsChangesOnlyTheNamedFunctions :
    (let as := [(15, 1), (0, 0)]
     Calm lane ∧ reachesOwner (.setChannels 0 as) lane = true ∧ ChannelsFieldsOk as lane ∧ ChannelsIdleOk as lane)
    ∧ reachesOwner (.setChannels 0 [(15, 2)]) lane = true ∧ ¬ ChannelsFieldsOk [(15, 2)] lane
    ∧ (let s := testing .zeroing
       Calm s ∧ reachesOwner (.setChannels 0 [(0, 0)]) s = true ∧ ChannelsFieldsOk [(0, 0)] s
         ∧ ¬ ChannelsIdleOk [(0, 0)] s) := by
  (with_reducible and_intros) <;>
    first
      | exact calm_of rfl
      | rfl
      | exact (channels_ok (by decide +kernel)).1
      | exact (channels_ok (by decide +kernel)).2
      | exact channels_bad (by decide +kernel)
      | exact (channels_busy (by decide +kernel)).1
      | exact (channels_busy (by decide +kernel)).2

def entry23 : RawLine := { line := 23, fn := 8, level := 1, debounce := 250 }

theorem lines_bad {es : List RawLine} {s : State} (h : (setLines es s).reply = some (.badField, .none)) :
    ¬ LinesFieldsOk es s := fun hf => by
  obtain ⟨-, h2, h3⟩ := setLines_cases es s
  cases h4 : stationIdle .entry s
  · rw [h2 hf (.inl h4)] at h; cases h
  · cases h5 : stationIdle .brake s
    · rw [h2 hf (.inr h5)] at h; cases h
    · rw [h3 hf h4 h5] at h; cases h

theorem lines_ok {es : List RawLine} {s : State} (h : (setLines es s).reply ≠ some (.badField, .none)) :
    LinesFieldsOk es s := by
  by_contra hf
  exact h (by rw [(setLines_cases es s).1 hf]; rfl)

/-- Accepted: RUN_L on line 23; refused: line 24, and line 23 while the brake station is not IDLE. -/
theorem test_hyp_SetLinesRestartsTheNamedLines : Calm lane ∧ reachesOwner (.setLines 0 [entry23]) lane = true
    ∧ LinesFieldsOk [entry23] lane ∧ stationIdle .entry lane = true ∧ stationIdle .brake lane = true
    ∧ (let es := [{ entry23 with line := 24 }]
       reachesOwner (.setLines 0 es) lane = true ∧ ¬ LinesFieldsOk es lane)
    ∧ (let s := testing .zeroing
       Calm s ∧ reachesOwner (.setLines 0 [entry23]) s = true ∧ LinesFieldsOk [entry23] s
         ∧ stationIdle .brake s = false) := by
  (with_reducible and_intros) <;>
    first
      | exact calm_of rfl
      | rfl
      | exact lines_ok (by decide +kernel)
      | exact lines_bad (by decide +kernel)

/-- R24: a class with every field at its greatest value. -/
def rawClass : RawClass :=
  { name := List.replicate 12 126, minServiceEff := 2000, minParkingEff := 2000, maxImbalance := 1000, maxDrag := 6000
    maxSideSlip := 999, maxAxleWeight := 20000, entryProgram := 7, brakeProgram := 7, printCurves := 1 }

theorem class_ok {r : RawClass} (h : (classOf r).isSome = true) : ClassInRange r := by
  obtain ⟨e, he⟩ := Option.isSome_iff_exists.mp h
  exact ((classOf_eq_some r e).mp he).1

theorem class_bad {r : RawClass} (h : classOf r = none) : ¬ ClassInRange r := fun hr => by
  rw [(classOf_eq_some r _).mpr ⟨hr, rfl⟩] at h; cases h

/-- Loaded with every field at its bound, unloaded; refused: class 8, a print_curves byte of 2, a name of 13 characters, a
loaded form without fields. -/
theorem test_hyp_LoadClassReplacesTheEntry : Calm lane ∧ reachesOwner (.loadClass 0 7 1 (some rawClass)) lane = true
    ∧ ClassInRange rawClass ∧ reachesOwner (.loadClass 0 7 0 none) lane = true
    ∧ reachesOwner (.loadClass 0 8 0 none) lane = true ∧ 7 < 8
    ∧ ¬ ClassInRange { rawClass with printCurves := 2 } ∧ ¬ ClassInRange { rawClass with name := List.replicate 13 65 }
    ∧ ¬ ClassInRange { rawClass with maxImbalance := 1001 }
    ∧ ¬ ((1 = 0 ∧ (none : Option RawClass) = none) ∨ ∃ r, 1 = 1 ∧ (none : Option RawClass) = some r ∧ ClassInRange r) := by
  refine ⟨calm_of rfl, rfl, class_ok (by decide), rfl, rfl, by decide, class_bad (by decide), class_bad (by decide),
    class_bad (by decide), ?_⟩
  rintro (⟨h, -⟩ | ⟨r, -, h, -⟩) <;> cases h

def rawStep : RawStep := { prompt := 1, red := 1, amber := 0, green := 2, showKind := 0, waitKind := 8, threshold := 0, timeout := 600, nextAdvance := 255, nextTimeout := 95, request := 1 }
def rawProgram : RawProgram := { first := 95, last := 95, entryStep := 95, steps := [rawStep] }

theorem test_hyp_LoadProgramWritesItsRange : Calm lane ∧ 2 ≤ 7 ∧ 7 ≤ 7 ∧ lane.guide.programs.length = 6
    ∧ lane.guide.steps.length = 80 ∧ reachesOwner (.loadProgram 0 7 0 (some rawProgram)) lane = true
    ∧ ProgramInRange rawProgram ∧ ¬ RangeOwned 7 95 95 lane.guide ∧ ¬ ProgramInHand 7 lane.guide
    ∧ reachesOwner (.loadProgram 0 2 1 none) lane = true ∧ ¬ ProgramInHand 2 lane.guide := by
  simp only [← loadedSteps_isSome, ← rangeTaken_iff, ← programBusy_iff]
  refine ⟨calm_of rfl, by decide, by decide, rfl, rfl, rfl, ⟨_, rfl⟩, by decide, by decide, rfl, by decide⟩

theorem program_bad {c : RawProgram} (h : loadedSteps c = none) : ¬ ProgramInRange c := fun hr => by
  obtain ⟨l, hl⟩ := (loadedSteps_isSome c).mpr hr
  rw [h] at hl; cases hl

/-- Two steps of program 94..95, the first one waiting as given and going on to the second, which waits on ENTRY_BLOCKED. -/
def chained (wait threshold : Nat) : RawProgram :=
  { first := 94, last := 95, entryStep := 94, steps :=
      [ { rawStep with waitKind := wait, threshold := threshold, nextAdvance := 95 }, { rawStep with waitKind := 6 } ] }

/-- R124 item 1, R122: the bounds of a step's fields, and two steps chained on one standing flag. -/
theorem test_program_ranges : ProgramInRange (chained 19 65535) ∧ ProgramInRange (chained 16 0)
    ∧ ¬ ProgramInRange (chained 6 0) ∧ ¬ ProgramInRange (chained 8 1) ∧ ¬ ProgramInRange (chained 20 0)
    ∧ ¬ ProgramInRange { rawProgram with steps := [{ rawStep with timeout := 601 }] }
    ∧ ¬ ProgramInRange { rawProgram with steps := [{ rawStep with nextTimeout := 94 }] }
    ∧ ¬ ProgramInRange { rawProgram with steps := [{ rawStep with request := 5 }] }
    ∧ ¬ ProgramInRange { rawProgram with steps := [rawStep, rawStep] } := by
  refine ⟨(loadedSteps_isSome _).mp ⟨_, rfl⟩, (loadedSteps_isSome _).mp ⟨_, rfl⟩, ?_, ?_, ?_, ?_, ?_, ?_, ?_⟩ <;>
    exact program_bad (by decide)

/-- R122, R199: what the fields of `rawStep` spell: WHEELS_PRESENT, END after an advance, step 95 after the timeout. -/
theorem test_step_spelled : (stepOf 95 95 rawStep).map (fun x => (x.red, x.green, x.wait, x.nextAdvance, x.nextTimeout))
    = some (.on, .flash, .event .wheelsPresent, none, some 95) := by decide

/-- The refusals: program 1 or 8, an entry step outside the range, a step of program 2, program 7 in hand. -/
theorem test_hyp_LoadProgramWritesItsRange_refusals : Calm lane ∧ 1 < 2 ∧ 7 < 8
    ∧ reachesOwner (.loadProgram 0 1 0 none) lane = true ∧ reachesOwner (.loadProgram 0 8 2 none) lane = true
    ∧ reachesOwner (.loadProgram 0 7 0 (some { rawProgram with entryStep := 94 })) lane = true
    ∧ ¬ ProgramInRange { rawProgram with entryStep := 94 }
    ∧ (let s := lane.onGuide fun g => { g with programs := g.programs.set 0 (some { first := 95, last := 95, entryStep := 95 }) }
       Calm s ∧ reachesOwner (.loadProgram 0 7 0 (some rawProgram)) s = true ∧ ProgramInRange rawProgram
         ∧ RangeOwned 7 95 95 s.guide)
    ∧ (let s := lane.onGuide fun g => { g with entry := { g.entry with program := 7, step := some 95 } }
       Calm s ∧ reachesOwner (.loadProgram 0 7 0 (some rawProgram)) s = true ∧ ¬ RangeOwned 7 95 95 s.guide
         ∧ ProgramInHand 7 s.guide ∧ reachesOwner (.loadProgram 0 7 1 none) s = true) := by
  simp only [← rangeTaken_iff, ← programBusy_iff]
  (with_reducible and_intros) <;>
    first
      | exact calm_of rfl
      | rfl
      | exact program_bad (by decide)
      | exact (loadedSteps_isSome _).mp ⟨_, rfl⟩
      | decide

theorem test_hyp_BookVehicleTakesTheLowestFreeSlot : Calm lane
    ∧ reachesOwner (.bookVehicle 0 [65] 2 (some 12) [12]) lane = true ∧ bookingOk [65] 2 (some 12) [12] = true
    ∧ idTaken [65] none lane = false ∧ bookedCount lane < 32 - lane.vt.dynMax ∧ freeSlot lane = some 0
    ∧ lane.vt.records.length = 32 ∧ ShareLaw lane
    ∧ reachesOwner (.bookVehicle 0 [] 2 none []) lane = true ∧ bookingOk [] 2 none [] = false
    ∧ (let s := withRecord 5 { complete with id := [65] } lane
       Calm s ∧ reachesOwner (.bookVehicle 0 [65] 2 none []) s = true ∧ idTaken [65] none s = true)
    ∧ (let s := lane.onVt fun v => { v with dynMax := 32 }
       Calm s ∧ reachesOwner (.bookVehicle 0 [65] 2 none []) s = true ∧ 32 - s.vt.dynMax ≤ bookedCount s) := by
  (with_reducible and_intros) <;> first | exact calm_of rfl | rfl | exact ⟨by decide, by decide⟩ | decide +kernel

def booked : Record := { Record.free with id := [66], state := .booked, cls := 2 }

theorem test_hyp_ArmAndBindChangeTheNamedRecord :
    (let s := withRecord 31 booked lane
     Calm s ∧ s.entry.blocked = false ∧ s.vt.records.length = 32 ∧ reachesOwner (.armVehicle 0 (some 31)) s = true
       ∧ (s.record 31).state = .booked)
    ∧ (let s := (withRecord 0 { booked with state := .armed } lane).onVt fun v => { v with armed := some 0 }
       Calm s ∧ s.vt.armed = some 0 ∧ reachesOwner (.armVehicle 0 none) s = true)
    ∧ (let s := withRecord 31 complete lane
       Calm s ∧ reachesOwner (.bindVehicle 0 31 [67] none) s = true ∧ (s.record 31).state ≠ .free ∧ idOk [67] = true
         ∧ (s.record 31).origin = .dynamic ∧ (s.record 31).job = false ∧ idTaken [67] (some 31) s = false) := by
  (with_reducible and_intros) <;> first | exact calm_of rfl | rfl | decide +kernel

/-- A vehicle waits BLOCKED with a number of axles passed, a booked record in slot 31, some slots in the lane. -/
def waiting (passed : Nat) (q : List Nat) : State :=
  ((withRecord 31 booked lane).onVt fun v => { v with queue := q }).onEntry fun e =>
    { e with blocked := true, passed := passed }

theorem test_hyp_ArmAndBindChangeTheNamedRecord_blocked :
    (let s := waiting 13 []
     Calm s ∧ s.vt.records.length = 32 ∧ s.entry.blocked = true ∧ reachesOwner (.armVehicle 0 (some 31)) s = true
       ∧ (s.record 31).state = .booked ∧ (s.record 31).axles = [] ∧ s.vt.queue.length < 3 ∧ leavingMet s = false
       ∧ s.brake.state ≠ .waitAxleRecord)
    ∧ (let s := waiting 0 [0, 1, 2]
       Calm s ∧ s.vt.records.length = 32 ∧ s.entry.blocked = true ∧ reachesOwner (.armVehicle 0 (some 31)) s = true
         ∧ (s.record 31).state = .booked ∧ 3 ≤ s.vt.queue.length) := by
  (with_reducible and_intros) <;> first | exact calm_of rfl | rfl | decide +kernel

theorem test_hyp_RemovalFreesOneRecord :
    (let s := withRecord 31 complete lane
     Calm s ∧ s.entry.blocked = false ∧ reachesOwner (.discardVehicle 0 31) s = true ∧ (s.record 31).state ≠ .free
       ∧ (s.record 31).state ≠ .inLane ∧ (s.record 31).job = false ∧ (s.record 31).evictable = true)
    ∧ (let s := testing .zeroing
       Calm s ∧ reachesOwner (.discardVehicle 0 0) s = true ∧ (s.record 0).state = .inLane ∧ (s.record 0).evictable = false)
    ∧ (let s := at_ 60000 ((withRecord 31 complete lane).onVt fun v => { v with ageLimit := 1 })
       Calm s ∧ s.vt.ageLimit ≠ 0 ∧ s.vt.ageLimit * 60000 ≤ (s.time.now - (s.record 31).lastActivity).toNat) := by
  (with_reducible and_intros) <;> first | exact calm_of rfl | rfl | decide +kernel

def trace (h p : Bool) : Descriptor :=
  { Descriptor.opened 65535 .service 0 (some 1) 0 false with closed := true, hostHold := h, printHold := p }

theorem test_hyp_TraceRequestsReleaseAndResize :
    (let s := lane.onTraces fun t => { t with directory := [trace true true], drain := [65535] }
     Calm s ∧ reachesOwner (.traceRelease 0 65535) s = true ∧ 65535 ≠ 0
       ∧ s.traces.find 65535 = some (trace true true) ∧ (trace true true).closed = true
       ∧ (trace true true).printHold = true ∧ (s.traces.directory.map Descriptor.id).Nodup)
    ∧ (let s := lane.onTraces fun t => { t with directory := [trace true false], drain := [65535] }
       Calm s ∧ reachesOwner (.traceRelease 0 65535) s = true ∧ s.traces.find 65535 = some (trace true false)
         ∧ (trace true false).printHold = false)
    ∧ reachesOwner (.setPartitions 0 32768 1) lane = true ∧ 32768 < 32768 + 1
    ∧ reachesOwner (.setPartitions 0 0 32768) lane = true ∧ 0 + 32768 ≤ 32768
    ∧ lane.traces.brakeSize ≤ Runs.count lane.traces.brakeFree
    ∧ lane.traces.entrySize ≤ Runs.count lane.traces.entryFree
    ∧ (let s := lane.onTraces fun t => { t with brakeFree := [(0, 24575)] }
       Calm s ∧ reachesOwner (.setPartitions 0 0 0) s = true ∧ 0 ≠ s.traces.brakeSize
         ∧ Runs.count s.traces.brakeFree < s.traces.brakeSize) := by
  (with_reducible and_intros) <;> first | exact calm_of rfl | rfl | decide +kernel

/-- A job in the queue. -/
def job (st : JobState) : Job :=
  { slot := 0, headers := [], cls := 2, className := txt "BUS", curves := false, state := st, number := some 8,
    printedDate := some none, abortPending := false, pass := 1, position := 0, started := false, planPos := 0 }

/-- The head job on a COMPLETE record in slot 0, the printer link in a state. -/
def printing (j : Job) (l : LinkState) : State :=
  (withRecord 0 { complete with job := true } lane).onCert fun c =>
    { c with queue := [j], link := l, window := 4, outstanding := 1 }

theorem test_hyp_CertificateRequestsMoveTheQueue :
    (let s := withRecord 31 complete lane
     Calm s ∧ s.cal.state ≠ .loading ∧ 31 ≤ 31 ∧ reachesOwner (.certQueue 0 31 []) s = true ∧ headersOf [] = some []
       ∧ (s.record 31).state = .complete ∧ classEntry s (s.record 31).cls = some class2 ∧ (s.record 31).job = false
       ∧ resultsStale (s.record 31) s = false ∧ s.cal.available = true ∧ s.cal.counter < 4294967295
       ∧ s.cert.queue.length < 4 ∧ s.cert.queue.head? = none)
    ∧ (let s := printing (job .printing) .ready
       Calm s ∧ reachesOwner (.certAbort 0 0) s = true ∧ s.entry.blocked = false
         ∧ s.cert.queue.find? (fun j => j.slot == 0) = some (job .printing) ∧ (job .printing).state ≠ .numbering
         ∧ (job .printing).abortPending = false)
    ∧ (let s := printing { job .printing with started := true } .ready
       Calm s ∧ reachesOwner (.certAbort 0 0) s = true
         ∧ s.cert.queue.find? (fun j => j.slot == 0) = some { job .printing with started := true }) := by
  (with_reducible and_intros) <;> first | exact calm_of rfl | rfl | decide +kernel

theorem test_hyp_CalWriteSetsTheImageAndSetCounterDoesNot : Calm lane ∧ lane.cal.state ≠ .loading
    ∧ lane.cal.hasRoom = true ∧ reachesOwner (.calWrite 0 0 (some 15) (.channel (some 1) (some 65535) 1)) lane = true
    ∧ (lane.cal.channels[15]?).isSome = true ∧ ChannelInRange (some 1) (some 65535) 1
    ∧ collectingOn 15 lane = false ∧ channelBusy 15 lane = false
    ∧ reachesOwner (.calWrite 0 1 none (.constants 1 65535 200 5000)) lane = true ∧ ConstantsInRange 1 65535 200 5000
    ∧ stationIdle .entry lane = true ∧ stationIdle .brake lane = true
    ∧ reachesOwner (.setCounter 0 4294967295) lane = true ∧ 4294967295 ≤ 4294967295
    ∧ lane.cal.counterQueued = false ∧ lane.cal.counter < 8 := by
  simp only [← channelCalOk_iff, ← constantsOk_iff]
  (with_reducible and_intros) <;> first | exact calm_of rfl | rfl | decide +kernel

/-- A zero collection on channel 15 with 63 sums taken, at a window end with four conversions. -/
def collecting : State :=
  at_ 10 ((lane.onSig fun g => { g with convs := 4, channels := g.channels.set 15 { Channel.reset with total := 1600 } }).onCal
    fun c => { c with collection := some { channel := 15, kind := .zero, tag := 9, count := 63, total := 100800, places := 1 } })

theorem test_hyp_CollectionsBeginAndEnd : Calm lane ∧ lane.cal.state ≠ .loading ∧ 15 ≤ 15
    ∧ reachesOwner (.calZero 0 15) lane = true ∧ lane.cal.collection = none ∧ channelBusy 15 lane = false
    ∧ lane.cal.hasRoom = true ∧ reachesOwner (.calSpan 0 15 65535) lane = true ∧ 1 ≤ 65535 ∧ 65535 ≤ 65535
    ∧ (lane.cal.channel 15).zcal ≠ none
    ∧ Calm collecting ∧ collecting.cal.state ≠ .loading ∧ collecting.time.now.toNat % 10 = 0 ∧ 0 < collecting.sig.convs
    ∧ collecting.cal.collection.map Collection.count = some 63
    ∧ collecting.cal.collection.map Collection.channel = some 15
    ∧ collecting.sig.channels[15]?.map Channel.faulted = some false ∧ (collecting.cal.channels[15]?).isSome = true
    ∧ roundDiv (100800 + windowSum 4 1600) 64 = 1600 := by
  (with_reducible and_intros) <;> first | exact calm_of rfl | rfl | decide +kernel

/-- The collection on channel 15 in another state, with a channel total at the window's end and a function. -/
def collectingAs (k : CollectionKind) (count total sum : Nat) (fn : ChannelFn) (faulted : Bool) : State :=
  at_ 10 ((lane.onSig fun g => { g with convs := 4, channels :=
      (g.channels.set 4 Channel.reset).set 15 { Channel.reset with total := sum, fn := fn, faulted := faulted } }).onCal
    fun c => { c with collection := some { channel := 15, kind := k, tag := 9, count := count, total := total, places := 1 } })

theorem test_hyp_CollectionsBeginAndEnd_ends :
    (let s := collectingAs .zero 62 0 0 .unused false
     Calm s ∧ s.time.now.toNat % 10 = 0 ∧ 0 < s.sig.convs ∧ s.cal.collection.map Collection.count = some 62)
    ∧ (let s := collectingAs (.span 3000) 5 0 0 .unused true
       Calm s ∧ s.sig.channels[15]?.map Channel.faulted = some true)
    ∧ Calm (collectingAs .zero 63 0 0 .unused false) ∧ roundDiv (0 + windowSum 4 0) 64 = 0
    ∧ roundDiv (1031940 + windowSum 4 16380) 64 = 16380
    ∧ (let s := collectingAs (.span 3000) 63 300000 700 .unused false
       Calm s ∧ (s.cal.channels[15]?).map ChannelCal.zcal = some (some 400)
         ∧ 64 * 400 + 6400 ≤ 300000 + windowSum 4 700
         ∧ roundDiv (3000 * 4096 * 64) (300000 + windowSum 4 700 - 64 * 400) = 2859)
    ∧ Calm (collectingAs (.span 3000) 63 31000 999 .unused false) ∧ 31000 + windowSum 4 999 < 64 * 400 + 6400
    ∧ (let s := collectingAs .zero 5 0 0 .unused false
       Calm s ∧ reachesOwner (.setChannels 3 [(15, 5)]) s = true ∧ ofCode channelFns 5 = some ChannelFn.plate)
    ∧ (let s := collectingAs .zero 5 0 0 .plate false
       Calm (sent .entryBarrier true s) ∧ takeEdge .entryBarrier true (sent .entryBarrier true s) = some (0, taken s)
         ∧ s.entry.vehicle = none ∧ s.entry.blocked = false ∧ ownerOf .plate = some .entry) := by
  (with_reducible and_intros) <;> first | exact calm_of rfl | exact takeEdge_sent .. | rfl | decide +kernel

/-- SET_CHANNELS with the function of the channel in collection is accepted. -/
theorem test_hyp_CollectionsBeginAndEnd_abandoned :
    ChannelsFieldsOk [(15, 5)] (collectingAs .zero 5 0 0 .unused false)
      ∧ ChannelsIdleOk [(15, 5)] (collectingAs .zero 5 0 0 .unused false) :=
  channels_ok (by decide +kernel)

theorem test_hyp_RestartEmptiesTheLane :
    (let s := withRecord 1 booked (testing .braking)
     Calm s ∧ reachesOwner (.restart 0) s = true ∧ (s.record 0).origin = .dynamic ∧ (s.record 0).job = false
       ∧ (s.record 1).origin = .booked ∧ (s.record 1).state ≠ .free) := by
  (with_reducible and_intros) <;> first | exact calm_of rfl | rfl | decide +kernel

theorem test_hyp_BarrierEdgeInIdleAsksForARecord :
    (let s := (withRecord 31 { booked with state := .armed } lane).onVt fun v => { v with armed := some 31 }
     Calm (sent .entryBarrier true s) ∧ takeEdge .entryBarrier true (sent .entryBarrier true s) = some (0, taken s)
       ∧ s.entry.vehicle = none ∧ s.entry.blocked = false ∧ s.vt.queue.length < 3 ∧ s.vt.armed = some 31
       ∧ 31 < s.vt.records.length)
    ∧ Calm (sent .entryBarrier true lane)
    ∧ takeEdge .entryBarrier true (sent .entryBarrier true lane) = some (0, taken lane)
    ∧ lane.vt.armed = none ∧ dynamicCount lane < lane.vt.dynMax ∧ freeSlot lane = some 0
    ∧ (let s := lane.onVt fun v => { v with queue := [0, 1, 2] }
       Calm (sent .entryBarrier true s) ∧ takeEdge .entryBarrier true (sent .entryBarrier true s) = some (0, taken s)
         ∧ 3 ≤ s.vt.queue.length ∧ s.port.notices.length < 32) := by
  (with_reducible and_intros) <;> first | exact calm_of rfl | exact takeEdge_sent .. | rfl | decide +kernel

/-- One COMPLETE dynamic record in slot 31 and a full dynamic share, with or without a job on it. -/
def shareFull (j : Bool) : State :=
  (withRecord 31 { complete with job := j } lane).onVt fun v => { v with dynMax := 1 }

theorem not_evictable {s : State} (h : s.vt.records.all (fun r => !r.evictable) = true) (k : Nat) :
    (s.record k).evictable = false := by
  unfold State.record
  rw [List.getD_eq_getElem?_getD]
  cases hk : s.vt.records[k]? with
  | none => rfl
  | some r => simpa using List.all_eq_true.mp h r (List.mem_of_getElem? hk)

theorem test_hyp_BarrierEdgeInIdleAsksForARecord_full_share :
    (let s := sent .entryBarrier true (shareFull false)
     Calm s ∧ takeEdge .entryBarrier true s = some (0, taken (shareFull false)) ∧ s.entry.vehicle = none
       ∧ s.entry.blocked = false ∧ s.vt.queue.length < 3 ∧ s.vt.armed = none ∧ s.vt.dynMax ≤ dynamicCount s
       ∧ (s.record 31).evictable = true
       ∧ (∀ j, (s.record j).evictable = true →
          (s.time.now - (s.record j).lastActivity).toNat < (s.time.now - (s.record 31).lastActivity).toNat
            ∨ ((s.record j).lastActivity = (s.record 31).lastActivity ∧ 31 ≤ j)))
    ∧ (let s := sent .entryBarrier true (shareFull true)
       Calm s ∧ takeEdge .entryBarrier true s = some (0, taken (shareFull true)) ∧ s.vt.dynMax ≤ dynamicCount s
         ∧ s.port.notices.length < 32 ∧ ∀ k, (s.record k).evictable = false) := by
  (with_reducible and_intros) <;>
    first
      | exact calm_of rfl
      | exact takeEdge_sent ..
      | rfl
      | decide +kernel
      | exact not_evictable (by decide +kernel)
      | (intro j hj
         by_cases h : j = 31
         · exact .inr ⟨by rw [h], by omega⟩
         · have hn : (sent .entryBarrier true (shareFull false)).record j = Record.free := by
             show (((List.replicate 32 Record.free).set 31 _).getD j Record.free) = _
             rw [List.getD_eq_getElem?_getD, List.getElem?_set_ne (by omega), List.getElem?_replicate]
             split <;> rfl
           rw [hn] at hj
           cases hj)

def blockedLane : State := lane.onEntry fun e => { e with blocked := true }

theorem test_hyp_BarrierEdgesWhileFollowingAVehicle : Calm (sent .entryBarrier true binding)
    ∧ takeEdge .entryBarrier true (sent .entryBarrier true binding) = some (0, taken binding)
    ∧ binding.entry.vehicle = some 0 ∧ binding.entry.blocked = false
    ∧ Calm (sent .entryBarrier false binding)
    ∧ takeEdge .entryBarrier false (sent .entryBarrier false binding) = some (0, taken binding)
    ∧ binding.entry.plate.crossing = false ∧ binding.entry.scale.phase = .empty
    ∧ Calm (sent .entryBarrier false blockedLane)
    ∧ takeEdge .entryBarrier false (sent .entryBarrier false blockedLane) = some (0, taken blockedLane)
    ∧ blockedLane.entry.blocked = true := by
  (with_reducible and_intros) <;> first | exact calm_of rfl | exact takeEdge_sent .. | rfl

/-- A crossing in progress with a number of samples and a peak. -/
def crossing (n : Nat) : State := binding.onEntry fun e =>
  { e with plate := { PlateTracker.free with crossing := true, peak := some (-384), count := n } }

theorem test_hyp_SlipPlateEdgesFollowACrossing : Calm (sent .slipPlateSwitch true binding)
    ∧ takeEdge .slipPlateSwitch true (sent .slipPlateSwitch true binding) = some (0, taken binding)
    ∧ binding.entry.vehicle.isSome = true ∧ binding.entry.plate.crossing = false
    ∧ Calm (sent .slipPlateSwitch false (crossing 1))
    ∧ takeEdge .slipPlateSwitch false (sent .slipPlateSwitch false (crossing 1)) = some (0, taken (crossing 1))
    ∧ (crossing 1).entry.plate.crossing = true ∧ 0 < (crossing 1).entry.plate.count
    ∧ (crossing 1).cal.constants.valid = true ∧ (crossing 1).entry.plate.peak = some (-384)
    ∧ (crossing 1).entry.plate.partialMark = false ∧ (crossing 1).entry.plate.faultMark = false
    ∧ Calm (sent .slipPlateSwitch false (crossing 0)) ∧ (crossing 0).entry.plate.count = 0
    ∧ Calm (sent .slipPlateSwitch true lane)
    ∧ takeEdge .slipPlateSwitch true (sent .slipPlateSwitch true lane) = some (0, taken lane)
    ∧ lane.entry.vehicle = none ∧ lane.entry.blocked = false := by
  (with_reducible and_intros) <;> first | exact calm_of rfl | exact takeEdge_sent .. | rfl | decide

/-- A window end: the sum of each weigh channel, of each brake channel, and the counters. -/
def delivery (w b : Nat) (faulted : Bool) : Delivery :=
  { stamp := 10, brakeL := some { channel := 0, sum := b, faulted := faulted }
    brakeR := some { channel := 1, sum := b, faulted := false }
    weighL := some { channel := 2, sum := w, faulted := false }
    weighR := some { channel := 3, sum := w, faulted := false }, plate := none
    totals := { driveL := 10, driveR := 10, senseL := 0, senseR := 20 } }

def entryWith (w : Nat) (s : State) : State := s.onSig fun g => { g with entryInbox := [delivery w 400 false] }
def brakeWith (d : Delivery) (s : State) : State := s.onSig fun g => { g with brakeInbox := [d] }

/-- 100 kg on each side is AXLE_ON exactly. -/
theorem test_hyp_EntryWindowEndPutsAnAxleOnTheScale : Calm (entryWith 500 lane)
    ∧ (entryWith 500 lane).sig.entryInbox = delivery 500 400 false :: []
    ∧ (entryWith 500 lane).entry.vehicle = none ∧ (entryWith 500 lane).entry.blocked = false
    ∧ Calm (entryWith 500 binding) ∧ (entryWith 500 binding).sig.entryInbox = delivery 500 400 false :: []
    ∧ (entryWith 500 binding).entry.vehicle.isSome = true ∧ (entryWith 500 binding).entry.scale.phase = .empty
    ∧ (entrySample (delivery 500 400 false) (entryWith 500 binding)).axleWeight = (entryWith 500 binding).entry.axleOn := by
  (with_reducible and_intros) <;> first | exact calm_of rfl | rfl | decide

/-- An axle on the scale of 100 kg a side: 19 samples taken, or four low ones. -/
def onScale_ (ph : ScalePhase) (low : Nat) (s : State) : State := s.onEntry fun e => { e with
  scale := { ScaleTracker.empty with
    phase := ph, low := low, sumL := 1900, cntL := 19, usableL := true, usableR := true, settle := some 10000
    last20 := List.replicate 19 { axle := 200, left := some 100, right := some 100 } }
  crossings := [some 7, some 8] }

/-- An ENTRY trace, held by the station, with some samples, and a number of free blocks. -/
def entryTrace (n free : Nat) (s : State) : State :=
  (s.onEntry fun e => { e with openTrace := some 9 }).onTraces fun t => { t with
    directory := [{ Descriptor.opened 9 .entry 0 none 0 true with samples := List.replicate n (.entry none none none) }]
    entryFree := [(24576, free)] }

/-- The axle tracker after the sample. -/
def joined (s : State) (w : Nat) : ScaleTracker :=
  s.entry.scale.join (entrySample (delivery w 400 false) s) s.entry.axleOn

/-- The slot's list is full. -/
def fullList (s : State) : State :=
  withRecord 0 { oneAxle with entryDone := false, axles := List.replicate 12 (axle 1 1 0 false none none) } s

theorem test_hyp_EntryWindowEndPutsAnAxleOnTheScale_occupied :
    (let s := entryWith 500 (onScale_ .weighing 0 binding)
     Calm s ∧ s.sig.entryInbox = delivery 500 400 false :: [] ∧ s.entry.vehicle = some 0 ∧ s.entry.blocked = false
       ∧ s.entry.scale.phase = .weighing ∧ 0 < s.vt.records.length ∧ (s.record 0).axles.length < 12
       ∧ (joined s 500).low ≠ 5 ∧ (joined s 500).last20.length = 20
       ∧ (∀ p ∈ (joined s 500).last20, ∀ q ∈ (joined s 500).last20, p.axle ≤ q.axle + s.entry.settleBand)
       ∧ (joined s 500).usableL = true ∧ (joined s 500).last20.map WeightSample.left = (List.replicate 20 100).map some)
    ∧ (let s := entryWith 520 (onScale_ .weighing 0 binding)
       Calm s ∧ (joined s 520).low ≠ 5 ∧ ∃ p ∈ (joined s 520).last20, ∃ q ∈ (joined s 520).last20,
         q.axle + s.entry.settleBand < p.axle)
    ∧ (let s := entryWith 449 (onScale_ .weighing 4 binding)
       Calm s ∧ (joined s 449).low = 5 ∧ (joined s 449).usableL = true ∧ (joined s 449).cntL ≠ 0)
    ∧ (let s := entryWith 449 (onScale_ .weighing 4 (fullList binding)); Calm s ∧ 12 ≤ (s.record 0).axles.length)
    ∧ (let s := entryWith 449 (onScale_ .taken 4 binding); Calm s ∧ s.entry.scale.phase = .taken ∧ (joined s 449).low = 5)
    ∧ (let s := entryWith 449 (onScale_ .weighing 4 blockedLane)
       Calm s ∧ s.entry.vehicle = none ∧ s.entry.blocked = true ∧ s.entry.scale.phase = .weighing
         ∧ (joined s 449).low = 5)
    ∧ (let s := entryWith 499 binding
       Calm s ∧ s.entry.scale.phase = .empty ∧ (entrySample (delivery 499 400 false) s).axleWeight < s.entry.axleOn) := by
  (with_reducible and_intros) <;> first | exact calm_of rfl | rfl | decide +kernel

theorem test_hyp_EntryWindowEndPutsAnAxleOnTheScale_trace :
    (let s := entryWith 500 (entryTrace 41 0 binding)
     Calm s ∧ s.entry.openTrace = some 9 ∧ s.entry.vehicle = some 0 ∧ s.entry.blocked = false
       ∧ (s.traces.find 9).any (fun e => !e.closed && !e.truncated && e.samples.length % e.kind.perBlock == 41) = true)
    ∧ (let s := entryWith 500 (entryTrace 42 1 binding)
       Calm s ∧ (s.traces.find 9).any (fun e => e.samples.length % e.kind.perBlock == 0) = true
         ∧ Runs.pop (s.traces.free .entry) = some (24576, []) ∧ 0 < Runs.count (s.traces.free .entry))
    ∧ (let s := entryWith 500 (entryTrace 42 0 binding); Calm s ∧ Runs.count (s.traces.free .entry) = 0)
    ∧ (let s := entryWith 500 (crossing 1); Calm s ∧ s.entry.plate.crossing = true
        ∧ (entrySample (delivery 500 400 false) s).plate = none) := by
  (with_reducible and_intros) <;> first | exact calm_of rfl | rfl | decide +kernel

/-- R53, R55: 20 samples of 200 kg settle; the axle takes the older crossing of the queue. -/
theorem test_settled_axle_takes_the_oldest_crossing :
    (match exec .entryWindowEnd (entryWith 500 (onScale_ .weighing 0 binding)) with
      | .next t => (((t.record 0).axles[1]?).map fun a => (a.weightL, a.weightR, a.unsettled, a.sideSlip), t.entry.crossings)
      | _ => (none, [])) = (some (some 100, some 100, false, some 7), [some 8]) := by decide +kernel

/-- R54: the fifth low sample takes the weight UNSETTLED over the samples before the low run, and empties the scale. -/
theorem test_fifth_low_sample_empties_the_scale :
    (match exec .entryWindowEnd (entryWith 449 (onScale_ .weighing 4 binding)) with
      | .next t => (((t.record 0).axles[1]?).map fun a => (a.weightL, a.unsettled), t.entry.scale.phase)
      | _ => (none, .taken)) = (some (some 100, true), .empty) := by decide +kernel

/-- An axle on the scale whose settle expiry is due. -/
def weighing (s : State) : State := s.onEntry fun e =>
  { e with scale := { ScaleTracker.empty with phase := .weighing, settle := some 0, sumL := 30407, cntL := 13,
                                              usableL := true } }

theorem test_hyp_SettleExpiryTakesTheWeightUnsettled : Calm (weighing binding)
    ∧ (weighing binding).entry.scale.phase = .weighing
    ∧ (weighing binding).due (weighing binding).entry.scale.settle = true ∧ (weighing binding).entry.vehicle = some 0
    ∧ (weighing binding).entry.blocked = false ∧ 0 < (weighing binding).vt.records.length
    ∧ ((weighing binding).record 0).axles.length < 12
    ∧ Calm (weighing blockedLane) ∧ (weighing blockedLane).due (weighing blockedLane).entry.scale.settle = true
    ∧ (weighing blockedLane).entry.vehicle = none
    ∧ (let s := weighing (entryTrace 1 0 (fullList binding))
       Calm s ∧ s.entry.vehicle = some 0 ∧ s.entry.blocked = false ∧ 12 ≤ (s.record 0).axles.length
         ∧ s.due s.entry.scale.settle = true ∧ s.entry.openTrace = some 9
         ∧ (s.traces.find 9).map Descriptor.closed = some false) := by
  (with_reducible and_intros) <;> first | exact calm_of rfl | rfl | decide +kernel

theorem test_hyp_QuietExpiryEndsTheEntryPhase :
    (let s := binding.onEntry fun e => { e with quiet := some 0 }
     Calm s ∧ s.entry.vehicle = some 0 ∧ s.due s.entry.quiet = true ∧ 0 < s.vt.records.length)
    ∧ (let d := Descriptor.opened 65535 .entry 0 none 0 true
       let s := (binding.onEntry fun e => { e with quiet := some 0, openTrace := some 65535 }).onTraces fun t =>
         { t with directory := [d] }
       Calm s ∧ s.entry.vehicle = some 0 ∧ s.due s.entry.quiet = true ∧ s.entry.openTrace = some 65535
         ∧ s.traces.find 65535 = some d ∧ (s.record d.slot).state ≠ .free ∧ d.hostHold = true
         ∧ (s.traces.directory.map Descriptor.id).Nodup)
    ∧ (let s := binding.onEntry fun e => { e with quiet := some 1 }
       Calm s ∧ s.entry.vehicle = some 0 ∧ s.due s.entry.quiet = false) := by
  (with_reducible and_intros) <;> first | exact calm_of rfl | rfl | decide

/-- The vehicle in the lane with its one axle tested. -/
def tested : State :=
  withRecord 0 { oneAxle with axles := [axle 3562 3558 (-38) false (some (res 2460 2330 35 40 62)) none] }
    (testing .waitClear)

theorem test_hyp_ExitBarrierLetsATestedHeadLeave : Calm (sent .exitBarrier true lane)
    ∧ takeEdge .exitBarrier true (sent .exitBarrier true lane) = some (0, taken lane)
    ∧ Calm (sent .exitBarrier false lane)
    ∧ takeEdge .exitBarrier false (sent .exitBarrier false lane) = some (0, taken lane) ∧ lane.vt.queue = []
    ∧ (let s := testing .waitWheels
       Calm (sent .exitBarrier false s) ∧ takeEdge .exitBarrier false (sent .exitBarrier false s) = some (0, taken s)
         ∧ s.vt.queue = 0 :: [] ∧ testDone (s.record 0) = false)
    ∧ Calm (sent .exitBarrier false tested)
    ∧ takeEdge .exitBarrier false (sent .exitBarrier false tested) = some (0, taken tested)
    ∧ tested.vt.queue = 0 :: [] ∧ tested.entry.blocked = false ∧ (tested.record 0).entryDone = true
    ∧ testDone (tested.record 0) = true := by
  (with_reducible and_intros) <;> first | exact calm_of rfl | exact takeEdge_sent .. | rfl

theorem test_hyp_WheelEdgesTimeAndAbort (side : Side) :
    (let s := withInput (wheelFn (Side.other side)) true (testing .waitWheels)
     Calm (sent (wheelFn side) true s) ∧ takeEdge (wheelFn side) true (sent (wheelFn side) true s) = some (0, taken s)
       ∧ s.brake.state = .waitWheels ∧ s.brake.presence = none
       ∧ inputActive (wheelFn (Side.other side)) (taken s) = true)
    ∧ (let s := testing .waitClear
       Calm (sent (wheelFn side) true s) ∧ takeEdge (wheelFn side) true (sent (wheelFn side) true s) = some (0, taken s)
         ∧ Calm (sent (wheelFn side) false s)
         ∧ takeEdge (wheelFn side) false (sent (wheelFn side) false s) = some (0, taken s)
         ∧ s.brake.state = .waitClear ∧ inputActive (wheelFn (Side.other side)) (taken s) = false)
    ∧ (let s := testing .waitWheels
       Calm (sent (wheelFn side) false s)
         ∧ takeEdge (wheelFn side) false (sent (wheelFn side) false s) = some (0, taken s))
    ∧ (let s := testing .zeroing
       Calm (sent (wheelFn side) false s)
         ∧ takeEdge (wheelFn side) false (sent (wheelFn side) false s) = some (0, taken s)
         ∧ s.brake.state.attempt = true ∧ s.brake.vehicle = some 0 ∧ s.brake.axle = some 1
         ∧ ((s.record 0).axle 1).isSome = true) := by
  cases side <;> (with_reducible and_intros) <;> first | exact calm_of rfl | exact takeEdge_sent .. | rfl

theorem test_hyp_DriveReadyAndEstopSwitchTheRollers (side : Side) :
    (let s := withInput .driveReadyL true (withInput .driveReadyR true (testing .spinUp))
     Calm (sent (readyFn side) true s) ∧ takeEdge (readyFn side) true (sent (readyFn side) true s) = some (0, taken s)
       ∧ s.brake.state = .spinUp ∧ s.sig.outputs.runL = false ∧ drivesReady (taken s) = true)
    ∧ (let s := running (testing .drag)
       Calm (sent (readyFn side) false s) ∧ takeEdge (readyFn side) false (sent (readyFn side) false s) = some (0, taken s)
         ∧ s.sig.outputs.runL = true ∧ s.brake.state ≠ .fault)
    ∧ (let s := testing .drag
       Calm (sent (readyFn side) false s) ∧ takeEdge (readyFn side) false (sent (readyFn side) false s) = some (0, taken s)
         ∧ s.sig.outputs.runL = false ∧ Calm (sent .estop true s)
         ∧ takeEdge .estop true (sent .estop true s) = some (0, taken s) ∧ s.brake.state ≠ .fault)
    ∧ (let s := testing .fault
       Calm (sent .estop true s) ∧ takeEdge .estop true (sent .estop true s) = some (0, taken s)
         ∧ s.brake.state = .fault ∧ Calm (sent .estop false s)
         ∧ takeEdge .estop false (sent .estop false s) = some (0, taken s)) := by
  cases side <;> (with_reducible and_intros) <;>
    first | exact calm_of rfl | exact takeEdge_sent .. | rfl | decide

/-- BRAKING with the left run at 2 and the right one at 0. -/
def slipping : State := brakeWith (delivery 400 600 false)
  ((running (testing .braking)).onBrake fun b =>
    { b with slipRunL := 2, history := List.replicate 10 { driveL := 10, driveR := 10, senseL := 0, senseR := 20 } })

/-- R62, R87: GET_STATUS BRAKE tells each slip run's start while the run stands, and the phase also without an axle. -/
theorem test_brake_report_tells_slip_starts :
    (brakeReport (slipping.onBrake fun b => { b with slipStartL := 7, slipStartR := 9 })).slipStartL = some 7
    ∧ (brakeReport (slipping.onBrake fun b => { b with slipStartL := 7, slipStartR := 9 })).slipStartR = none
    ∧ (brakeReport (lane.onBrake fun b => { b with axle := none, phase := .parking })).phase = .parking := by decide

theorem test_hyp_BrakeWindowEndSamplesAndStopsTheSlip : Calm slipping
    ∧ slipping.sig.brakeInbox = delivery 400 600 false :: [] ∧ slipping.brake.state = .braking
    ∧ (delivery 400 600 false).brakeL = some { channel := 0, sum := 600, faulted := false }
    ∧ (delivery 400 600 false).brakeR = some { channel := 1, sum := 600, faulted := false }
    ∧ calibration slipping 0 = some (400, 4096) ∧ calibration slipping 1 = some (400, 4096)
    ∧ (delivery 400 600 false).brakeFaulted = false ∧ slipping.brake.slipRunL = 2 ∧ slipping.brake.slipRunR < 2
    ∧ (let s := brakeWith (delivery 400 600 true) (testing .drag)
       Calm s ∧ s.sig.brakeInbox = delivery 400 600 true :: [] ∧ s.brake.state.attempt = true
         ∧ s.brake.state ≠ .stopping ∧ (delivery 400 600 true).brakeFaulted = true) := by
  (with_reducible and_intros) <;> first | exact calm_of rfl | rfl | decide

/-- A delivery with given window totals of both drives and of the two sense counters. -/
def turning (drive senseL senseR : Nat) : Delivery :=
  { delivery 400 600 false with totals := { driveL := drive, driveR := drive, senseL := senseL, senseR := senseR } }

/-- The brake station in a state of a phase, its outputs ON, the last 10 windows like the one delivered. -/
def inPhase (st : BrakeState) (d : Delivery) (f : BrakeStation → BrakeStation) : State :=
  brakeWith d ((running (testing st)).onBrake fun b => f { b with history := List.replicate 10 d.totals })

/-- The sample that a window end makes. -/
def sampled (d : Delivery) (s : State) : BrakeSample :=
  brakeSample d { s with brake := { s.brake with history := d.totals :: s.brake.history.take 9 } }

/-- A phase trace with one sample, held by the station. -/
def tracing (s : State) : State :=
  (s.onBrake fun b => { b with openTrace := some 7 }).onTraces fun t =>
    { t with directory := [{ Descriptor.opened 7 .service 0 (some 1) 0 true with
        samples := [.brake none none 0 0 none false false], blocks := [(0, 1)] }] }

/-- The 16th sum of ZEROING, the 5th sample in band and one at rest, the 200th drag sample, the right and both runs at 2,
the 100th release sample, the 50th still window and one that is not; a trace open in DRAG and in STOPPING. -/
theorem test_hyp_BrakeWindowEndSamplesAndStopsTheSlip_phases :
    (let s := inPhase .zeroing (turning 0 0 0) fun b => { b with zeroCount := 15 }
     Calm s ∧ s.brake.state = .zeroing ∧ (turning 0 0 0).brakeFaulted = false ∧ s.brake.zeroCount = 15
       ∧ drivesReady (withInput .driveReadyL true (withInput .driveReadyR true s)) = true)
    ∧ (let s := inPhase .spinUp (turning 7 0 0) fun b => { b with speedCount := 4 }
       Calm s ∧ s.brake.state = .spinUp ∧ (sampled (turning 7 0 0) s).speedL = some 700
         ∧ (sampled (turning 7 0 0) s).speedR = some 700 ∧ s.cal.constants.testSpeed = 700 ∧ 4 ≤ s.brake.speedCount)
    ∧ (sampled (turning 0 0 0) (inPhase .spinUp (turning 0 0 0) id)).speedL = some 0
    ∧ (let s := tracing (inPhase .drag (turning 7 0 0) fun b => { b with dragCount := 199 })
       Calm s ∧ s.brake.state = .drag ∧ s.brake.dragCount = 199 ∧ s.brake.openTrace = some 7
         ∧ (s.traces.find 7).any (fun e => !e.closed && !e.truncated && e.samples.length % e.kind.perBlock == 1) = true)
    ∧ (let s := inPhase .braking (turning 10 20 0) fun b => { b with slipRunR := 2 }
       Calm s ∧ s.brake.state = .braking ∧ s.brake.slipRunR = 2 ∧ s.brake.slipLimit ≤ (sampled (turning 10 20 0) s).slipR
         ∧ s.brake.slipRunL < 2)
    ∧ (let s := inPhase .braking (turning 10 0 0) fun b => { b with slipRunL := 2, slipRunR := 2 }
       Calm s ∧ s.brake.slipLimit ≤ (sampled (turning 10 0 0) s).slipL
         ∧ s.brake.slipLimit ≤ (sampled (turning 10 0 0) s).slipR)
    ∧ (let s := inPhase .braking (turning 10 20 20) fun b =>
         { b with releaseCount := 99, run := { Running.none with maxLR := 2401 } }
       let x := sampled (turning 10 20 20) s
       Calm s ∧ x.slipL < s.brake.slipLimit ∧ x.slipR < s.brake.slipLimit ∧ s.brake.releaseCount = 99
         ∧ 2 * x.both < ((s.brake.held ++ [x]).foldl (Running.fold s.brake.imbFloor) s.brake.run).maxLR)
    ∧ (let s := tracing (inPhase .stopping (turning 0 0 0) fun b => { b with stopCount := 49 })
       Calm s ∧ s.brake.state = .stopping ∧ s.brake.stopCount = 49 ∧ s.entry.blocked = false
         ∧ s.brake.vehicle = some 0 ∧ s.brake.axle = some 1 ∧ ((s.record 0).axle 1).isSome = true)
    ∧ (turning 1 0 0).totals.driveL ≠ 0 := by
  (with_reducible and_intros) <;> first | exact calm_of rfl | rfl | decide +kernel

/-- The same trace with a full last block and a number of free blocks. -/
def filled (free : Nat) (s : State) : State := (tracing s).onTraces fun t => { t with
  brakeFree := [(3, free)]
  directory := t.directory.map fun e => { e with samples := List.replicate 25 (.brake none none 0 0 none false false) } }

/-- A sample that starts the left run (it is folded), and one that lengthens it (it is held); a full block with a free one,
and without. -/
theorem test_hyp_BrakeWindowEndSamplesAndStopsTheSlip_runs :
    (let s := inPhase .braking (turning 10 0 20) fun b => { b with slipRunL := 0 }
     Calm s ∧ s.brake.slipLimit ≤ (sampled (turning 10 0 20) s).slipL ∧ s.brake.slipRunL + 1 < 3
       ∧ (sampled (turning 10 0 20) s).slipR < s.brake.slipLimit)
    ∧ (let s := inPhase .braking (turning 10 0 20) fun b => { b with slipRunL := 1, slipStartL := 0 }
       Calm s ∧ s.brake.slipRunL + 1 < 3 ∧ (sampled (turning 10 0 20) s).time = 10
         ∧ ¬ 0 ≤ (s.brake.slipStartL - (sampled (turning 10 0 20) s).time).toInt)
    ∧ (let s := filled 1 (inPhase .drag (turning 7 0 0) id)
       Calm s ∧ (s.traces.find 7).any (fun e => !e.closed && !e.truncated && e.samples.length % e.kind.perBlock == 0) = true
         ∧ Runs.pop (s.traces.free .service) = some (3, []))
    ∧ (let s := filled 0 (inPhase .drag (turning 7 0 0) id); Calm s ∧ Runs.count (s.traces.free .service) = 0) := by
  (with_reducible and_intros) <;> first | exact calm_of rfl | rfl | decide +kernel

/-- A delivery whose left sum is clamped: 6000 daN at a zero of 0 and a gain of 4096. -/
def clamping : Delivery := { turning 0 0 0 with brakeL := some { channel := 0, sum := 16380, faulted := false } }

/-- R91: the note of a STOPPING sample reaches the trace and no result. -/
theorem test_clamp_note_reaches_the_trace :
    (match exec .brakeWindowEnd (tracing (inPhase .stopping clamping id)) with
      | .next t => (t.traces.find 7).map (fun e => (e.samples, t.brake.run.overrange))
      | _ => none)
      = some ([.brake none none 0 0 none false false, .brake (some 6000) (some 600) 0 0 none true false], false) := by
  decide +kernel

/-- WAIT_WHEELS with the presence expiry due. -/
def present (s : State) : State := s.onBrake fun b => { b with presence := some 0 }

theorem test_hyp_PresenceExpiryMatchesAnAxle :
    (let s := present (testing .waitWheels)
     Calm s ∧ s.brake.state = .waitWheels ∧ s.brake.vehicle = some 0 ∧ s.due s.brake.presence = true
       ∧ nextAxle (s.record 0) = some 1 ∧ zeroingRefusal s = none)
    ∧ (let s := present ((testing .waitWheels).onCal fun c => { c with constants := LaneConstants.invalid })
       Calm s ∧ s.due s.brake.presence = true ∧ nextAxle (s.record 0) = some 1 ∧ zeroingRefusal s = some .noCalibration)
    ∧ (let s := present (withRecord 0 { oneAxle with axles := [], entryDone := false } (testing .waitWheels))
       Calm s ∧ s.brake.vehicle = some 0 ∧ s.due s.brake.presence = true ∧ nextAxle (s.record 0) = none
         ∧ (s.record 0).entryDone = false)
    ∧ (let s := present (withRecord 0 { oneAxle with axles := List.replicate 11 (axle 1 1 0 false (some (res 1 1 0 0 0)) none) }
         (testing .waitWheels))
       Calm s ∧ s.brake.state = .waitWheels ∧ s.brake.vehicle = some 0 ∧ s.due s.brake.presence = true
         ∧ nextAxle (s.record 0) = none ∧ (s.record 0).entryDone = true ∧ (s.record 0).axles.length < 12
         ∧ s.vt.queue.head? = some 0 ∧ 0 < s.vt.records.length ∧ zeroingRefusal s = none)
    ∧ (let s := present (withRecord 0 { oneAxle with axles := List.replicate 12 (axle 1 1 0 false (some (res 1 1 0 0 0)) none) }
         (testing .waitWheels))
       Calm s ∧ s.brake.state = .waitWheels ∧ s.brake.vehicle = some 0 ∧ s.due s.brake.presence = true
         ∧ nextAxle (s.record 0) = none ∧ (s.record 0).entryDone = true ∧ 12 ≤ (s.record 0).axles.length) := by
  (with_reducible and_intros) <;> first | exact calm_of rfl | rfl | decide

theorem test_hyp_BrakeExpiriesEndTheirStates :
    (let s := (running (testing .spinUp)).onBrake fun b => { b with spinUp := some 0 }
     Calm s ∧ s.brake.state = .spinUp ∧ s.due s.brake.spinUp = true)
    ∧ (let s := (running (testing .braking)).onBrake fun b => { b with braking := some 0 }
       Calm s ∧ s.brake.state = .braking ∧ s.due s.brake.braking = true)
    ∧ (let s := (testing .stopping).onBrake fun b => { b with stop := some 0 }
       Calm s ∧ s.brake.state = .stopping ∧ s.due s.brake.stop = true ∧ s.entry.blocked = false
         ∧ s.brake.vehicle = some 0 ∧ s.brake.axle = some 1 ∧ ((s.record 0).axle 1).isSome = true)
    ∧ (let s := lane.onBrake fun b => { b with state := .waitClear, clear := some 0 }
       Calm s ∧ s.brake.state = .waitClear ∧ s.due s.brake.clear = true ∧ s.vt.queue = [])
    ∧ (let s := (testing .waitClear).onBrake fun b => { b with clear := some 0 }
       Calm s ∧ s.brake.state = .waitClear ∧ s.due s.brake.clear = true ∧ s.vt.queue = 0 :: []) := by
  (with_reducible and_intros) <;> first | exact calm_of rfl | rfl | decide

def asked (r : StationRequest) (s : State) : State := s.onGuide fun g => { g with requests := [r] }

theorem test_hyp_GuidanceRequestsAreCarriedOut :
    (let s := asked .markParking (testing .fault)
     Calm s ∧ s.guide.requests = .markParking :: [] ∧ s.brake.state = .fault ∧ s.brake.vehicle = some 0
       ∧ s.brake.axle = some 1 ∧ ((s.record 0).axle 1).isSome = true)
    ∧ (let s := asked .endAxle (running (testing .braking))
       Calm s ∧ s.guide.requests = .endAxle :: [] ∧ s.brake.state = .braking)
    ∧ (let s := asked .skipAxle (testing .waitWheels)
       Calm s ∧ s.guide.requests = .skipAxle :: [] ∧ s.entry.blocked = false ∧ s.brake.vehicle = some 0
         ∧ axleInHand s = some 1 ∧ ((s.record 0).axle 1).map Axle.finished = some false
         ∧ ((s.record 0).axle 1).map Axle.skip = some none)
    ∧ (let s := asked .releaseVehicle (testing .waitWheels)
       Calm s ∧ s.guide.requests = .releaseVehicle :: [] ∧ s.vt.queue = 0 :: [] ∧ s.entry.blocked = false
         ∧ (s.record 0).entryDone = true)
    ∧ (let s := asked .endAxle lane
       Calm s ∧ s.guide.requests = .endAxle :: [] ∧ StationRequest.endAxle ≠ .markParking) := by
  (with_reducible and_intros) <;> first | exact calm_of rfl | rfl | decide

theorem test_hyp_HostStationRequestsAreCarriedOut :
    (let s := testing .waitWheels
     Calm s ∧ reachesOwner (.skipAxle 0) s = true ∧ s.entry.blocked = false ∧ s.brake.vehicle = some 0
       ∧ axleInHand s = some 1 ∧ ((s.record 0).axle 1).map Axle.finished = some false
       ∧ ((s.record 0).axle 1).map Axle.skip = some none
       ∧ reachesOwner (.releaseVehicle 0) s = true ∧ s.vt.queue = 0 :: [] ∧ (s.record 0).entryDone = true
       ∧ reachesOwner (.ackFault 0) s = true ∧ s.brake.state ≠ .fault)
    ∧ reachesOwner (.skipAxle 0) lane = true ∧ axleInHand lane = none
    ∧ reachesOwner (.releaseVehicle 0) lane = true ∧ lane.vt.queue = []
    ∧ Calm (testing .fault) ∧ reachesOwner (.ackFault 0) (testing .fault) = true
    ∧ (testing .fault).brake.state = .fault ∧ inputActive .estop (testing .fault) = false
    ∧ (let s := withInput .estop true (testing .fault)
       Calm s ∧ reachesOwner (.ackFault 0) s = true ∧ inputActive .estop s = true) := by
  (with_reducible and_intros) <;> first | exact calm_of rfl | rfl | decide

theorem test_hyp_StationEventsKeepTheOtherBlocks : Calm (testing .waitWheels) ∧ .entryBarrierActive ∈ stationEvents
    ∧ .ageExpiry 31 ∈ stationEvents ∧ ∃ t, exec .entryBarrierActive (testing .waitWheels) = .next t :=
  ⟨calm_of rfl, by decide, by decide, _, rfl⟩

theorem test_hyp_TotalsAndVerdictsFollowTheClass :
    (totalsOf (some class2) bx2207).serviceEff = some 652 ∧ (totalsOf (some class2) bx2207).serviceBound = false
    ∧ (∃ a ∈ [Axle.fresh false], a.weightL = none ∨ a.weightR = none ∨ a.overrange = true)
    ∧ (∃ r, (axle 1 1 71 false (some (res 1 1 101 0 0)) none).service = some r ∧ class2.maxDrag < r.dragL)
    ∧ (axle 1 1 71 false none none).sideSlip = some 71 ∧ class2.maxSideSlip < (71 : Int).natAbs
    ∧ (totalsOf (some class2) [{ axle 9000 9000 0 false (some { res 2000 2000 0 0 0 with overrange := true }) none with
          overrange := false }]).serviceBound = true
    ∧ (totalsOf (some class2) bx2207).parkingEff = some 227
    ∧ (∃ a, bx2207[2]? = some a ∧ a.parking = true ∧ a.weightL = some 5187 ∧ a.sideSlip = some 10)
    ∧ class2.maxAxleWeight ≠ 0 ∧ { class2 with maxAxleWeight := 0 }.maxAxleWeight = 0
    ∧ (∀ a ∈ [axle 1 1 0 false none none], a.parking = false)
    ∧ (totalsOf (some class2) [axle 1 1 0 true none none]).parkingEff = none
    ∧ (∃ a ∈ [axle 1 1 0 true none none], a.parking = true)
    ∧ (totalsOf (some class2) [axle 1 1 0 false none none]).serviceEff = none
    ∧ ∃ a ∈ [axle 1 1 0 false none none], a.service = none ∨ a.skip ≠ none ∨ a.sideSlip = none := by
  (with_reducible and_intros) <;>
    first | exact ⟨_, rfl, by decide⟩ | decide +kernel | exact ⟨_, rfl, rfl, rfl, rfl⟩ | exact ⟨_, List.mem_cons_self, by decide⟩

/-- 15 bytes of a unit frame whose CRC-8 is to follow. -/
def unitBytes (seq time : Byte) : List Byte := [0x7E, 1, 0, seq, time, 0, 100, 0, 101, 0, 102, 0, 103, 0, 80]
def wholeFrame (seq time : Byte) : List Byte := unitBytes seq time ++ [crc8 (unitBytes seq time)]

def pedalIn (f : Option (List Byte)) (framed : Bool) : State :=
  lane.onPedal fun p => { p with frame := f, framed := framed }

theorem test_hyp_PedalBytesAreCollectedIntoFrames :
    Calm (pedalIn none false) ∧ (pedalIn none false).pedal.frame = none ∧ (pedalIn none false).pedal.framed = false
    ∧ Calm (pedalIn none true) ∧ (pedalIn none true).pedal.framed = true
    ∧ Calm (pedalIn (some (List.replicate 14 0)) true)
    ∧ (pedalIn (some (List.replicate 14 0)) true).pedal.frame = some (List.replicate 14 0)
    ∧ (List.replicate 14 (0 : Byte)).length < 15 ∧ Calm (pedalIn (some (unitBytes 1 7)) false)
    ∧ (pedalIn (some (unitBytes 1 7)) false).pedal.frame = some (unitBytes 1 7) ∧ (unitBytes 1 7).length = 15
    ∧ 1999 < 2000 := by
  (with_reducible and_intros) <;> first | exact calm_of rfl | rfl | decide

/-- The unit followed, its last frame having sequence number 1 and unit time 0. -/
def followed : Following := { unit := 1, seq := 1, unitTime := 0, extended := 0, battery := 80, silence := 200 }

/-- A frame handed on, and the link in a state, following a unit or not. -/
def linked (st : PedalState) (g : Option Following) (o : Option LaneTime) (seq time : Byte) (t : LaneTime) : State :=
  lane.onPedal fun p =>
    { p with completed := [(wholeFrame seq time, t)], state := st, following := g, offset := o, inWindow := 7 }

theorem test_hyp_PedalFramesMoveTheLink :
    (let s := (linked .absent none none 1 0 0).onPedal fun p => { p with idMask := 65535, idMatch := 2 }
     Calm s ∧ s.pedal.completed = (wholeFrame 1 0, 0) :: []
       ∧ passes (unitFrame (wholeFrame 1 0)).unit s.pedal.idMask s.pedal.idMatch = false)
    ∧ (let s := linked .absent none none 1 0 0
       Calm s ∧ passes (unitFrame (wholeFrame 1 0)).unit s.pedal.idMask s.pedal.idMatch = true
         ∧ s.pedal.following = none)
    ∧ (let s := linked .sync (some { followed with unit := 2 }) (some 0) 2 40 52
       Calm s ∧ passes (unitFrame (wholeFrame 2 40)).unit s.pedal.idMask s.pedal.idMatch = true
         ∧ (2 : BitVec 16) ≠ (unitFrame (wholeFrame 2 40)).unit)
    ∧ (let s := linked .sync (some followed) (some 0) 1 40 52
       Calm s ∧ followed.unit = (unitFrame (wholeFrame 1 40)).unit ∧ (unitFrame (wholeFrame 1 40)).seq = followed.seq
         ∧ s.pedal.following = some followed)
    ∧ (let s := linked .sync (some followed) (some 0) 2 40 67
       Calm s ∧ (unitFrame (wholeFrame 2 40)).seq = followed.seq + 1 ∧ s.pedal.offset = some 0
         ∧ ((67 : LaneTime) - (followed.extended + BitVec.setWidth 32 ((unitFrame (wholeFrame 2 40)).time
              - followed.unitTime) + 0 + BitVec.ofNat 32 s.pedal.latency)).toInt.natAbs = s.pedal.window)
    ∧ (let s := linked .tentative (some followed) (some 0) 2 40 52
       Calm s ∧ s.pedal.state = .tentative ∧ 8 ≤ s.pedal.inWindow + 1)
    ∧ (let s := linked .unsync (some followed) none 2 40 52
       Calm s ∧ s.pedal.state = .unsync ∧ s.pedal.following = some followed
         ∧ (unitFrame (wholeFrame 2 40)).unit = followed.unit)
    ∧ (let s := at_ 200 (linked .sync (some followed) (some 0) 1 0 0)
       Calm s ∧ s.pedal.state ≠ .absent ∧ s.due (s.pedal.following.map Following.silence) = true)
    ∧ (let s := at_ 199 (linked .sync (some followed) (some 0) 1 0 0)
       Calm s ∧ s.due (s.pedal.following.map Following.silence) = false) := by
  (with_reducible and_intros) <;> first | exact calm_of rfl | rfl | decide

/-- The newest entry of the ring, and the counts as given. -/
def ringed (t : LaneTime) (run count : Nat) (s : State) : State :=
  s.onPedal fun p => { p with ring := List.replicate 32 { time := t, force := 5 }, outRun := run, inWindow := count }

/-- Gaps 8 and 9, errors of 15 and 16 ms in SYNC and TENTATIVE, a ring that takes the samples and one that drops them. -/
theorem test_hyp_PedalFramesMoveTheLink_gaps :
    (let s := linked .sync (some followed) (some 0) 10 40 52
     Calm s ∧ ((unitFrame (wholeFrame 10 40)).seq - followed.seq - 1).toNat = 8)
    ∧ (let s := linked .sync (some followed) (some 0) 11 40 52
       Calm s ∧ ((unitFrame (wholeFrame 11 40)).seq - followed.seq - 1).toNat = 9
         ∧ (unitFrame (wholeFrame 11 40)).seq ≠ followed.seq ∧ s.port.notices.length < 32)
    ∧ (let s := linked .unsync (some followed) none 11 40 52; Calm s ∧ s.pedal.state = .unsync)
    ∧ (let s := (linked .sync (some followed) (some 0) 3 40 52).onTraces fun t =>
         { t with directory := [Descriptor.opened 7 .service 0 (some 1) 0 true] }
       let u := s.onBrake fun b => { b with openTrace := some 7 }
       Calm u ∧ ((unitFrame (wholeFrame 3 40)).seq - followed.seq - 1).toNat = 1 ∧ u.brake.openTrace = some 7
         ∧ (u.traces.find 7).map Descriptor.closed = some false)
    ∧ (let s := ringed 0 2 0 (linked .sync (some followed) (some 0) 2 40 68)
       Calm s ∧ s.pedal.window < ((68 : LaneTime) - (0 + 40 + 0 + BitVec.ofNat 32 s.pedal.latency)).toInt.natAbs
         ∧ 3 ≤ s.pedal.outRun + 1)
    ∧ (let s := ringed 0 1 0 (linked .sync (some followed) (some 0) 2 40 68); Calm s ∧ s.pedal.outRun + 1 < 3)
    ∧ (let s := ringed 0 0 7 (linked .tentative (some followed) (some 0) 2 40 68)
       Calm s ∧ s.pedal.state = .tentative)
    ∧ (let s := ringed 159 0 0 (linked .sync (some followed) (some 0) 2 40 52)
       Calm s ∧ s.pedal.ring.length ≤ 32 ∧ (∀ n, s.pedal.ring.getLast? = some n → n.time = 159)
         ∧ 0 < ((0 + 40 + 0 + 120 : LaneTime) - 159).toInt)
    ∧ (let s := ringed 190 0 0 (linked .sync (some followed) (some 0) 2 40 52)
       Calm s ∧ (s.pedal.ring.getLast?).map RingEntry.time = some 190 ∧ s.pedal.dropped + 4 ≤ 65535
         ∧ ((0 + 40 + 0 + 120 + 30 : LaneTime) - 190).toInt ≤ 0) := by
  (with_reducible and_intros) <;>
    first
      | exact calm_of rfl
      | rfl
      | decide +kernel
      | (intro n hn
         have : ((ringed 159 0 0 (linked .sync (some followed) (some 0) 2 40 52)).pedal.ring.getLast?).map RingEntry.time
           = some 159 := by decide +kernel
         rw [hn] at this
         exact Option.some.inj this)

/-- R115, R117: a frame in SYNC with error 0 places its four samples from 160 on, and the oldest four leave. -/
theorem test_sync_frame_places_its_samples :
    (match exec (.pedalFrame (wholeFrame 2 40)) (ringed 159 0 0 (linked .sync (some followed) (some 0) 2 40 52)) with
      | .next t => (t.pedal.ring.length, (t.pedal.ring.drop 28).map (fun e => (e.time, e.force)))
      | _ => (0, [])) = (32, [(160, 100), (170, 101), (180, 102), (190, 103)]) := by decide +kernel

/-- A loaded two-step program in steps 94 and 95, the station at its first step with the timeout due. -/
def guided (st : Station) (next : Option Nat) : State :=
  let step : Step := { prompt := 5, red := .on, amber := .off, green := .off, showKind := .none,
                       wait := .forceAbove 1000, timeout := 600, nextAdvance := none, nextTimeout := next,
                       request := .endAxle }
  lane.onGuide fun g =>
    { (g.modAt st fun x => { x with program := 7, step := some 94, timeout := some 0 }) with
      steps := (g.steps.set 78 (some step)).set 79 (some { step with nextTimeout := none }) }

/-- A SHOW frame pending since a time. -/
def show_ (t : LaneTime) (sending : Bool) : PendingShow :=
  { frame := { board := 1, prompt := 0, red := .off, amber := .off, green := .off, showKind := .none, values := [] }
    since := t, sending := sending }

def prompts (p q : Option PendingShow) (tx : Option ShowFrame) : State :=
  lane.onGuide fun g => { g with entry := { g.entry with slot := p }, brake := { g.brake with slot := q }, transmitting := tx }

theorem test_hyp_GuidanceTimesAndThePromptLine (st : Station) :
    (let s := guided st none
     Calm s ∧ (stepInHand st s).isSome = true ∧ (stepInHand st s).map Step.nextTimeout = some none
       ∧ s.due (s.guide.at st).timeout = true)
    ∧ (let s := guided st (some 95)
       Calm s ∧ (stepInHand st s).map Step.nextTimeout = some (some 95) ∧ (stepAt s.guide 95).isSome = true
         ∧ (stepAt s.guide 95).map Step.wait = some (.forceAbove 1000) ∧ s.due (s.guide.at st).timeout = true)
    ∧ Calm lane ∧ lane.due (lane.guide.at st).timeout = false ∧ lane.due (some (lane.guide.at st).refresh) = false
    ∧ Calm (at_ 1000 lane) ∧ (at_ 1000 lane).due (some ((at_ 1000 lane).guide.at st).refresh) = true
    ∧ Calm (prompts (some (show_ 0 false)) (some (show_ 1 false)) none)
    ∧ Calm (prompts (some (show_ 0 false)) none none)
    ∧ Calm (prompts (some (show_ 0 true)) (some (show_ 1 false)) (some (show_ 0 true).frame))
    ∧ (prompts (some (show_ 0 true)) (some (show_ 1 false)) (some (show_ 0 true).frame)).guide.transmitting.isSome = true := by
  cases st <;> (with_reducible and_intros) <;> first | exact calm_of rfl | rfl | decide

def printerSays (m : PrinterMsg) (s : State) : State := s.onCert fun c => { c with inbox := [(m, 0)] }

/-- The head job with its whole plan sent. -/
def passDone : Job := { job .printing with started := true, planPos := 1000 }

theorem test_hyp_PrinterLinkMovesTheHeadJob :
    (let s := printerSays (.hello 32) lane
     Calm s ∧ s.cert.inbox = (.hello 32, 0) :: [] ∧ s.cert.queue = [] ∧ s.cert.void ≠ .lineSent)
    ∧ (let s := printerSays (.hello 1) (printing { job .printing with started := true } .ready)
       Calm s ∧ s.cert.inbox = (.hello 1, 0) :: [] ∧ s.cert.queue = { job .printing with started := true } :: []
         ∧ s.cert.link = .ready)
    ∧ (let s := printerSays (.status { paperOut := true, coverOpen := false, headHot := false })
         (printing { job .printing with started := true } .ready)
       Calm s ∧ s.cert.inbox = (.status { paperOut := true, coverOpen := false, headHot := false }, 0) :: []
         ∧ s.cert.link = .ready)
    ∧ (let s := printerSays (.status { paperOut := false, coverOpen := false, headHot := false })
         (printing (job .held) .paused)
       Calm s ∧ s.cert.queue = job .held :: [] ∧ s.cert.link ≠ .ready)
    ∧ (let s := printerSays (.credit 32) lane
       Calm s ∧ s.cert.inbox = (.credit 32, 0) :: [] ∧ s.cert.queue = [])
    ∧ (let s := printerSays (.credit 1) (printing passDone .ready)
       Calm s ∧ s.cert.inbox = (.credit 1, 0) :: [] ∧ s.cert.queue = passDone :: [] ∧ s.cert.outstanding ≤ 1
         ∧ s.cert.void = .none ∧ passSent passDone s = true ∧ s.entry.blocked = false ∧ passDone.abortPending = false)
    ∧ (let s := lane.onCert fun c => { c with link := .ready, silence := some 0 }
       Calm s ∧ s.due s.cert.silence = true)
    ∧ lane.due lane.cert.silence = false
    ∧ (let s := lane.onCert fun c => { c with link := .ready, window := 1, void := .owed }
       Calm s ∧ s.cert.transmitting = none ∧ s.cert.link = .ready ∧ s.cert.outstanding < s.cert.window
         ∧ s.cert.void = .owed)
    ∧ (let s := lane.onCert fun c => { c with link := .ready, window := 1, void := .lineSent }
       Calm s ∧ s.cert.void = .lineSent ∧ s.cert.outstanding < s.cert.window)
    ∧ (let s := printing (job .printing) .ready
       Calm s ∧ s.cert.void = .none ∧ s.cert.queue = job .printing :: [] ∧ s.cert.strip = []
         ∧ s.cert.outstanding < s.cert.window)
    ∧ Calm lane ∧ lane.cert.link ≠ .ready ∧ lane.cert.window ≤ lane.cert.outstanding := by
  (with_reducible and_intros) <;> first | exact calm_of rfl | rfl | decide +kernel

theorem planOf_first_line :
    ∃ f, (planOf (job .printing) ((printing (job .printing) .ready).record 0))[(job .printing).planPos]?
      = some (.frame f) := ⟨_, rfl⟩

/-- A page write in progress for the entry at the head of the write queue. -/
def writing (e : WriteEntry) : State :=
  lane.onCal fun c => { c with queue := [e], writing := some { page := e.page c, values := e.values c, began := 0 } }

theorem test_hyp_EepromWritesStoreOnePage :
    Calm (writing .commit) ∧ (writing .commit).cal.writing = some { page := 2, values := .counter 8, began := 0 }
    ∧ ((at_ 11 (writing .commit)).time.now - 0).toNat ≤ 11 ∧ Calm (at_ 11 (writing .commit))
    ∧ 11 < ((at_ 12 (writing .commit)).time.now - 0).toNat ∧ Calm (at_ 12 (writing .commit))
    ∧ 10 ≤ ((at_ 10 (writing .commit)).time.now - 0).toNat ∧ Calm (at_ 10 (writing .commit))
    ∧ ((at_ 9 (writing .commit)).time.now - 0).toNat < 10 ∧ Calm (at_ 9 (writing .commit))
    ∧ (writing .commit).cal.queue = .commit :: [] ∧ 2 < 256 ∧ (writing .commit).eeprom.wf = true
    ∧ Calm (writing (.setCounter 9)) ∧ (writing (.setCounter 9)).cal.queue = .setCounter 9 :: []
    ∧ Calm (writing .header) ∧ (writing .header).cal.queue = .header :: []
    ∧ (writing .header).cal.writing.map PageWrite.page = some 0
    ∧ Calm (writing .constants) ∧ (writing .constants).cal.queue = .constants :: []
    ∧ Calm (writing (.channel 15)) ∧ (writing (.channel 15)).cal.writing.map PageWrite.page = some 19
    ∧ Calm lane ∧ lane.cal.writing = none := by
  (with_reducible and_intros) <;> first | exact calm_of rfl | rfl | decide

def hostIn (b : List Byte) (t : LaneTime) : State := at_ t (lane.onPort fun p => { p with frame := some { bytes := b, last := 0 } })
def printerIn (b : List Byte) (t : LaneTime) : State := at_ t (lane.onCert fun c => { c with frame := some { bytes := b, last := 0 } })

theorem test_hyp_SerialBytesAreCollectedIntoFrames : Calm lane ∧ lane.port.frame = none ∧ lane.cert.frame = none
    ∧ Calm (hostIn [0xA5, 0] 50) ∧ (hostIn [0xA5, 0] 50).port.frame = some { bytes := [0xA5, 0], last := 0 }
    ∧ ((hostIn [0xA5, 0] 50).time.now - 0).toNat ≤ 50
    ∧ Calm (hostIn [0xA5, 0] 51) ∧ 50 < ((hostIn [0xA5, 0] 51).time.now - 0).toNat
    ∧ Calm (printerIn [0xAA, 0x81, 1, 0, 32] 10)
    ∧ (printerIn [0xAA, 0x81, 1, 0, 32] 10).cert.frame = some { bytes := [0xAA, 0x81, 1, 0, 32], last := 0 }
    ∧ ((printerIn [0xAA, 0x81, 1, 0, 32] 10).time.now - 0).toNat ≤ 10
    ∧ Calm (printerIn [0xAA] 11) ∧ 10 < ((printerIn [0xAA] 11).time.now - 0).toNat := by
  (with_reducible and_intros) <;> first | exact calm_of rfl | rfl | decide

def arrived (k : Nat) (p : List Byte) : State :=
  lane.onPort fun q => { q with completed := [{ kind := k, tag := 3, payload := p }] }
def buffered (k : Nat) (p : List Byte) : State :=
  lane.onPort fun q => { q with buffer := [{ kind := k, tag := 3, payload := p }] }
def reply0 : Reply := { kind := 1, tag := 0, status := .ok, body := .none, refusal := false }
def notice0 : Nat × Notice := (65535, .vehicleRemoved 0 [] .aged)

theorem test_hyp_HostPortBuffersTakesAndSends :
    Calm (arrived 5 []) ∧ (arrived 5 []).port.completed = { kind := 5, tag := 3, payload := [] } :: []
    ∧ Calm (buffered 0x20 []) ∧ (buffered 0x20 []).port.buffer = { kind := 0x20, tag := 3, payload := [] } :: []
    ∧ placesHeld (buffered 0x20 []) < 4 ∧ 0x1F < 0x20
    ∧ Calm (buffered 5 []) ∧ readRequest 5 3 [] = .request (.getConfig 3)
    ∧ Calm (buffered 5 [0]) ∧ readRequest 5 3 [0] = .badLength
    ∧ Calm lane ∧ lane.port.buffer = []
    ∧ (let s := lane.onPort fun q => { q with replies := List.replicate 4 reply0 }
       Calm s ∧ 4 ≤ placesHeld s ∧ s.port.transmitting = none ∧ s.port.cts = true)
    ∧ (let s := lane.onPort fun q => { q with notices := [notice0] }
       Calm s ∧ s.port.replies = [] ∧ s.port.notices = notice0 :: [])
    ∧ (let f := LiveFrame.entry .rolling (some 0) (entrySample (delivery 500 400 false) lane)
       let s := lane.onPort fun q => { q with live := some f }
       Calm s ∧ s.port.replies = [] ∧ s.port.notices = [] ∧ s.port.live = some f)
    ∧ (let s := lane.onPort fun q => { q with cts := false }
       Calm s ∧ s.port.cts = false) := by
  (with_reducible and_intros) <;> first | exact calm_of rfl | rfl | decide +kernel

theorem test_hyp_RequestBytesOnTheLineAreReadBack : (Instr.setCounter 65535 4294967295).wf = true
    ∧ requestTag (.setCounter 65535 4294967295) = some (0x1F, 65535)
    ∧ requestPayload (.setCounter 65535 4294967295) = some [255, 255, 255, 255]
    ∧ [255, 255, 255, (255 : Byte)].length ≤ 1024 ∧ lane.port.frame = none := by
  (with_reducible and_intros) <;> first | rfl | decide

/-! ## The laws hold of a lane at work, and a step there goes on -/

theorem test_hyp_EveryStepLeavesThePartCalm : ({ testing .waitWheels with pending := [.windowEnd] } : State).pending ≠ []
    ∧ ∃ t, step { testing .waitWheels with pending := [.windowEnd] } = .next t := ⟨by decide, _, rfl⟩

theorem test_hyp_EveryStepKeepsTheRunLaw : RunLaw (running (testing .braking)) := fun _ => .inr (.inr rfl)
theorem test_hyp_EveryStepKeepsTheCreditLaw : CreditLaw (printing (job .printing) .ready) := by unfold CreditLaw; decide
theorem test_hyp_EveryStepKeepsTheAxleLaw : AxleLaw (testing .braking) := by
  unfold AxleLaw
  have h : (testing .braking).vt.records.all (fun r => decide (r.axles.length ≤ 12) && r.expected.all (· ≤ 12)) = true := by
    decide
  intro r hr
  have := List.all_eq_true.mp h r hr
  simp only [Bool.and_eq_true, decide_eq_true_eq] at this
  exact ⟨this.1, fun n hn => by simpa [hn] using this.2⟩

theorem test_hyp_EveryStepKeepsTheLaneAndTheJobs :
    LaneLaw (testing .braking) ∧ JobLaw (testing .braking) ∧ JobLaw (printing (job .printing) .ready)
      ∧ ShareLaw (testing .braking) := by
  refine ⟨⟨by decide, by decide, fun k => ?_, fun a h => by cases h⟩, ⟨fun j h => (List.not_mem_nil h).elim, ?_⟩, ⟨?_, ?_⟩,
    ⟨by decide, by decide⟩⟩
  · match k with
    | 0 => decide
    | k + 1 =>
      have : (testing .braking).record (k + 1) = Record.free := by
        show (List.replicate 31 Record.free).getD k Record.free = _
        rw [List.getD_eq_getElem?_getD, List.getElem?_replicate]
        split <;> rfl
      rw [this]
      constructor <;> intro h
      · exact absurd h (by simp [testing, State.onVt, State.onBrake, withRecord])
      · cases h
  · decide
  · decide
  · decide

theorem test_hyp_EveryStepKeepsTheBlocks :
    BlockLaw ((openTrace .service 0 (some 1) (testing .spinUp)).2) := by
  unfold BlockLaw
  (with_reducible and_intros) <;> decide +kernel

theorem test_hyp_EveryStepKeepsTheEepromForm : written.wf = true := by decide +kernel

/-! ## One step from the worked sequences of the spec -/

/-- A field of the state a command leads to. -/
def after {α : Type} (i : Instr) (s : State) (f : State → α) : Option α :=
  match exec i s with
  | .next t => some (f t)
  | _ => none

/-- 2.2.1: the eighth conversion at a rail in a row faults the channel; the seventh does not. -/
theorem test_rail_run : after (.conversion (List.replicate 16 4095)) (sensed false 0)
      (fun t => (t.sig.channels[0]?.map Channel.faulted, t.sig.channels[1]?.map Channel.faulted))
    = some (some true, some false) := by decide

/-- 2.4.1: line 5, active LOW, 20 ms, pending from 512: at 531 nothing, at 532 an edge stamped 532. -/
def beam (t : LaneTime) : State :=
  at_ t (lane.onSig fun g => { g with
    lines := g.lines.set 5 { Line.reset with fn := .entryBarrier, level := .low, change := some 512 } })

theorem test_debounce : after (.lineSample 0) (beam 531) (fun t => t.sig.edges.filter (fun e => e.fn == .entryBarrier))
      = some []
    ∧ after (.lineSample 0) (beam 532) (fun t => t.sig.edges.filter (fun e => e.fn == .entryBarrier))
      = some [{ fn := .entryBarrier, active := true, stamp := 532 }] := by decide

/-- 1.5.1 at 1 500 000: slot 4 is evicted and learned again as T0044, behind slot 12. -/
def atTheLimit : State :=
  sent .entryBarrier true (at_ 1500000 ((withRecord 12 { booked with state := .inLane }
    (withRecord 7 { complete with lastActivity := 900000, job := true }
      (withRecord 4 { complete with lastActivity := 1200000 }
        (withRecord 3 booked (withRecord 2 booked (withRecord 1 booked (withRecord 0 booked lane))))))).onVt
    fun v => { v with dynMax := 2, queue := [12], entryCount := 43 }))

theorem test_eviction : after .entryBarrierActive atTheLimit
    (fun t => (t.vt.queue, displayedId (t.record 4), (t.record 4).state, (t.record 7).state, t.vt.entryCount))
      = some ([12, 4], txt "T0044", .inLane, .complete, 44) := by decide +kernel

/-- 4.5.1: the samples at 58 000 to 58 030. -/
def sampleAt (t : LaneTime) (l r sl sr : Nat) : BrakeSample :=
  { forceL := some l, forceR := some r, clampL := false, clampR := false, slipL := sl, slipR := sr, speedL := none,
    speedR := none, pedal := some 100, time := t }

def beforeSlip : State := (testing .braking).onBrake fun b =>
  { b with run := { Running.none with maxL := 3210, maxR := 2960, maxLR := 6170, imbalanceMax := some 98 } }

def slipStop : State :=
  brakingSample (sampleAt 58030 2105 3048 640 110) (brakingSample (sampleAt 58020 2960 3061 411 102)
    (brakingSample (sampleAt 58010 3402 3035 262 95) (brakingSample (sampleAt 58000 3369 3020 180 90) beforeSlip)))

theorem test_slip_stop : slipStop.brake.state = .stopping ∧ slipStop.brake.run.maxL = 3402
    ∧ slipStop.brake.run.maxR = 3035 ∧ slipStop.brake.run.imbalanceMax = some 108
    ∧ slipStop.brake.run.endCause = some .slipStopL := by decide

/-- 6.5.1, frames B, K and O: the offset taken, a trim of +1, and a third frame out of the window. -/
def unit1117 (seq time : Nat) : List Byte :=
  let b : List Byte := [0x7E, 0x17, 0x11, BitVec.ofNat 8 seq, BitVec.ofNat 8 time, BitVec.ofNat 8 (time / 256),
    100, 0, 101, 0, 102, 0, 103, 0, 80]
  b ++ [crc8 b]

def following (seq time : Nat) (ext : LaneTime) : Option Following :=
  some { unit := 0x1117, seq := BitVec.ofNat 8 seq, unitTime := BitVec.ofNat 16 time, extended := ext, battery := 80,
         silence := 0 }

def pedalAt (p : PedalLink) (t : LaneTime) (seq time : Nat) : State :=
  { lane with pedal := { p with idMask := 0xFF00, idMatch := 0x1100, completed := [(unit1117 seq time, t)] } }

def linkB : State :=
  pedalAt { PedalLink.reset with state := .unsync, following := following 200 65500 65500 } 100081 201 4
def linkK : State :=
  pedalAt { PedalLink.reset with state := .sync, following := following 210 364 65900, offset := some 34529 } 100486
    211 404
def linkO : State :=
  pedalAt { PedalLink.reset with state := .sync, following := following 214 524 66060, offset := some 34529,
                                 outRun := 2 } 100660 215 564

theorem test_pedal_offset_taken : after (.pedalFrame (unit1117 201 4)) linkB
    (fun t => (t.pedal.state, t.pedal.offset, t.pedal.following.map Following.extended))
      = some (.tentative, some 34529, some 65540) := by decide +kernel
theorem test_pedal_trim : after (.pedalFrame (unit1117 211 404)) linkK
    (fun t => (t.pedal.state, t.pedal.offset, t.pedal.lastError, t.pedal.ring.map RingEntry.time))
      = some (.sync, some 34530, some 5, [100590, 100600, 100610, 100620]) := by decide +kernel
theorem test_pedal_out_of_window : after (.pedalFrame (unit1117 215 564)) linkO
    (fun t => (t.pedal.state, t.pedal.offset, t.pedal.ring.length)) = some (.tentative, some 34548, 0) := by decide +kernel

/-- 9.6.1: the pass of BX-2207's certificate with two header lines and no curves has 23 frames. -/
theorem test_plan_length :
    (planOf { job .printing with headers := [⟨.normal, txt "A"⟩, ⟨.normal, txt "B"⟩] }
      { complete with axles := bx2207, totals := some (totalsOf (some class2) bx2207) }).length = 23 := by decide +kernel

/-- 10.5.1: the commit goes to the copy that is not current, and its acknowledge makes 1234 current in B. -/
def committing : State :=
  lane.onCal fun c =>
    let c' := { c with copyA := { value := 1233, stored := true }, copyB := { value := 1232, stored := true },
                       counter := 1233, current := .a, queue := [.commit] }
    { c' with writing := some { page := WriteEntry.page c' .commit, values := WriteEntry.values c' .commit, began := 0 } }

theorem test_commit : committing.cal.writing = some { page := 2, values := .counter 1234, began := 0 }
    ∧ after (.eepromWriteEnd true) committing (fun t => (t.cal.counter, t.cal.current, t.cal.copyA.value, t.cal.state))
      = some (1234, .b, 1233, .ready) := by decide +kernel
theorem test_commit_timeout : after .eepromAckTimeout (at_ 10 committing)
      (fun t => (t.cal.counter, t.cal.current, t.cal.copyB.stored, t.cal.state)) = some (1233, .a, false, .ready)
    ∧ after .eepromAckTimeout (at_ 9 committing) (fun t => t.cal.writing.isSome) = some true := by
  decide +kernel

/-- R172: the binding a job's end sets free is noticed before CERT_DONE: the armed vehicle waits for slot 0's record, the
only evictable one once its job has ended. -/
def waitingOnJob : State :=
  ((printing passDone .ready).onVt fun v => { v with dynMax := 1 }).onEntry fun e => { e with blocked := true }

theorem test_retry_at_job_end : after (.credit 1) (printerSays (.credit 1) waitingOnJob)
    (fun t => (t.port.notices.map (fun n => (noticeBytes n.2).1), (t.record 0).state, t.entry.vehicle, t.vt.queue))
      = some ([0x44, 0x40, 0x45, 0x47, 0x45], .inLane, some 0, [0]) := by decide +kernel

/-- 11.2.1: a ninth frame, with the buffer full and four replies waiting, is answered BUSY. -/
def held : State := (arrived 14 [0]).onPort fun q =>
  { q with cts := false, replies := List.replicate 4 reply0
           buffer := List.replicate 4 { kind := 14, tag := 1, payload := [0] } }

theorem test_busy : after (.hostFrameReceived 14 3 [0]) held
    (fun t => (t.port.buffer.length, (t.port.replies.filter Reply.refusal).map Reply.tag,
      (t.port.replies.filter Reply.refusal).map Reply.status)) = some (4, [3], [.busy]) := by decide

/-- The frame of R200 around GET_CONFIG with tag 3: sync, length 0, kind 5, tag 3, then two CRC bytes. -/
theorem test_host_frame : (hostFrame 5 3 []).take 6 = [0xA5, 0, 0, 5, 3, 0] ∧ (hostFrame 5 3 []).length = 8 := by
  decide +kernel

/-! ## States that meet the hypotheses of the statements' later clauses -/

/-- CAL_ZERO while a collection runs, and SET_CHANNELS that abandons it: each answered beside the collection's own reply. -/
theorem test_hyp_EveryRequestIsAnsweredOnce_collecting :
    (let s := collectingAs .zero 5 0 0 .unused false
     Calm s ∧ s.cal.collection.isSome = true ∧ requestTag (.calZero 3 15) = some (0x1D, 3)
       ∧ reachesOwner (.calZero 3 15) s = true ∧ s.cal.collection.map Collection.tag = some 9)
    ∧ requestTag (.setChannels 3 [(15, 5)]) = some (6, 3)
    ∧ after (.calZero 3 15) (collectingAs .zero 5 0 0 .unused false)
        (fun t => t.port.replies.map (fun r => (r.kind, r.tag, r.status))) = some [(0x1D, 3, .busy)]
    ∧ after (.setChannels 3 [(15, 5)]) (collectingAs .zero 5 0 0 .unused false)
        (fun t => t.port.replies.map (fun r => (r.kind, r.tag, r.status)))
      = some [(0x1D, 9, .busy), (6, 3, .ok)] := by
  (with_reducible and_intros) <;> first | exact calm_of rfl | rfl | decide +kernel

/-- A brake channel in collection, an armed record and an empty lane: the brake station leaves IDLE by taking the head. -/
def headTaken : State :=
  (withRecord 31 { booked with state := .armed } (collectingAs .zero 5 0 0 .brakeL false)).onVt fun v =>
    { v with armed := some 31 }

theorem test_hyp_CollectionsBeginAndEnd_brake_channel :
    (let s := sent .entryBarrier true headTaken
     Calm s ∧ takeEdge .entryBarrier true s = some (0, taken headTaken) ∧ s.cal.collection.map Collection.channel = some 15
       ∧ (s.sig.channels[15]?).map Channel.fn = some .brakeL ∧ ownerOf .brakeL = some .brake ∧ s.entry.vehicle = none
       ∧ s.entry.blocked = false ∧ s.vt.queue = [] ∧ s.vt.armed = some 31)
    ∧ after .entryBarrierActive (sent .entryBarrier true headTaken)
        (fun t => (t.brake.state, t.brake.vehicle, t.port.replies.map (fun r => (r.kind, r.tag, r.status))))
      = some (.waitWheels, some 31, [(0x1D, 9, .busy)]) := by
  (with_reducible and_intros) <;> first | exact calm_of rfl | exact takeEdge_sent .. | rfl | decide +kernel

/-- A job in NUMBERING for slot 0 and a started pass for slot 1. -/
def twoJobs : State :=
  (withRecord 1 { complete with job := true } (printing (job .numbering) .ready)).onCert fun c =>
    { c with queue := [job .numbering, { job .printing with slot := 1, started := true }] }

theorem test_hyp_RestartEmptiesTheLane_jobs : Calm twoJobs ∧ reachesOwner (.restart 0) twoJobs = true
    ∧ (twoJobs.cert.queue.map Job.slot).Nodup ∧ (twoJobs.record 0).job = true
    ∧ twoJobs.port.notices.length + twoJobs.cert.queue.length ≤ 32
    ∧ (∃ j ∈ twoJobs.cert.queue, j.state = .printing ∧ j.started = true) := by
  refine ⟨calm_of rfl, rfl, by decide, by decide +kernel, by decide, _, .tail _ (.head _), rfl, rfl⟩

/-- R176, R36, R140. -/
theorem test_restart_keeps_numbering :
    after (.restart 0) (twoJobs.onSig fun g => { g with driveL := { g.driveL with total := 7, residue := 3 } })
      (fun t => (t.cert.queue.map Job.abortPending, t.cert.void, [t.sig.driveL.total, t.sig.driveL.residue],
        [t.guide.entry.step, t.guide.brake.step]))
      = some ([true], .owed, [0, 0], [some 0, some 8]) := by decide +kernel

/-- The divider of the live frames and the count of window ends. -/
def dividing (d n : Nat) (s : State) : State :=
  s.onPort fun p => { p with entryDivider := d, entryLiveCount := n, brakeDivider := d, brakeLiveCount := n }

theorem test_hyp_EntryWindowEndPutsAnAxleOnTheScale_live :
    (let s := dividing 3 1 (entryWith 500 binding)
     Calm s ∧ s.sig.entryInbox = delivery 500 400 false :: [] ∧ s.entry.vehicle.isSome = true
       ∧ s.port.entryLiveCount + 1 < s.port.entryDivider)
    ∧ (let s := dividing 3 2 (entryWith 500 binding)
       Calm s ∧ 0 < s.port.entryDivider ∧ s.port.entryDivider ≤ s.port.entryLiveCount + 1)
    ∧ (let s := dividing 0 0 (entryWith 500 binding); Calm s ∧ s.port.entryDivider = 0)
    ∧ Calm (dividing 1 0 (entryWith 500 blockedLane)) := by
  (with_reducible and_intros) <;> first | exact calm_of rfl | rfl | decide

theorem test_hyp_BrakeWindowEndSamplesAndStopsTheSlip_live :
    (let s := dividing 3 1 slipping
     Calm s ∧ s.brake.state ≠ .idle ∧ s.port.brakeLiveCount + 1 < s.port.brakeDivider)
    ∧ (let s := dividing 3 2 slipping
       Calm s ∧ s.brake.state ≠ .idle ∧ 0 < s.port.brakeDivider ∧ s.port.brakeDivider ≤ s.port.brakeLiveCount + 1)
    ∧ (let s := dividing 3 2 (brakeWith (delivery 400 600 false) lane); Calm s ∧ s.brake.state = .idle) := by
  (with_reducible and_intros) <;> first | exact calm_of rfl | rfl | decide

/-- R193: the frame of the window end stands in place of the one that waited. -/
theorem test_live_frame_replaces :
    after .brakeWindowEnd ((dividing 3 2 slipping).onPort fun p =>
        { p with live := some (.entry .rolling none (entrySample (delivery 500 400 false) lane)) })
      (fun t => (t.port.brakeLiveCount, match t.port.live with
        | some (.brake st _ _ ph x) => some (st, ph, x.time)
        | _ => none)) = some (0, some (.braking, some .service, 10)) := by decide +kernel

/-- Each request at the front, met by another command, and no request. -/
theorem test_hyp_GuidanceRequestsAreCarriedOut_others :
    Calm (asked .markParking lane) ∧ (asked .markParking lane).guide.requests = .markParking :: []
    ∧ StationRequest.markParking ≠ .endAxle ∧ StationRequest.markParking ≠ .skipAxle
    ∧ StationRequest.markParking ≠ .releaseVehicle ∧ Calm lane ∧ lane.guide.requests = [] := by
  (with_reducible and_intros) <;> first | exact calm_of rfl | rfl | decide

/-! ### Guidance -/

/-- A station in a step of its built-in program, with flags up. -/
def inStep (st : Station) (n : Option Nat) (fs : List GEvent) (s : State) : State :=
  modGuide st (fun g => { g with step := n, flags := fs }) s

/-- The brake station's loaded step with a wait, its last sample as given. -/
def judging (w : Wait) (x : BrakeSample) : State :=
  let step : Step := { prompt := 5, red := .on, amber := .off, green := .off, showKind := .none, wait := w, timeout := 0,
                       nextAdvance := none, nextTimeout := none, request := .none }
  (lane.onGuide fun g => { g with
    steps := g.steps.set 79 (some step), brake := { g.brake with program := 7, step := some 95 } }).onBrake fun b =>
      { b with lastSample := some x }

/-- Refresh in a step and at END, a frame of the second board alone, none at all, a frame on the line or not. -/
theorem test_hyp_GuidanceTimesAndThePromptLine_frames (st : Station) :
    (let s := at_ 1000 lane
     Calm s ∧ (stepInHand st s).isSome = true ∧ s.due (some (s.guide.at st).refresh) = true)
    ∧ (let s := at_ 1000 (inStep st none [] lane)
       Calm s ∧ (s.guide.at st).step = none ∧ s.due (some (s.guide.at st).refresh) = true)
    ∧ (let s := prompts none (some (show_ 1 false)) none
       Calm s ∧ s.guide.transmitting = none ∧ s.guide.entry.slot = none ∧ s.guide.brake.slot = some (show_ 1 false))
    ∧ (let s := prompts (some (show_ 0 false)) none none
       Calm s ∧ s.guide.entry.slot = some (show_ 0 false) ∧ s.guide.brake.slot = none)
    ∧ (let s := prompts none none none
       Calm s ∧ s.guide.entry.slot = none ∧ s.guide.brake.slot = none ∧ s.guide.transmitting = none) := by
  cases st <;> (with_reducible and_intros) <;> first | exact calm_of rfl | rfl | decide

/-- A selection for a vehicle of class 2 (programs 0 and 1), of an unloaded class, and for no vehicle; an event that is
waited for, one that is not, one already up, END; a fault. -/
theorem test_hyp_GuidanceTimesAndThePromptLine_events :
    (let s := testing .waitWheels
     Calm s ∧ programAt s.guide 1 = some { first := 8, last := 15, entryStep := 8 }
       ∧ (s.vt.classes[(s.record 0).cls]?).join = some class2 ∧ programAt s.guide class2.brakeProgram ≠ none)
    ∧ (((testing .waitWheels).vt.classes[((testing .waitWheels).record 31).cls]?).join = none)
    ∧ (let s := inStep .entry (some 3) [] lane
       Calm s ∧ (stepInHand .entry s).map Step.wait = some (.event .axleOnSlip) ∧ .axleOnSlip ∉ s.guide.entry.flags
         ∧ .axleOnScale ∉ s.guide.entry.flags ∧ Wait.event .axleOnSlip ≠ .event .axleOnScale)
    ∧ (let s := inStep .brake (some 9) [.atSpeed] lane
       Calm s ∧ .atSpeed ∈ s.guide.brake.flags ∧ .wheelsPresent ∉ s.guide.brake.flags
         ∧ (stepInHand .brake s).map Step.wait = some (.event .wheelsPresent))
    ∧ (let s := inStep .brake none [] lane; Calm s ∧ s.guide.brake.step = none)
    ∧ (let s := testing .fault
       Calm s ∧ s.brake.state = .fault ∧ (programAt s.guide s.guide.brake.program).isSome = true) := by
  (with_reducible and_intros) <;> first | exact calm_of rfl | rfl | decide

/-- Each threshold reached exactly, missed by one, and with a value absent. -/
theorem test_hyp_GuidanceTimesAndThePromptLine_samples :
    (let x : BrakeSample := { forceL := some 400, forceR := some 600, clampL := false, clampR := false, slipL := 0, slipR := 0
                              speedL := some 700, speedR := some 650, pedal := some 100, time := 0 }
     (∀ w, (stepInHand .brake (judging w x)).map Step.wait = some w)
       ∧ (∀ w, (judging w x).brake.lastSample = some x)
       ∧ Calm (judging (.pedalAbove 100) x) ∧ Calm (judging (.forceAbove 1000) x) ∧ Calm (judging (.speedAbove 650) x)
       ∧ 1000 = 400 + 600 ∧ 650 = min 700 650
       ∧ (compareSample (judging (.forceAbove 1000) x)).guide.brake.step = none
       ∧ compareSample (judging (.forceAbove 1001) x) = judging (.forceAbove 1001) x
       ∧ (compareSample (judging (.speedAbove 650) x)).guide.brake.step = none
       ∧ compareSample (judging (.speedAbove 651) x) = judging (.speedAbove 651) x
       ∧ (compareSample (judging (.pedalAbove 100) x)).guide.brake.step = none
       ∧ compareSample (judging (.pedalAbove 101) x) = judging (.pedalAbove 101) x
       ∧ compareSample (judging (.pedalAbove 0) { x with pedal := none })
          = judging (.pedalAbove 0) { x with pedal := none }) := by
  refine ⟨fun w => rfl, fun w => rfl, calm_of rfl, calm_of rfl, calm_of rfl, rfl, by decide, ?_, ?_, ?_, ?_, ?_, ?_, ?_⟩ <;>
    decide +kernel

/-- A delivered event, waited for and not; a delivered sample in each of its three cases; ESTOP; a binding behind another
vehicle. -/
theorem test_hyp_GuidanceTimesAndThePromptLine_delivered :
    (let s := inStep .entry (some 3) [] binding
     Calm (sent .slipPlateSwitch true s) ∧ takeEdge .slipPlateSwitch true (sent .slipPlateSwitch true s) = some (0, taken s)
       ∧ s.entry.vehicle.isSome = true ∧ s.entry.plate.crossing = false
       ∧ (stepInHand .entry s).map Step.wait = some (.event .axleOnSlip) ∧ .axleOnSlip ∉ s.guide.entry.flags)
    ∧ (let s := inStep .entry (some 5) [] binding
       Calm (sent .slipPlateSwitch true s) ∧ (stepInHand .entry s).map Step.wait = some (.event .weightSettled))
    ∧ (let s := brakeWith (turning 0 0 0) (judging (.forceAbove 400) (sampleAt 0 0 0 0 0))
       Calm s ∧ s.sig.brakeInbox = turning 0 0 0 :: [] ∧ s.brake.state.attempt = false
         ∧ (sampled (turning 0 0 0) s).forceL = some 200 ∧ (sampled (turning 0 0 0) s).forceR = some 200)
    ∧ (let s := inPhase .drag (turning 7 0 0) fun b => { b with dragCount := 198 }
       Calm s ∧ s.brake.state = .drag ∧ (turning 7 0 0).brakeFaulted = false ∧ s.brake.dragCount < 199)
    ∧ (let s := inPhase .braking (turning 10 20 20) fun b => { b with releaseCount := 98 }
       Calm s ∧ s.brake.state = .braking ∧ (sampled (turning 10 20 20) s).slipL < s.brake.slipLimit
         ∧ (sampled (turning 10 20 20) s).slipR < s.brake.slipLimit ∧ s.brake.releaseCount < 99)
    ∧ (let s := testing .drag
       Calm (sent .estop true s) ∧ takeEdge .estop true (sent .estop true s) = some (0, taken s) ∧ s.brake.state ≠ .fault
         ∧ programAt s.guide s.guide.brake.program = some { first := 8, last := 15, entryStep := 8 })
    ∧ (let s := (withRecord 31 { booked with state := .armed } (testing .waitWheels)).onVt fun v =>
         { v with armed := some 31 }
       Calm (sent .entryBarrier true s) ∧ takeEdge .entryBarrier true (sent .entryBarrier true s) = some (0, taken s)
         ∧ s.vt.armed = some 31 ∧ 31 < s.vt.records.length ∧ s.vt.queue.length = 1
         ∧ (s.vt.classes[(s.record 31).cls]?).join = some class2
         ∧ programAt s.guide class2.entryProgram = some { first := 0, last := 7, entryStep := 0 }
         ∧ (stepAt s.guide 0).map Step.wait = some (.event .vehicleAtBarrier)) := by
  (with_reducible and_intros) <;> first | exact calm_of rfl | exact takeEdge_sent .. | rfl | decide +kernel

/-- R127 action 6: BLOCKED stands, so the timeout's successor 1, which waits on it, is passed through to step 2. -/
theorem test_standing_flag_passes_a_step :
    after (.stepTimeout .entry) (at_ 100 blockedLane)
      (fun t => (t.guide.entry.step, t.guide.entry.flags, t.guide.entry.slot.map (fun p => p.frame.prompt),
        t.sig.outputs.entryRed))
      = some (some 2, [.entryBlocked], some 2, .on) := by decide +kernel

/-- R132, R127: ESTOP leads through step 8, which waits on STATION_FAULT, to step 15. -/
theorem test_fault_reaches_step_15 :
    after .estopActive (sent .estop true (testing .drag))
      (fun t => (t.guide.brake.step, t.guide.brake.slot.map (fun p => p.frame.prompt), t.sig.outputs.brakeRed))
      = some (some 15, some 15, .flash) := by decide +kernel

/-- R126, R129: the binding selects program 0 at step 0, and VEHICLE_AT_BARRIER leads on to step 3. -/
theorem test_binding_reaches_step_3 :
    after .entryBarrierActive (sent .entryBarrier true lane)
      (fun t => (t.guide.entry.step, t.guide.entry.slot.map (fun p => p.frame.values))) = some (some 3, some [some 1]) := by
  decide +kernel

/-- R135: a frame made pending while its board's frame is sent stays, the one sent leaves. -/
theorem test_prompt_end_keeps_the_newer_frame :
    after .promptTransmitEnd (prompts (some (show_ 0 true)) (some (show_ 1 false)) (some (show_ 0 true).frame))
      (fun t => (t.guide.entry.slot, t.guide.brake.slot)) = some (none, some (show_ 1 false)) := by decide

/-! ### The printer -/

/-- The job of a vehicle with one brake result whose trace is 7, its curve drawn next. -/
def curveJob : Job := { job .printing with curves := true, started := true, planPos := 9 }
def curveRecord : Record :=
  { complete with job := true, axles := [axle 3562 3558 (-38) false
      (some { res 2460 2330 35 40 62 with traceId := some 7, completed := 20 }) none] }
def curveTrace (samples : List TraceSample) (truncated : Bool) : Descriptor :=
  { Descriptor.opened 7 .service 0 (some 1) 0 true with
    closed := true, closeTime := some 20, samples := samples, truncated := truncated }
def drawing (d : List Descriptor) : State :=
  (withRecord 0 curveRecord (printing curveJob .ready)).onTraces fun t => { t with directory := d }

/-- A change of link told, a condition told while PAUSED, one not told; the rest of a strip; a strip with its trace, and
with one that has become another's. -/
theorem test_hyp_PrinterLinkMovesTheHeadJob_strips :
    (let c : PrinterCondition := { paperOut := true, coverOpen := false, headHot := false }
     let s := printerSays (.status c) (lane.onCert fun k => { k with link := .paused, condition := some { c with headHot := true } })
     Calm s ∧ s.cert.condition ≠ some c ∧ s.port.notices.length < 32
       ∧ (let u := printerSays (.status c) (lane.onCert fun k => { k with link := .paused, condition := some c })
          Calm u ∧ u.cert.condition = some c))
    ∧ (let s := (printing curveJob .ready).onCert fun c => { c with strip := [.cut, .feed 4] }
       Calm s ∧ s.cert.void = .none ∧ s.cert.strip = .cut :: [.feed 4] ∧ s.cert.outstanding < s.cert.window)
    ∧ (let s := drawing [curveTrace [.brake (some 499) (some 501) 0 0 none false false] true]
       Calm s ∧ s.cert.transmitting = none ∧ s.cert.link = .ready ∧ s.cert.queue = curveJob :: [] ∧ s.cert.strip = []
         ∧ (match (planOf curveJob (s.record 0))[curveJob.planPos]? with
            | some (.strip 1 .service r) => r.bind AxleResult.traceId
            | _ => none) = some 7
         ∧ (s.traces.find 7).map Descriptor.closed = some true)
    ∧ (let s := drawing [{ curveTrace [] false with slot := 1 }]
       Calm s ∧ (s.traces.find 7).map Descriptor.slot = some 1) := by
  (with_reducible and_intros) <;> first | exact calm_of rfl | rfl | decide +kernel

/-- R168: 501 daN is drawn on a scale of 1000; the one sample fills column 383 alone; 499 daN left stands in row
127 - round(499 * 127 / 1000) = 64, the right side is not drawn in an odd column. -/
theorem test_strip_dots :
    after .printerTransmitBegin (drawing [curveTrace [.brake (some 499) (some 501) 0 0 none false false] true])
      (fun t => (t.cert.transmitting, t.cert.strip.length, t.cert.strip.getLast?,
        (t.cert.strip[8]?).map (fun f => match f with
          | .rows l => l.map (fun b => b.getD 47 0)
          | _ => [])))
      = some (some (.line .normal (txt "CURVE 1 SERVICE T 7 1000")), 17, some (.line .normal (txt "CURVE TRUNCATED")),
          some [1, 0, 0, 0, 0, 0, 0, 0]) := by decide +kernel

/-- R168: a trace that is another's draws no curve. -/
theorem test_no_curve :
    after .printerTransmitBegin (drawing [{ curveTrace [] false with slot := 1 }])
      (fun t => (t.cert.transmitting, t.cert.strip))
      = some (some (.line .normal (txt "CURVE 1 SERVICE T 7 -")), [.line .normal (txt "NO CURVE")]) := by decide +kernel

/-- R199, R158: of a job's two flags abort pending is bit 0 and started bit 1; five bytes of the report follow them. -/
theorem test_job_flags :
    (certBytes (certReport (printing { job .numbering with abortPending := true } .ready))).reverse[5]? = some 1
    ∧ (certBytes (certReport (printing { job .printing with started := true } .ready))).reverse[5]? = some 2 := by
  decide +kernel

/-- R132, R127: after ACK_FAULT the flag of the step in hand stands, and the next entry, at the step's timeout, sets none. -/
theorem test_fault_flag_after_ack :
    (let s := inStep .brake (some 15) [.stationFault] ((testing .fault).onVt fun v => { v with queue := [0] })
     after (.ackFault 0) s (fun t => (t.brake.state, t.guide.brake.flags)) = some (.waitWheels, [.stationFault]))
    ∧ after (.stepTimeout .brake) (at_ 100 (inStep .brake (some 15) [.stationFault] lane))
        (fun t => (t.guide.brake.step, t.guide.brake.flags)) = some (some 8, []) := by
  (with_reducible and_intros) <;> decide +kernel

/-! ### The write queue -/

/-- A commit of the job in NUMBERING being written, another entry behind it. -/
def numbering (abort : Bool) (rest : List WriteEntry) : State :=
  let c := committing.cal
  { (withRecord 0 { complete with job := true } committing).onCert fun k =>
      { k with queue := [{ job .numbering with number := none, printedDate := none, abortPending := abort }] } with
    cal := { c with queue := .commit :: rest } }

/-- A record's write with a further entry for it, and with others, behind it. -/
theorem test_hyp_EepromWritesStoreOnePage_queue :
    (let s := (writing (.channel 15)).onCal fun c => { c with queue := [.channel 15, .channel 15, .constants] }
     Calm s ∧ s.cal.queue = .channel 15 :: [.channel 15, .constants] ∧ (s.cal.channels[15]?).isSome = true
       ∧ s.port.notices.length < 32)
    ∧ (let s := (writing .constants).onCal fun c => { c with queue := [.constants, .commit] }
       Calm s ∧ s.cal.queue = .constants :: [.commit] ∧ s.cal.available = true ∧ s.cal.counter < 4294967295)
    ∧ Calm (numbering false [.constants]) ∧ (numbering false [.constants]).cert.queue.map Job.abortPending = [false]
    ∧ (numbering false []).cert.queue.map Job.state = [.numbering]
    ∧ Calm (numbering true []) ∧ (numbering true []).cert.queue.map Job.abortPending = [true]
    ∧ (numbering true []).entry.blocked = false ∧ ((numbering true []).record 0).state = .complete
    ∧ (numbering true []).port.notices.length ≤ 30 ∧ pageCopy 2 ≠ (numbering true []).cal.current := by
  (with_reducible and_intros) <;> first | exact calm_of rfl | rfl | decide +kernel

/-- R161: the number and printed date at the end of the counter write; an abort that was pending; a failed write. -/
theorem test_commit_fixes_the_number :
    (after (.eepromWriteEnd true) (numbering false [.constants])
      (fun t => (t.cert.queue.head?.map Job.state, t.cert.queue.head?.map Job.number, t.cal.writing.map PageWrite.page))
      = some (some .printing, some (some 1234), some 3))
    ∧ after (.eepromWriteEnd true) (numbering true [])
      (fun t => (t.cert.queue.length, (t.record 0).state, t.port.notices.map (fun n => (noticeBytes n.2).1)))
      = some (0, .free, [0x4A, 0x47])
    ∧ after (.eepromWriteEnd false) (numbering false [])
      (fun t => (t.cert.queue.length, t.cal.counter, t.port.notices.map (fun n => (noticeBytes n.2).1)))
      = some (0, 1233, [0x4B, 0x47]) := by (with_reducible and_intros) <;> decide +kernel

/-- R182: with a further entry for the channel behind it the record is not yet stored, and that entry's write begins. -/
theorem test_stored_waits_for_the_last_entry :
    after (.eepromWriteEnd true) ((writing (.channel 15)).onCal fun c => { c with queue := [.channel 15, .channel 15] })
      (fun t => ((t.cal.channels[15]?).map ChannelCal.stored, t.cal.state, t.cal.queue, t.cal.writing.map PageWrite.page))
      = some (some false, .degraded, [.channel 15], some 19) := by decide +kernel

end Sys2Proof.Tests
end

section
/-! SUPPORT. The Vehicle Table as its laws read it (R3, R6, R9, R16, R19, R158): which changes of it the rules allow, and
that each of them keeps the laws. -/

namespace Sys2Proof.Machine

/-! ## What the laws read of the state -/

/-- The records, the lane queue, the armed reference, DYN_MAX, and the slots of the certificate jobs. -/
structure LaneView where
  records : List Record
  queue : List Nat
  armed : Option Nat
  dynMax : Nat
  jobs : List Nat

def State.laneView (s : State) : LaneView :=
  { records := s.vt.records, queue := s.vt.queue, armed := s.vt.armed, dynMax := s.vt.dynMax
    jobs := s.cert.queue.map Job.slot }

namespace LaneView

/-- The record of a slot, as `State.record`. -/
def record (v : LaneView) (k : Nat) : Record := v.records.getD k Record.free

/-- A slot's record changed, as `modRec`. -/
def modRec (k : Nat) (f : Record → Record) (v : LaneView) : LaneView := { v with records := v.records.modify k f }

/-- The count of the records in use of an origin (R6). -/
def count (o : Origin) (v : LaneView) : Nat := v.records.countP (fun r => r.state != .free && r.origin == o)

/-- The lowest-numbered FREE slot, as `freeSlot`. -/
def freeSlot (v : LaneView) : Option Nat := v.records.findIdx? (fun r => r.state == .free)

end LaneView

/-- R3, R8: what `AxleLaw` asks of a record. -/
def Record.AxlesOk (r : Record) : Prop := r.axles.length ≤ 12 ∧ ∀ n, r.expected = some n → n ≤ 12

/-- A record rewritten to stand in a state: its origin, job link and expected count stay, its list stays within 12. -/
structure Record.Turned (st : RecState) (r r' : Record) : Prop where
  state : r'.state = st
  origin : r'.origin = r.origin
  job : r'.job = r.job
  expected : r'.expected = r.expected
  axles : r.AxlesOk → r'.axles.length ≤ 12

/-- A record rewritten in its state. -/
abbrev Record.Kept (r r' : Record) : Prop := Record.Turned r.state r r'

/-- A record newly made: no axles, no job. -/
structure Record.Made (st : RecState) (o : Origin) (r : Record) : Prop where
  state : r.state = st
  origin : r.origin = o
  job : r.job = false
  expected : ∀ n, r.expected = some n → n ≤ 12
  axles : r.axles = []

/-! ## The changes the rules allow -/

/-- One change of the table or of the jobs' slots that a rule allows. -/
inductive TableMove : LaneView → LaneView → Prop where
  /-- Records rewritten in their states (R3, R10, R15, R17, R22). -/
  | edit (v : LaneView) (l : List Record) : List.Forall₂ Record.Kept v.records l → TableMove v { v with records := l }
  /-- R12 step 2, R14: the armed record enters the lane. -/
  | enter (v : LaneView) (k : Nat) (f : Record → Record) : v.queue.length < 3 → v.armed = some k →
      (v.record k).Turned .inLane (f (v.record k)) →
      TableMove v { v.modRec k f with queue := v.queue ++ [k], armed := none }
  /-- R12 step 3, R14: a record learned in the lowest FREE slot, within the dynamic share. -/
  | learn (v : LaneView) (k : Nat) (r : Record) : v.queue.length < 3 → v.armed = none → v.freeSlot = some k →
      v.count .dynamic < v.dynMax → r.Made .inLane .dynamic →
      TableMove v { v.modRec k (fun _ => r) with queue := v.queue ++ [k] }
  /-- R12 step 4, R13: a record evicted and another learned. -/
  | evict (v : LaneView) (e k : Nat) (r : Record) : v.queue.length < 3 → v.armed = none → (v.record e).evictable = true →
      (v.modRec e (fun _ => Record.free)).freeSlot = some k → r.Made .inLane .dynamic →
      TableMove v { (v.modRec e (fun _ => Record.free)).modRec k (fun _ => r) with queue := v.queue ++ [k] }
  /-- R23: the head becomes COMPLETE and leaves the queue. -/
  | complete (v : LaneView) (h : Nat) (rest : List Nat) (f : Record → Record) : v.queue = h :: rest →
      (v.record h).Turned .complete (f (v.record h)) → TableMove v { v.modRec h f with queue := rest }
  /-- R16: a record outside the lane that no job is for is removed. -/
  | remove (v : LaneView) (k : Nat) : (v.record k).state ≠ .inLane → (v.record k).job = false ∨ k ∉ v.jobs →
      TableMove v { v.modRec k (fun _ => Record.free) with armed := if v.armed == some k then none else v.armed }
  /-- R8: a record booked in the lowest FREE slot, within the booked share. -/
  | book (v : LaneView) (k : Nat) (r : Record) : v.freeSlot = some k → v.count .booked < 32 - v.dynMax →
      r.Made .booked .booked → TableMove v (v.modRec k (fun _ => r))
  /-- R9: the armed record returns to BOOKED. -/
  | disarm (v : LaneView) (k : Nat) (f : Record → Record) : v.armed = some k →
      (v.record k).Turned .booked (f (v.record k)) → TableMove v { v.modRec k f with armed := none }
  /-- R9: a record becomes ARMED. -/
  | arm (v : LaneView) (k : Nat) (f : Record → Record) : v.armed = none →
      (v.record k).state = .booked ∨ (v.record k).state = .armed → (v.record k).Turned .armed (f (v.record k)) →
      TableMove v { v.modRec k f with armed := some k }
  /-- R160: a job of a COMPLETE record joins the queue. -/
  | jobAdded (v : LaneView) (k : Nat) : (v.record k).state = .complete →
      TableMove v { v.modRec k (fun r => { r with job := true }) with jobs := v.jobs ++ [k] }
  /-- R172: the jobs of a slot leave the queue. -/
  | jobEnded (v : LaneView) (k : Nat) (f : Record → Record) : (∀ r, Record.Kept { r with job := false } (f r)) →
      TableMove v { v.modRec k f with jobs := v.jobs.filter (· != k) }
  /-- R26: a COMPLETE record without a job returns to BOOKED. -/
  | rebook (v : LaneView) (k : Nat) (f : Record → Record) : (v.record k).state = .complete → (v.record k).job = false →
      (v.record k).Turned .booked (f (v.record k)) → TableMove v (v.modRec k f)
  /-- R26: RESTART of the whole table. -/
  | restart (v : LaneView) (t : LaneTime) :
      TableMove v { v with records := v.records.map (fun r => r.restarted t), queue := [], armed := none }
  /-- R6: a DYN_MAX that both shares meet. -/
  | dynMax (v : LaneView) (n : Nat) : v.count .dynamic ≤ n → v.count .booked ≤ 32 - n → TableMove v { v with dynMax := n }
  /-- R25: reset. -/
  | reset (v : LaneView) : TableMove v State.reset.laneView

/-- The table has come from one state to another by changes that the rules allow. -/
def Moves (s t : State) : Prop := Relation.ReflTransGen TableMove s.laneView t.laneView

/-- A property of the table that every allowed change keeps holds along a run of them. -/
theorem Moves.keeps {P : LaneView → Prop} (hP : ∀ v w, TableMove v w → P v → P w) {s t : State} (h : Moves s t)
    (hs : P s.laneView) : P t.laneView := by
  have run : ∀ v w, Relation.ReflTransGen TableMove v w → P v → P w := fun v w h hv => by
    induction h with
    | refl => exact hv
    | tail _ hm ih => exact hP _ _ hm ih
  exact run _ _ h hs

/-! ## Records of a changed table -/

namespace LaneView

@[simp] theorem record_with (v : LaneView) (q : List Nat) (a : Option Nat) (d : Nat) (js : List Nat) :
    record { records := v.records, queue := q, armed := a, dynMax := d, jobs := js } = v.record := rfl

@[simp] theorem modRec_queue (v : LaneView) (k : Nat) (f : Record → Record) : (v.modRec k f).queue = v.queue := rfl
@[simp] theorem modRec_armed (v : LaneView) (k : Nat) (f : Record → Record) : (v.modRec k f).armed = v.armed := rfl
@[simp] theorem modRec_dynMax (v : LaneView) (k : Nat) (f : Record → Record) : (v.modRec k f).dynMax = v.dynMax := rfl
@[simp] theorem modRec_jobs (v : LaneView) (k : Nat) (f : Record → Record) : (v.modRec k f).jobs = v.jobs := rfl
@[simp] theorem modRec_length (v : LaneView) (k : Nat) (f : Record → Record) :
    (v.modRec k f).records.length = v.records.length := by simp [modRec]

theorem record_modRec (v : LaneView) (k j : Nat) (f : Record → Record) :
    (v.modRec k f).record j = if j = k ∧ k < v.records.length then f (v.record k) else v.record j := by
  unfold record modRec
  simp only [List.getD_eq_getElem?_getD, List.getElem?_modify]
  by_cases hj : j = k
  · subst hj
    by_cases hl : j < v.records.length
    · simp [hl]
    · simp [hl]
  · simp [hj, Ne.symm hj]

/-- A slot outside the table reads FREE. -/
theorem record_of_le {v : LaneView} {k : Nat} (h : v.records.length ≤ k) : v.record k = Record.free := by
  simp [record, h]

theorem lt_of_state {v : LaneView} {k : Nat} (h : (v.record k).state ≠ .free) : k < v.records.length := by
  by_contra hc
  rw [record_of_le (by omega)] at h
  exact h rfl

theorem record_modRec_same {v : LaneView} {k : Nat} (f : Record → Record) (h : k < v.records.length) :
    (v.modRec k f).record k = f (v.record k) := by rw [record_modRec, if_pos ⟨rfl, h⟩]

theorem record_modRec_ne {v : LaneView} {k j : Nat} (f : Record → Record) (h : j ≠ k) :
    (v.modRec k f).record j = v.record j := by rw [record_modRec, if_neg (fun x => h x.1)]

/-- What holds of a FREE record and of every record of the table is what holds of every slot. -/
theorem forall_record_iff {v : LaneView} {p : Record → Prop} (hp : p Record.free) :
    (∀ r ∈ v.records, p r) ↔ ∀ k, p (v.record k) := by
  constructor
  · intro h k
    by_cases hk : k < v.records.length
    · rw [record, List.getD_eq_getElem?_getD, List.getElem?_eq_getElem hk]
      exact h _ (List.getElem_mem hk)
    · rw [record_of_le (by omega)]; exact hp
  · intro h r hr
    obtain ⟨k, hk, rfl⟩ := List.mem_iff_getElem.mp hr
    have := h k
    rwa [record, List.getD_eq_getElem?_getD, List.getElem?_eq_getElem hk] at this

theorem freeSlot_spec {v : LaneView} {k : Nat} (h : v.freeSlot = some k) :
    k < v.records.length ∧ (v.record k).state = .free := by
  unfold freeSlot at h
  obtain ⟨hk, hs, -⟩ := List.findIdx?_eq_some_iff_getElem.mp h
  refine ⟨hk, ?_⟩
  rw [record, List.getD_eq_getElem?_getD, List.getElem?_eq_getElem hk]
  simpa using hs

/-! ## Counts of a changed table (R6) -/

theorem countP_modify {α : Type} (p : α → Bool) (l : List α) (k : Nat) (f : α → α) (x : α) (h : l[k]? = some x) :
    (l.modify k f).countP p + (if p x then 1 else 0) = l.countP p + (if p (f x) then 1 else 0) := by
  induction l generalizing k with
  | nil => cases h
  | cons a l ih =>
    cases k with
    | zero =>
      cases h
      simp only [List.modify_zero_cons, List.countP_cons]; omega
    | succ k =>
      have := ih k h
      simp only [List.modify_succ_cons, List.countP_cons]; omega

/-- The count after a record is changed, from whether that record counts before and after. -/
theorem count_modRec (v : LaneView) (o : Origin) (k : Nat) (f : Record → Record) (hk : k < v.records.length) :
    (v.modRec k f).count o + (if (v.record k).state ≠ .free ∧ (v.record k).origin = o then 1 else 0)
      = v.count o + (if (f (v.record k)).state ≠ .free ∧ (f (v.record k)).origin = o then 1 else 0) := by
  have hx : v.records[k]? = some (v.record k) := by
    rw [record, List.getD_eq_getElem?_getD, List.getElem?_eq_getElem hk]; rfl
  have := countP_modify (fun r => r.state != .free && r.origin == o) v.records k f _ hx
  simpa [count, modRec] using this

theorem modRec_of_le (v : LaneView) (k : Nat) (f : Record → Record) (hk : v.records.length ≤ k) : v.modRec k f = v := by
  unfold modRec
  rw [List.modify_eq_self hk]

/-- A record that does not count afterwards raises no count. -/
theorem count_modRec_le (v : LaneView) (o : Origin) (k : Nat) (f : Record → Record)
    (h : (f (v.record k)).state = .free ∨ ((v.record k).state ≠ .free ∧ (f (v.record k)).origin = (v.record k).origin)) :
    (v.modRec k f).count o ≤ v.count o := by
  by_cases hk : k < v.records.length
  · have := count_modRec v o k f hk
    have himp : (f (v.record k)).state ≠ .free ∧ (f (v.record k)).origin = o →
        (v.record k).state ≠ .free ∧ (v.record k).origin = o := by
      rintro ⟨h1, h2⟩
      obtain h | ⟨h3, h4⟩ := h
      · exact absurd h h1
      · exact ⟨h3, h4.symm.trans h2⟩
    by_cases hf : (f (v.record k)).state ≠ .free ∧ (f (v.record k)).origin = o
    · rw [if_pos hf, if_pos (himp hf)] at this
      omega
    · rw [if_neg hf] at this
      omega
  · rw [modRec_of_le v k f (by omega)]

/-- A record made in a FREE slot raises the count of its origin by one at most, and no other. -/
theorem count_made {v : LaneView} {st : RecState} {o : Origin} {r : Record} {k : Nat} (hk : v.freeSlot = some k)
    (hr : r.Made st o) :
    (v.modRec k (fun _ => r)).count o ≤ v.count o + 1
      ∧ ∀ o', o' ≠ o → (v.modRec k (fun _ => r)).count o' = v.count o' := by
  obtain ⟨hl, hf⟩ := freeSlot_spec hk
  refine ⟨?_, fun o' ho => ?_⟩
  · have := count_modRec v o k (fun _ => r) hl
    split at this <;> split at this <;> omega
  · have := count_modRec v o' k (fun _ => r) hl
    rw [if_neg (fun x => x.1 hf), if_neg (fun x => ho (x.2.symm.trans hr.origin))] at this
    omega

end LaneView

end Sys2Proof.Machine
end

section
/-! SUPPORT. Every change that the rules allow keeps the laws of the table (R3, R6, R9, R16, R19, R158). -/

namespace Sys2Proof.Machine

namespace LaneView

/-- R3, R8: `AxleLaw` of the table. -/
def AxlesOk (v : LaneView) : Prop := ∀ k, (v.record k).AxlesOk

/-- R19, R9, R16, R158: `LaneLaw` and `JobLaw` of the table, slot by slot. -/
structure Lawful (v : LaneView) : Prop where
  short : v.queue.length ≤ 3
  nodup : v.queue.Nodup
  queue : ∀ k, k ∈ v.queue ↔ (v.record k).state = .inLane
  armed : ∀ k, v.armed = some k → (v.record k).state = .armed
  linked : ∀ k ∈ v.jobs, (v.record k).job = true
  complete : ∀ k, (v.record k).job = true → (v.record k).state = .complete

/-- R6: `ShareLaw` of the table. -/
def Shared (v : LaneView) : Prop := v.count .dynamic ≤ v.dynMax ∧ v.count .booked ≤ 32 - v.dynMax

end LaneView

theorem axleLaw_iff (s : State) : AxleLaw s ↔ s.laneView.AxlesOk :=
  LaneView.forall_record_iff (p := Record.AxlesOk) (v := s.laneView) ⟨by simp [Record.free], by simp [Record.free]⟩

theorem shareLaw_iff (s : State) : ShareLaw s ↔ s.laneView.Shared := Iff.rfl

theorem laneLaw_jobLaw_iff (s : State) : LaneLaw s ∧ JobLaw s ↔ s.laneView.Lawful := by
  have hc := LaneView.forall_record_iff (p := fun r => r.job = true → r.state = .complete) (v := s.laneView)
    (by simp [Record.free])
  have hj : (∀ k ∈ s.laneView.jobs, (s.laneView.record k).job = true)
      ↔ ∀ j ∈ s.cert.queue, (s.record j.slot).job = true := by
    simp only [State.laneView, List.mem_map, forall_exists_index, and_imp, forall_apply_eq_imp_iff₂]; rfl
  constructor
  · rintro ⟨⟨h1, h2, h3, h4⟩, h5, h6⟩
    exact ⟨h1, h2, h3, h4, hj.mpr h5, hc.mp h6⟩
  · rintro ⟨h1, h2, h3, h4, h5, h6⟩
    exact ⟨⟨h1, h2, h3, h4⟩, hj.mp h5, hc.mpr h6⟩

/-! ## Reset (R25) -/

theorem record_reset (k : Nat) : State.reset.laneView.record k = Record.free := by
  change (List.replicate 32 Record.free).getD k Record.free = Record.free
  rw [List.getD_eq_getElem?_getD, List.getElem?_replicate]
  split <;> rfl

theorem Record.axlesOk_free : Record.free.AxlesOk := ⟨by simp [Record.free], by simp [Record.free]⟩

theorem axlesOk_reset : State.reset.laneView.AxlesOk := fun k => by
  rw [record_reset]; exact Record.axlesOk_free

theorem lawful_reset : State.reset.laneView.Lawful := by
  refine ⟨by decide, List.nodup_nil, fun k => ?_, fun k x => (by cases x), fun k x => (by cases x), fun k hk => ?_⟩
  · rw [record_reset]; exact ⟨fun x => (by cases x), fun x => (by cases x)⟩
  · rw [record_reset] at hk; cases hk

theorem shared_reset : State.reset.laneView.Shared := ⟨by decide, by decide⟩

/-! ## Axle lists (R3) -/

theorem Record.Turned.axlesOk {st : RecState} {r r' : Record} (h : r.Turned st r') (hr : r.AxlesOk) : r'.AxlesOk :=
  ⟨h.axles hr, h.expected ▸ hr.2⟩

theorem Record.Made.axlesOk {st : RecState} {o : Origin} {r : Record} (h : r.Made st o) : r.AxlesOk :=
  ⟨by simp [h.axles], h.expected⟩

theorem Record.axlesOk_restarted {r : Record} (t : LaneTime) (h : r.AxlesOk) : (r.restarted t).AxlesOk := by
  unfold Record.restarted
  split
  · exact h
  · split
    · exact h
    · split
      · exact Record.axlesOk_free
      · exact ⟨by simp, h.2⟩

theorem LaneView.AxlesOk.modRec {v : LaneView} (h : v.AxlesOk) (k : Nat) (f : Record → Record)
    (hf : (v.record k).AxlesOk → (f (v.record k)).AxlesOk) : (v.modRec k f).AxlesOk := by
  intro j
  rw [record_modRec]
  split
  · exact hf (h k)
  · exact h j

/-- Records rewritten in their states, slot by slot. -/
theorem record_of_kept {v : LaneView} {l : List Record} (h : List.Forall₂ Record.Kept v.records l) (k : Nat) :
    (v.record k).Kept (LaneView.record { v with records := l } k) := by
  obtain ⟨hl, hk⟩ := List.forall₂_iff_get.mp h
  unfold LaneView.record
  by_cases hc : k < v.records.length
  · simpa [hc, ← hl] using hk k hc (hl ▸ hc)
  · simp only [List.getD_eq_getElem?_getD, List.getElem?_eq_none (Nat.le_of_not_lt hc),
      List.getElem?_eq_none (hl ▸ Nat.le_of_not_lt hc)]
    exact ⟨rfl, rfl, rfl, rfl, fun h => h.1⟩

/-- R26: the table as RESTART leaves it. -/
def LaneView.restarted (v : LaneView) (t : LaneTime) : LaneView :=
  { v with records := v.records.map (fun r => r.restarted t), queue := [], armed := none }

theorem record_restarted (v : LaneView) (t : LaneTime) (k : Nat) :
    (v.restarted t).record k = (v.record k).restarted t := by
  unfold LaneView.record LaneView.restarted
  simp only [List.getD_eq_getElem?_getD, List.getElem?_map]
  cases v.records[k]? <;> rfl

/-- R3: every allowed change keeps the axle lists within 12. -/
theorem TableMove.keeps_axles (v w : LaneView) (h : TableMove v w) (hv : v.AxlesOk) : w.AxlesOk := by
  cases h with
  | edit l hl => exact fun k => (record_of_kept hl k).axlesOk (hv k)
  | enter k f _ _ hf => exact hv.modRec k f hf.axlesOk
  | learn k r _ _ _ _ hr => exact hv.modRec k _ (fun _ => hr.axlesOk)
  | evict e k r _ _ _ _ hr =>
    exact (hv.modRec e _ (fun _ => Record.axlesOk_free)).modRec k _ (fun _ => hr.axlesOk)
  | complete h rest f _ hf => exact hv.modRec h f hf.axlesOk
  | remove k _ _ => exact hv.modRec k _ (fun _ => Record.axlesOk_free)
  | book k r _ _ hr => exact hv.modRec k _ (fun _ => hr.axlesOk)
  | disarm k f _ hf => exact hv.modRec k f hf.axlesOk
  | arm k f _ _ hf => exact hv.modRec k f hf.axlesOk
  | jobAdded k _ => exact hv.modRec k _ id
  | jobEnded k f hf => exact hv.modRec k f (hf _).axlesOk
  | rebook k f _ _ hf => exact hv.modRec k f hf.axlesOk
  | restart t =>
    intro k
    change ((v.restarted t).record k).AxlesOk
    rw [record_restarted]
    exact Record.axlesOk_restarted t (hv k)
  | dynMax n _ _ => exact hv
  | reset => exact axlesOk_reset

/-! ## The lane and the jobs (R9, R16, R19, R158) -/

namespace LaneView.Lawful

variable {v : LaneView} {k : Nat}

/-- A record that is COMPLETE, ARMED, BOOKED or FREE is not in the lane queue. -/
theorem not_mem (h : v.Lawful) (hs : (v.record k).state ≠ .inLane) : k ∉ v.queue := fun hk => hs ((h.queue k).mp hk)

theorem no_job (h : v.Lawful) (hs : (v.record k).state ≠ .complete) : (v.record k).job = false := by
  by_contra hj
  exact hs (h.complete k (by simpa using hj))

theorem no_slot (h : v.Lawful) (hj : (v.record k).job = false) : k ∉ v.jobs := fun hk => by
  rw [h.linked k hk] at hj; cases hj

/-- Another record than the armed one. -/
theorem not_armed (h : v.Lawful) (hs : (v.record k).state ≠ .armed) : v.armed ≠ some k := fun ha => hs (h.armed k ha)

end LaneView.Lawful

/-- A record changed, with the queue, the armed reference and the jobs as given: what is left to say is said of that
slot. -/
theorem LaneView.Lawful.change {v : LaneView} (h : v.Lawful) {k : Nat} {f : Record → Record} {q : List Nat}
    {a : Option Nat} {js : List Nat} (hk : k < v.records.length) (short : q.length ≤ 3) (nodup : q.Nodup)
    (queue : ∀ j, j ≠ k → (j ∈ q ↔ j ∈ v.queue)) (armed : ∀ j, j ≠ k → a = some j → v.armed = some j)
    (linked : ∀ j, j ≠ k → j ∈ js → j ∈ v.jobs) (queueK : k ∈ q ↔ (f (v.record k)).state = .inLane)
    (armedK : a = some k → (f (v.record k)).state = .armed) (linkedK : k ∈ js → (f (v.record k)).job = true)
    (completeK : (f (v.record k)).job = true → (f (v.record k)).state = .complete) :
    LaneView.Lawful { v.modRec k f with queue := q, armed := a, jobs := js } := by
  have same : LaneView.record { v.modRec k f with queue := q, armed := a, jobs := js } k = f (v.record k) :=
    record_modRec_same f hk
  have other : ∀ j, j ≠ k → LaneView.record { v.modRec k f with queue := q, armed := a, jobs := js } j = v.record j :=
    fun j hj => record_modRec_ne f hj
  refine ⟨short, nodup, fun j => ?_, fun j hj => ?_, fun j hj => ?_, fun j hj => ?_⟩ <;>
    by_cases e : j = k
  · subst e; rw [same]; exact queueK
  · rw [other j e, ← h.queue j]; exact queue j e
  · subst e; rw [same]; exact armedK hj
  · rw [other j e]; exact h.armed j (armed j e hj)
  · subst e; rw [same]; exact linkedK hj
  · rw [other j e]; exact h.linked j (linked j e hj)
  · subst e; rw [same] at hj ⊢; exact completeK hj
  · rw [other j e] at hj ⊢; exact h.complete j hj

/-- R16: a record outside the lane that no job is for is removed. -/
theorem LaneView.Lawful.remove {v : LaneView} (h : v.Lawful) (k : Nat) (hs : (v.record k).state ≠ .inLane)
    (hj : (v.record k).job = false ∨ k ∉ v.jobs) :
    LaneView.Lawful { v.modRec k (fun _ => Record.free) with armed := if v.armed == some k then none else v.armed } := by
  have hn : k ∉ v.jobs := hj.elim h.no_slot id
  by_cases hk : k < v.records.length
  · refine h.change (q := v.queue) (js := v.jobs) hk h.short h.nodup (fun _ _ => Iff.rfl) (fun j hj ha => ?_)
      (fun _ _ => id) ?_ (fun ha => ?_) (fun hm => absurd hm hn) (fun hf => by cases hf)
    · split at ha
      · cases ha
      · exact ha
    · exact ⟨fun hm => absurd hm (h.not_mem hs), fun hf => by cases hf⟩
    · split at ha
      · cases ha
      · next hne => exact absurd (by simpa using ha) (by simpa using hne)
  · rw [modRec_of_le v k _ (by omega)]
    have : v.armed ≠ some k := h.not_armed (by rw [record_of_le (by omega)]; decide)
    rw [if_neg (by simpa using this)]
    exact h

/-- R14: a record made in a FREE slot enters the lane. -/
theorem LaneView.Lawful.learn {v : LaneView} (h : v.Lawful) {k : Nat} {r : Record} (hq : v.queue.length < 3)
    (hk : v.freeSlot = some k) (hr : r.Made .inLane .dynamic) :
    LaneView.Lawful { v.modRec k (fun _ => r) with queue := v.queue ++ [k] } := by
  obtain ⟨hl, hf⟩ := freeSlot_spec hk
  have hs : ∀ st, st ≠ RecState.free → (v.record k).state ≠ st := fun st hst => by rw [hf]; exact hst.symm
  refine h.change (a := v.armed) (js := v.jobs) hl (by simpa using hq) ?_ (fun j hj => by simp [hj]) (fun _ _ => id)
    (fun _ _ => id) ?_ ?_ ?_ ?_
  · exact h.nodup.append (List.nodup_singleton k) (List.disjoint_singleton.mpr (h.not_mem (hs _ (by decide))))
  · simp [hr.state]
  · exact fun ha => absurd ha (h.not_armed (hs _ (by decide)))
  · exact fun hm => absurd hm (h.no_slot (h.no_job (hs _ (by decide))))
  · simp [hr.job]

/-- R16, R19, R9, R158: every allowed change keeps the lane queue and the jobs lawful. -/
theorem TableMove.keeps_lawful (v w : LaneView) (h : TableMove v w) (hv : v.Lawful) : w.Lawful := by
  cases h with
  | edit l hl =>
    have hr := record_of_kept hl
    exact ⟨hv.short, hv.nodup, fun k => by rw [(hr k).state]; exact hv.queue k,
      fun k hk => by rw [(hr k).state]; exact hv.armed k hk, fun k hk => by rw [(hr k).job]; exact hv.linked k hk,
      fun k hk => by rw [(hr k).state]; rw [(hr k).job] at hk; exact hv.complete k hk⟩
  | enter k f hq ha hf =>
    have hs := hv.armed k ha
    have hj := hv.no_job (k := k) (by rw [hs]; decide)
    have hn := hv.not_mem (k := k) (by rw [hs]; decide)
    refine hv.change (js := v.jobs) (LaneView.lt_of_state (by rw [hs]; decide)) (by simpa using hq) ?_
      (fun j hj => by simp [hj]) (fun _ _ x => by cases x) (fun _ _ => id) (by simp [hf.state]) (fun x => by cases x)
      (fun hm => absurd hm (hv.no_slot hj)) (by simp [hf.job, hj])
    exact hv.nodup.append (List.nodup_singleton k) (List.disjoint_singleton.mpr hn)
  | learn k r hq _ hk _ hr => exact hv.learn hq hk hr
  | evict e k r hq ha he hk hr =>
    have hst : (v.record e).state = .complete ∧ (v.record e).job = false := by
      simp only [Record.evictable, Bool.and_eq_true, beq_iff_eq, Bool.not_eq_true'] at he
      exact ⟨he.1.2, he.2⟩
    have hrem := hv.remove e (by rw [hst.1]; decide) (.inl hst.2)
    have hn : (if v.armed == some e then none else v.armed) = v.armed := by simp [ha]
    rw [hn] at hrem
    exact hrem.learn hq hk hr
  | complete k rest f hq hf =>
    have hs : (v.record k).state = .inLane := (hv.queue k).mp (by rw [hq]; exact List.mem_cons_self)
    have hnd := hv.nodup
    have hsh := hv.short
    rw [hq] at hnd hsh
    obtain ⟨hnot, hnd⟩ := List.nodup_cons.mp hnd
    have hj := hv.no_job (k := k) (by rw [hs]; decide)
    refine hv.change (a := v.armed) (js := v.jobs) (LaneView.lt_of_state (by rw [hs]; decide))
      (by simp only [List.length_cons] at hsh; omega) hnd (fun j hj => by simp [hq, hj]) (fun _ _ => id) (fun _ _ => id)
      ?_ (fun ha => ?_) (fun hm => absurd hm (hv.no_slot hj)) (fun _ => hf.state)
    · simp [hnot, hf.state]
    · exact absurd ha (hv.not_armed (by rw [hs]; decide))
  | remove k hs hj => exact hv.remove k hs hj
  | book k r hk _ hr =>
    obtain ⟨hl, hf⟩ := LaneView.freeSlot_spec hk
    have hs : ∀ st, st ≠ RecState.free → (v.record k).state ≠ st := fun st hst => by rw [hf]; exact hst.symm
    refine hv.change (q := v.queue) (a := v.armed) (js := v.jobs) hl hv.short hv.nodup (fun _ _ => Iff.rfl)
      (fun _ _ => id) (fun _ _ => id) ?_ ?_ ?_ (by simp [hr.job])
    · simp [hr.state, hv.not_mem (hs _ (by decide))]
    · exact fun ha => absurd ha (hv.not_armed (hs _ (by decide)))
    · exact fun hm => absurd hm (hv.no_slot (hv.no_job (hs _ (by decide))))
  | disarm k f ha hf =>
    have hs := hv.armed k ha
    have hj := hv.no_job (k := k) (by rw [hs]; decide)
    exact hv.change (q := v.queue) (js := v.jobs) (LaneView.lt_of_state (by rw [hs]; decide)) hv.short hv.nodup
      (fun _ _ => Iff.rfl) (fun _ _ x => by cases x) (fun _ _ => id)
      (by simp [hf.state, hv.not_mem (k := k) (by rw [hs]; decide)]) (fun x => by cases x)
      (fun hm => absurd hm (hv.no_slot hj)) (by simp [hf.job, hj])
  | arm k f ha hs hf =>
    have hs' : ∀ st, st ≠ RecState.booked → st ≠ RecState.armed → (v.record k).state ≠ st := by
      rintro st h1 h2 rfl; exact hs.elim h1 h2
    have hj := hv.no_job (hs' .complete (by decide) (by decide))
    exact hv.change (q := v.queue) (js := v.jobs) (LaneView.lt_of_state (hs' .free (by decide) (by decide))) hv.short
      hv.nodup (fun _ _ => Iff.rfl) (fun j hj x => absurd (by simpa using x.symm) hj) (fun _ _ => id)
      (by simp [hf.state, hv.not_mem (hs' .inLane (by decide) (by decide))]) (fun _ => hf.state)
      (fun hm => absurd hm (hv.no_slot hj)) (by simp [hf.job, hj])
  | jobAdded k hs =>
    exact hv.change (q := v.queue) (a := v.armed) (LaneView.lt_of_state (by rw [hs]; decide)) hv.short hv.nodup
      (fun _ _ => Iff.rfl) (fun _ _ => id) (fun j hj hm => by simpa [hj] using hm) (hv.queue k) (hv.armed k)
      (fun _ => rfl) (fun _ => hs)
  | jobEnded k f hf =>
    by_cases hk : k < v.records.length
    · exact hv.change (q := v.queue) (a := v.armed) hk hv.short hv.nodup
        (fun _ _ => Iff.rfl) (fun _ _ => id) (fun j hj hm => (List.mem_filter.mp hm).1)
        (by rw [(hf _).state]; exact hv.queue k) (by rw [(hf _).state]; exact hv.armed k)
        (fun hm => by simp at hm) (fun hj => by rw [(hf _).job] at hj; cases hj)
    · rw [LaneView.modRec_of_le v k f (by omega)]
      exact ⟨hv.short, hv.nodup, hv.queue, hv.armed, fun j hm => hv.linked j (List.mem_filter.mp hm).1, hv.complete⟩
  | rebook k f hs hj hf =>
    exact hv.change (q := v.queue) (a := v.armed) (js := v.jobs) (LaneView.lt_of_state (by rw [hs]; decide)) hv.short
      hv.nodup (fun _ _ => Iff.rfl) (fun _ _ => id) (fun _ _ => id)
      (by simp [hf.state, hv.not_mem (k := k) (by rw [hs]; decide)])
      (fun ha => absurd ha (hv.not_armed (by rw [hs]; decide))) (fun hm => absurd hm (hv.no_slot hj))
      (by simp [hf.job, hj])
  | restart t =>
    change (v.restarted t).Lawful
    have hr := record_restarted v t
    have hcase : ∀ k, ((v.record k).job = true ∧ (v.record k).restarted t = v.record k)
        ∨ ((v.record k).job = false ∧ ((v.record k).restarted t).job = false
            ∧ ((v.record k).restarted t).state ≠ .inLane) := by
      intro k
      cases hj : (v.record k).job with
      | true => exact .inl ⟨rfl, by simp [Record.restarted, hj]⟩
      | false =>
        refine .inr ⟨rfl, ?_⟩
        unfold Record.restarted
        split
        · next hf => exact ⟨hj, by rw [eq_of_beq hf]; decide⟩
        · rw [if_neg (by simp [hj])]
          split
          · exact ⟨rfl, by decide⟩
          · exact ⟨hj, RecState.noConfusion⟩
    refine ⟨Nat.zero_le 3, List.nodup_nil, fun k => ⟨fun x => (by cases x), fun x => ?_⟩, fun k x => (by cases x),
      fun k hk => ?_, fun k hk => ?_⟩ <;> rw [hr k] at *
    · rcases hcase k with ⟨hj, e⟩ | ⟨-, -, hs⟩
      · rw [e, hv.complete k hj] at x; cases x
      · exact absurd x hs
    · rcases hcase k with ⟨hj, e⟩ | ⟨hj, -⟩
      · rw [e]; exact hj
      · rw [hv.linked k hk] at hj; cases hj
    · rcases hcase k with ⟨hj, e⟩ | ⟨-, hj, -⟩
      · rw [e]; exact hv.complete k hj
      · rw [hj] at hk; cases hk
  | dynMax n _ _ => exact ⟨hv.short, hv.nodup, hv.queue, hv.armed, hv.linked, hv.complete⟩
  | reset => exact lawful_reset

/-! ## The shares (R6) -/

namespace LaneView

theorem Shared.of_le {v w : LaneView} (h : v.Shared) (hd : w.dynMax = v.dynMax) (hc : ∀ o, w.count o ≤ v.count o) :
    w.Shared := ⟨(hc .dynamic).trans (hd ▸ h.1), (hc .booked).trans (hd ▸ h.2)⟩

/-- A record in use turned keeps both counts. -/
theorem Shared.turned {v : LaneView} (h : v.Shared) {k : Nat} {f : Record → Record} {st : RecState}
    (hs : (v.record k).state ≠ .free) (hf : (v.record k).Turned st (f (v.record k))) : (v.modRec k f).Shared :=
  h.of_le rfl fun o => count_modRec_le v o k f (.inr ⟨hs, hf.origin⟩)

theorem count_kept {v : LaneView} {l : List Record} (h : List.Forall₂ Record.Kept v.records l) (o : Origin) :
    LaneView.count o { v with records := l } = v.count o := by
  unfold count
  generalize v.records = r at h
  dsimp only
  induction h with
  | nil => rfl
  | cons hab _ ih => simp only [List.countP_cons, ih, hab.state, hab.origin]

theorem count_restarted (v : LaneView) (t : LaneTime) (o : Origin) :
    (v.restarted t).count o ≤ v.count o := by
  unfold count restarted
  dsimp only
  rw [List.countP_map]
  refine List.countP_mono_left fun r _ hr => ?_
  simp only [Function.comp, Record.restarted] at hr
  split at hr
  · exact hr
  · next hs =>
    split at hr
    · exact hr
    · split at hr
      · cases hr
      · simp only [Bool.and_eq_true] at hr ⊢
        exact ⟨by simpa using hs, hr.2⟩

/-- R13: after an eviction the dynamic count is one less. -/
theorem count_evicted {v : LaneView} {e : Nat} (he : (v.record e).evictable = true) :
    (v.modRec e (fun _ => Record.free)).count .dynamic + 1 = v.count .dynamic
      ∧ (v.modRec e (fun _ => Record.free)).count .booked = v.count .booked := by
  simp only [Record.evictable, Bool.and_eq_true, beq_iff_eq] at he
  have hs : (v.record e).state ≠ .free := by rw [he.1.2]; decide
  have hd := count_modRec v .dynamic e (fun _ => Record.free) (lt_of_state hs)
  have hb := count_modRec v .booked e (fun _ => Record.free) (lt_of_state hs)
  rw [if_pos ⟨hs, he.1.1⟩, if_neg (fun x => x.1 rfl)] at hd
  rw [if_neg (fun x => by rw [he.1.1] at x; cases x.2), if_neg (fun x => x.1 rfl)] at hb
  exact ⟨by omega, by omega⟩

end LaneView

/-- R6: every allowed change of a lawful table keeps the two shares. -/
theorem TableMove.keeps_shared (v w : LaneView) (h : TableMove v w) (hl : v.Lawful) (hv : v.Shared) : w.Shared := by
  cases h with
  | edit l hk => exact hv.of_le rfl fun o => (LaneView.count_kept hk o).le
  | enter k f _ ha hf => exact hv.turned (by rw [hl.armed k ha]; decide) hf
  | learn k r _ _ hk hd hr =>
    obtain ⟨h1, h2⟩ := LaneView.count_made hk hr
    exact ⟨h1.trans hd, (h2 .booked (by decide)).le.trans hv.2⟩
  | evict e k r _ _ he hk hr =>
    obtain ⟨h1, h2⟩ := LaneView.count_made hk hr
    obtain ⟨h3, h4⟩ := LaneView.count_evicted he
    exact ⟨h1.trans (by rw [h3]; exact hv.1), (h2 .booked (by decide)).le.trans (h4.le.trans hv.2)⟩
  | complete k rest f hq hf =>
    exact hv.turned (by rw [(hl.queue k).mp (by rw [hq]; exact List.mem_cons_self)]; decide) hf
  | remove k _ _ => exact hv.of_le rfl fun o => LaneView.count_modRec_le v o k _ (.inl rfl)
  | book k r hk hb hr =>
    obtain ⟨h1, h2⟩ := LaneView.count_made hk hr
    exact ⟨(h2 .dynamic (by decide)).le.trans hv.1, h1.trans hb⟩
  | disarm k f ha hf => exact hv.turned (by rw [hl.armed k ha]; decide) hf
  | arm k f _ hs hf => exact hv.turned (by rcases hs with h | h <;> rw [h] <;> decide) hf
  | jobAdded k hs =>
    exact hv.of_le rfl fun o => LaneView.count_modRec_le v o k _ (.inr ⟨by rw [hs]; decide, rfl⟩)
  | jobEnded k f hf =>
    refine hv.of_le rfl fun o => LaneView.count_modRec_le v o k f ?_
    by_cases hs : (v.record k).state = .free
    · exact .inl ((hf _).state.trans hs)
    · exact .inr ⟨hs, (hf _).origin⟩
  | rebook k f hs _ hf => exact hv.turned (by rw [hs]; decide) hf
  | restart t => exact hv.of_le rfl (LaneView.count_restarted v t)
  | dynMax n h1 h2 => exact ⟨h1, h2⟩
  | reset => exact shared_reset

/-- R3: a run of allowed changes keeps `AxleLaw`. -/
theorem Moves.axleLaw {s t : State} (h : Moves s t) (hs : AxleLaw s) : AxleLaw t :=
  (axleLaw_iff t).mpr (h.keeps TableMove.keeps_axles ((axleLaw_iff s).mp hs))

/-- R16, R19, R158: a run of allowed changes keeps `LaneLaw` and `JobLaw`. -/
theorem Moves.laneLaw_jobLaw {s t : State} (h : Moves s t) (hs : LaneLaw s ∧ JobLaw s) : LaneLaw t ∧ JobLaw t :=
  (laneLaw_jobLaw_iff t).mpr (h.keeps TableMove.keeps_lawful ((laneLaw_jobLaw_iff s).mp hs))

/-- R6: a run of allowed changes of a lawful table keeps `ShareLaw`. -/
theorem Moves.shareLaw {s t : State} (h : Moves s t) (hl : LaneLaw s ∧ JobLaw s) (hs : ShareLaw s) : ShareLaw t :=
  (h.keeps (P := fun v => v.Lawful ∧ v.Shared)
    (fun v w hm hp => ⟨hm.keeps_lawful v w hp.1, hm.keeps_shared v w hp.1 hp.2⟩)
    ⟨(laneLaw_jobLaw_iff s).mp hl, hs⟩).2

end Sys2Proof.Machine
end

section
/-! SUPPORT. The operations that leave the Vehicle Table and the Certificate Unit as they are, in the order of the
machine's files. -/

namespace Sys2Proof.Machine

theorem table_of_eq {s t u : State} (h : t = u) (hv : u.vt = s.vt) (hc : u.cert = s.cert) :
    t.vt = s.vt ∧ t.cert = s.cert := by rw [h]; exact ⟨hv, hc⟩

/-! ## Notices, work owed, outputs -/

@[simp] theorem sendNotice_table (n : Notice) (s : State) :
    (sendNotice n s).vt = s.vt ∧ (sendNotice n s).cert = s.cert := ⟨rfl, rfl⟩

@[simp] theorem postReply_table (k t : Nat) (st : Status) (b : ReplyBody) (s : State) :
    (postReply k t st b s).vt = s.vt ∧ (postReply k t st b s).cert = s.cert := ⟨rfl, rfl⟩

@[simp] theorem hand_table (i : GuideItem) (s : State) : (hand i s).vt = s.vt ∧ (hand i s).cert = s.cert := ⟨rfl, rfl⟩

@[simp] theorem raiseEvent_table (e : GEvent) (s : State) :
    (raiseEvent e s).vt = s.vt ∧ (raiseEvent e s).cert = s.cert := ⟨rfl, rfl⟩

@[simp] theorem noteHead_table (s : State) : (noteHead s).vt = s.vt ∧ (noteHead s).cert = s.cert := ⟨rfl, rfl⟩
@[simp] theorem noteRetry_table (s : State) : (noteRetry s).vt = s.vt ∧ (noteRetry s).cert = s.cert := ⟨rfl, rfl⟩
@[simp] theorem noteRematch_table (s : State) : (noteRematch s).vt = s.vt ∧ (noteRematch s).cert = s.cert := ⟨rfl, rfl⟩

@[simp] theorem setRun_table (on : Bool) (s : State) : (setRun on s).vt = s.vt ∧ (setRun on s).cert = s.cert := ⟨rfl, rfl⟩

@[simp] theorem handVehicle_table (st : Station) (v : Option Nat) (s : State) :
    (handVehicle st v s).vt = s.vt ∧ (handVehicle st v s).cert = s.cert := ⟨rfl, rfl⟩

/-! ## Traces -/

@[simp] theorem openTrace_table (k : TraceKind) (n : Nat) (a : Option Nat) (s : State) :
    (openTrace k n a s).2.vt = s.vt ∧ (openTrace k n a s).2.cert = s.cert := by
  unfold openTrace; split <;> exact ⟨rfl, rfl⟩

@[simp] theorem appendSample_table (tr : Option Nat) (x : TraceSample) (t : LaneTime) (s : State) :
    (appendSample tr x t s).vt = s.vt ∧ (appendSample tr x t s).cert = s.cert := by
  unfold appendSample; split <;> exact ⟨rfl, rfl⟩

@[simp] theorem addPedalGap_table (tr : Option Nat) (n : Nat) (s : State) :
    (addPedalGap tr n s).vt = s.vt ∧ (addPedalGap tr n s).cert = s.cert := by
  unfold addPedalGap; split <;> exact ⟨rfl, rfl⟩

@[simp] theorem addExcess_table (tr : Option Nat) (s : State) :
    (addExcess tr s).vt = s.vt ∧ (addExcess tr s).cert = s.cert := by
  unfold addExcess; split <;> exact ⟨rfl, rfl⟩

@[simp] theorem closeTrace_table (id : Nat) (a : Bool) (s : State) :
    (closeTrace id a s).2.vt = s.vt ∧ (closeTrace id a s).2.cert = s.cert :=
  table_of_eq (closeTrace_eq id a s) rfl rfl

@[simp] theorem abortTrace_table (tr : Option Nat) (s : State) :
    (abortTrace tr s).vt = s.vt ∧ (abortTrace tr s).cert = s.cert :=
  table_of_eq (abortTrace_eq tr s) rfl rfl

@[simp] theorem clearPrintHolds_table (p : Descriptor → Bool) (s : State) :
    (clearPrintHolds p s).vt = s.vt ∧ (clearPrintHolds p s).cert = s.cert := ⟨rfl, rfl⟩

@[simp] theorem clearSlotHolds_table (k : Nat) (s : State) :
    (clearSlotHolds k s).vt = s.vt ∧ (clearSlotHolds k s).cert = s.cert := ⟨rfl, rfl⟩

/-! ## The entry station -/

@[simp] theorem onPlate_table (f : PlateTracker → PlateTracker) (s : State) :
    (onPlate f s).vt = s.vt ∧ (onPlate f s).cert = s.cert := ⟨rfl, rfl⟩

@[simp] theorem onScale_table (f : ScaleTracker → ScaleTracker) (s : State) :
    (onScale f s).vt = s.vt ∧ (onScale f s).cert = s.cert := ⟨rfl, rfl⟩

@[simp] theorem noticeEntry_table (c : Option BlockCause) (s : State) :
    (noticeEntry c s).vt = s.vt ∧ (noticeEntry c s).cert = s.cert := ⟨rfl, rfl⟩

@[simp] theorem noticeDeparture_table (n : EntryName) (s : State) :
    (noticeDeparture n s).vt = s.vt ∧ (noticeDeparture n s).cert = s.cert := by
  unfold noticeDeparture; split <;> exact ⟨rfl, rfl⟩

@[simp] theorem checkFinishing_table (s : State) :
    (checkFinishing s).vt = s.vt ∧ (checkFinishing s).cert = s.cert := by
  unfold checkFinishing; split <;> exact ⟨rfl, rfl⟩

@[simp] theorem cancelQuiet_table (s : State) : (cancelQuiet s).vt = s.vt ∧ (cancelQuiet s).cert = s.cert := ⟨rfl, rfl⟩

@[simp] theorem startTrackers_table (s : State) :
    (startTrackers s).vt = s.vt ∧ (startTrackers s).cert = s.cert := ⟨rfl, rfl⟩

@[simp] theorem bindStation_table (k : Nat) (s : State) :
    (bindStation k s).vt = s.vt ∧ (bindStation k s).cert = s.cert := by simp [bindStation]

@[simp] theorem noticeMeasured_table (k n : Nat) (s : State) :
    (noticeMeasured k n s).vt = s.vt ∧ (noticeMeasured k n s).cert = s.cert := by
  unfold noticeMeasured; dsimp only; split <;> exact ⟨rfl, rfl⟩

@[simp] theorem barrierInactive_table (s : State) :
    (barrierInactive s).vt = s.vt ∧ (barrierInactive s).cert = s.cert := by
  unfold barrierInactive; split <;> [skip; split] <;> simp

@[simp] theorem plateActive_table (s : State) : (plateActive s).vt = s.vt ∧ (plateActive s).cert = s.cert := by
  unfold plateActive
  split
  · dsimp only; split <;> simp
  · exact ⟨rfl, rfl⟩

@[simp] theorem plateInactive_table (s : State) : (plateInactive s).vt = s.vt ∧ (plateInactive s).cert = s.cert := by
  unfold plateInactive; split <;> simp

@[simp] theorem comeOnScale_table (x : EntrySample) (s : State) :
    (comeOnScale x s).vt = s.vt ∧ (comeOnScale x s).cert = s.cert := by
  unfold comeOnScale; dsimp only; split <;> simp

@[simp] theorem liveEntry_table (x : EntrySample) (s : State) :
    (liveEntry x s).vt = s.vt ∧ (liveEntry x s).cert = s.cert := by
  unfold liveEntry; split <;> [skip; split] <;> exact ⟨rfl, rfl⟩

@[simp] theorem recordEntrySample_table (x : EntrySample) (s : State) :
    (recordEntrySample x s).vt = s.vt ∧ (recordEntrySample x s).cert = s.cert := by
  unfold recordEntrySample; split <;> simp

@[simp] theorem closeEntryTrace_table (s : State) :
    (closeEntryTrace s).vt = s.vt ∧ (closeEntryTrace s).cert = s.cert := by
  unfold closeEntryTrace; split <;> simp

@[simp] theorem restartEntry_table (s : State) : (restartEntry s).vt = s.vt ∧ (restartEntry s).cert = s.cert := by
  simp [restartEntry]

/-! ## The brake station -/

@[simp] theorem noticeBrake_table (s : State) : (noticeBrake s).vt = s.vt ∧ (noticeBrake s).cert = s.cert := ⟨rfl, rfl⟩

@[simp] theorem noticeFault_table (c : BrakeCause) (b : Bool) (s : State) :
    (noticeFault c b s).vt = s.vt ∧ (noticeFault c b s).cert = s.cert := ⟨rfl, rfl⟩

@[simp] theorem noticeTested_table (r : Option AbortReason) (x : Option AxleResult) (s : State) :
    (noticeTested r x s).vt = s.vt ∧ (noticeTested r x s).cert = s.cert := by
  unfold noticeTested; split <;> exact ⟨rfl, rfl⟩

@[simp] theorem enterState_table (st : BrakeState) (s : State) :
    (enterState st s).vt = s.vt ∧ (enterState st s).cert = s.cert := by
  unfold enterState; dsimp only; split <;> exact ⟨rfl, rfl⟩

@[simp] theorem setVehicle_table (v : Option Nat) (s : State) :
    (setVehicle v s).vt = s.vt ∧ (setVehicle v s).cert = s.cert := by
  unfold setVehicle; split <;> exact ⟨rfl, rfl⟩

@[simp] theorem reportFree_table (s : State) : (reportFree s).vt = s.vt ∧ (reportFree s).cert = s.cert := ⟨rfl, rfl⟩

@[simp] theorem enterIdle_table (s : State) : (enterIdle s).vt = s.vt ∧ (enterIdle s).cert = s.cert := by
  simp [enterIdle]

@[simp] theorem enterWaitWheels_table (s : State) :
    (enterWaitWheels s).vt = s.vt ∧ (enterWaitWheels s).cert = s.cert := by
  unfold enterWaitWheels; dsimp only; split <;> simp

@[simp] theorem takeHead_table (s : State) : (takeHead s).vt = s.vt ∧ (takeHead s).cert = s.cert := by
  unfold takeHead; split <;> simp

@[simp] theorem enterWaitClear_table (s : State) :
    (enterWaitClear s).vt = s.vt ∧ (enterWaitClear s).cert = s.cert := by simp [enterWaitClear]

@[simp] theorem dropAxle_table (s : State) : (dropAxle s).vt = s.vt ∧ (dropAxle s).cert = s.cert := ⟨rfl, rfl⟩

@[simp] theorem headChanged_table (s : State) : (headChanged s).vt = s.vt ∧ (headChanged s).cert = s.cert := by
  unfold headChanged
  split
  · split <;> simp
  · dsimp only; split <;> simp
  · dsimp only; split <;> simp
  all_goals simp

@[simp] theorem enterSpinUp_table (s : State) : (enterSpinUp s).vt = s.vt ∧ (enterSpinUp s).cert = s.cert := by
  unfold enterSpinUp; dsimp only; split <;> simp

@[simp] theorem zeroingSample_table (d : Delivery) (s : State) :
    (zeroingSample d s).vt = s.vt ∧ (zeroingSample d s).cert = s.cert := by
  unfold zeroingSample; dsimp only; split <;> simp

@[simp] theorem enterDrag_table (s : State) : (enterDrag s).vt = s.vt ∧ (enterDrag s).cert = s.cert := by
  simp [enterDrag]

@[simp] theorem spinUpSample_table (x : BrakeSample) (s : State) :
    (spinUpSample x s).vt = s.vt ∧ (spinUpSample x s).cert = s.cert := by
  unfold spinUpSample
  dsimp only
  split <;> split <;> simp

@[simp] theorem enterBraking_table (s : State) : (enterBraking s).vt = s.vt ∧ (enterBraking s).cert = s.cert := by
  simp [enterBraking]

@[simp] theorem dragSample_table (x : BrakeSample) (s : State) :
    (dragSample x s).vt = s.vt ∧ (dragSample x s).cert = s.cert := by
  unfold dragSample; dsimp only; split <;> simp

@[simp] theorem endBraking_table (c : EndCause) (e : Option GEvent) (s : State) :
    (endBraking c e s).vt = s.vt ∧ (endBraking c e s).cert = s.cert := by
  unfold endBraking; split <;> simp

@[simp] theorem brakingSample_table (x : BrakeSample) (s : State) :
    (brakingSample x s).vt = s.vt ∧ (brakingSample x s).cert = s.cert := by
  unfold brakingSample; dsimp only; split <;> [skip; split] <;> simp

@[simp] theorem closePhaseTrace_table (s : State) :
    (closePhaseTrace s).vt = s.vt ∧ (closePhaseTrace s).cert = s.cert := by
  unfold closePhaseTrace; split <;> simp

@[simp] theorem raiseVehicleDone_table (v : Nat) (b s : State) :
    (raiseVehicleDone v b s).vt = s.vt ∧ (raiseVehicleDone v b s).cert = s.cert := by
  unfold raiseVehicleDone; split <;> simp

@[simp] theorem liveBrake_table (x : BrakeSample) (s : State) :
    (liveBrake x s).vt = s.vt ∧ (liveBrake x s).cert = s.cert := by
  unfold liveBrake; dsimp only; split <;> [skip; split] <;> exact ⟨rfl, rfl⟩

@[simp] theorem recordBrakeSample_table (x : BrakeSample) (s : State) :
    (recordBrakeSample x s).vt = s.vt ∧ (recordBrakeSample x s).cert = s.cert := by
  unfold recordBrakeSample; split <;> simp

@[simp] theorem brakingExpired_table (s : State) :
    (brakingExpired s).vt = s.vt ∧ (brakingExpired s).cert = s.cert := by
  unfold brakingExpired; split <;> simp

@[simp] theorem clearExpired_table (s : State) : (clearExpired s).vt = s.vt ∧ (clearExpired s).cert = s.cert := by
  unfold clearExpired; split <;> simp

@[simp] theorem wheelCame_table (w : Side) (t : LaneTime) (s : State) :
    (wheelCame w t s).vt = s.vt ∧ (wheelCame w t s).cert = s.cert := by
  unfold wheelCame
  split
  · split <;> exact ⟨rfl, rfl⟩
  all_goals exact ⟨rfl, rfl⟩

@[simp] theorem driveCame_table (s : State) : (driveCame s).vt = s.vt ∧ (driveCame s).cert = s.cert := by
  unfold driveCame; split <;> simp

@[simp] theorem endAxle_table (s : State) : (endAxle s).vt = s.vt ∧ (endAxle s).cert = s.cert := by
  unfold endAxle; split <;> simp

@[simp] theorem restartBrake_table (s : State) : (restartBrake s).vt = s.vt ∧ (restartBrake s).cert = s.cert := by
  simp [restartBrake]

/-! ## The calibration store -/

@[simp] theorem noticeStoreFault_table (r : StoreRecord) (c : StoreCause) (s : State) :
    (noticeStoreFault r c s).vt = s.vt ∧ (noticeStoreFault r c s).cert = s.cert := ⟨rfl, rfl⟩

@[simp] theorem endAutoload_table (l : List Nat) (s : State) :
    (endAutoload l s).vt = s.vt ∧ (endAutoload l s).cert = s.cert := by
  have hf : ∀ (bs : List (StoreRecord × StoreCause)) (u : State),
      (bs.foldl (fun s r => noticeStoreFault r.1 r.2 s) u).vt = u.vt
        ∧ (bs.foldl (fun s r => noticeStoreFault r.1 r.2 s) u).cert = u.cert := by
    intro bs
    induction bs with
    | nil => exact fun u => ⟨rfl, rfl⟩
    | cons b bs ih => exact fun u => ih _
  unfold endAutoload
  split
  · exact ⟨rfl, rfl⟩
  · split
    · exact ⟨rfl, rfl⟩
    · exact hf _ _

/-- R182: the end of a write changes neither. -/
theorem endWrite_table {o : WriteOutcome} {s u : State} {e : WriteEntry} {w : PageWrite}
    (h : endWrite o s = some (.ok (e, w, u))) : u.vt = s.vt ∧ u.cert = s.cert := by
  unfold endWrite at h
  split at h
  · split at h <;> split at h
    · cases h
    · cases h; exact ⟨rfl, rfl⟩
    · cases h
    · cases h; exact ⟨rfl, rfl⟩
  · cases h

@[simp] theorem endCollection_table (c : Collection) (st : Status) (b : ReplyBody) (s : State) :
    (endCollection c st b s).vt = s.vt ∧ (endCollection c st b s).cert = s.cert := ⟨rfl, rfl⟩

@[simp] theorem abandonCollection_table (s : State) :
    (abandonCollection s).vt = s.vt ∧ (abandonCollection s).cert = s.cert := by
  unfold abandonCollection; split <;> simp

@[simp] theorem finishCollection_table (c : Collection) (t : Nat) (s : State) :
    (finishCollection c t s).vt = s.vt ∧ (finishCollection c t s).cert = s.cert := by
  unfold finishCollection; split <;> simp

@[simp] theorem collectSum_table (s : State) : (collectSum s).vt = s.vt ∧ (collectSum s).cert = s.cert := by
  unfold collectSum
  split
  · exact ⟨rfl, rfl⟩
  · dsimp only; split <;> [skip; split] <;> simp

@[simp] theorem guardCollection_table (s : State) :
    (guardCollection s).vt = s.vt ∧ (guardCollection s).cert = s.cert := by
  unfold guardCollection
  split
  · exact ⟨rfl, rfl⟩
  · split <;> simp

/-! ## Guidance -/

@[simp] theorem modGuide_table (st : Station) (f : StationGuide → StationGuide) (s : State) :
    (modGuide st f s).vt = s.vt ∧ (modGuide st f s).cert = s.cert := ⟨rfl, rfl⟩

@[simp] theorem enter_table (st : Station) (n : Option Nat) (s : State) :
    (enter st n s).vt = s.vt ∧ (enter st n s).cert = s.cert :=
  table_of_eq (enter_eq st n s) rfl rfl

@[simp] theorem runProgram_table (st : Station) (p : Nat) (s : State) :
    (runProgram st p s).vt = s.vt ∧ (runProgram st p s).cert = s.cert := by simp [runProgram]

@[simp] theorem raiseFlag_table (e : GEvent) (s : State) :
    (raiseFlag e s).vt = s.vt ∧ (raiseFlag e s).cert = s.cert := by
  unfold raiseFlag
  dsimp only
  split
  · exact ⟨rfl, rfl⟩
  · split <;> [skip; split] <;> simp

@[simp] theorem takeItem_table (s : State) (i : GuideItem) :
    (takeItem s i).vt = s.vt ∧ (takeItem s i).cert = s.cert := by
  cases i with
  | vehicle st v => simp [takeItem, selectProgram]
  | event e => unfold takeItem takeEvent moveToEntry; dsimp only; split <;> simp
  | brakeSample =>
    unfold takeItem compareSample
    dsimp only
    split
    · exact ⟨rfl, rfl⟩
    · split <;> simp

@[simp] theorem settleGuidance_table (s : State) :
    (settleGuidance s).vt = s.vt ∧ (settleGuidance s).cert = s.cert := by
  have hf : ∀ (l : List GuideItem) (u : State), (l.foldl takeItem u).vt = u.vt ∧ (l.foldl takeItem u).cert = u.cert := by
    intro l
    induction l with
    | nil => exact fun u => ⟨rfl, rfl⟩
    | cons i l ih => exact fun u => ⟨(ih _).1.trans (by simp), (ih _).2.trans (by simp)⟩
  exact hf _ _

@[simp] theorem stepTimedOut_table (st : Station) (s : State) :
    (stepTimedOut st s).vt = s.vt ∧ (stepTimedOut st s).cert = s.cert := by
  unfold stepTimedOut
  split
  · exact ⟨rfl, rfl⟩
  · split <;> simp

@[simp] theorem refreshShow_table (st : Station) (s : State) :
    (refreshShow st s).vt = s.vt ∧ (refreshShow st s).cert = s.cert := by
  unfold refreshShow; split <;> exact ⟨rfl, rfl⟩

@[simp] theorem beginPrompt_table (s : State) : (beginPrompt s).vt = s.vt ∧ (beginPrompt s).cert = s.cert := by
  unfold beginPrompt
  split
  · exact ⟨rfl, rfl⟩
  · split
    · exact ⟨rfl, rfl⟩
    · split <;> exact ⟨rfl, rfl⟩

@[simp] theorem endPrompt_table (s : State) : (endPrompt s).vt = s.vt ∧ (endPrompt s).cert = s.cert := by
  unfold endPrompt; split <;> exact ⟨rfl, rfl⟩

@[simp] theorem restartGuidance_table (s : State) :
    (restartGuidance s).vt = s.vt ∧ (restartGuidance s).cert = s.cert := by simp [restartGuidance]

theorem takeRequest_table {r : StationRequest} {s u : State} (h : takeRequest r s = some u) :
    u.vt = s.vt ∧ u.cert = s.cert := by
  unfold takeRequest at h
  split at h
  · split at h
    · cases h; exact ⟨rfl, rfl⟩
    · cases h
  · cases h

/-! ## The pedal link -/

@[simp] theorem noticePedal_table (c : PedalCause) (s : State) :
    (noticePedal c s).vt = s.vt ∧ (noticePedal c s).cert = s.cert := ⟨rfl, rfl⟩

@[simp] theorem enterAbsent_table (c : PedalCause) (s : State) :
    (enterAbsent c s).vt = s.vt ∧ (enterAbsent c s).cert = s.cert := by
  unfold enterAbsent; split <;> simp

@[simp] theorem enterLink_table (st : PedalState) (c : PedalCause) (s : State) :
    (enterLink st c s).vt = s.vt ∧ (enterLink st c s).cert = s.cert := ⟨rfl, rfl⟩

@[simp] theorem rebase_table (f : UnitFrame) (t : LaneTime) (s : State) :
    (rebase f t s).vt = s.vt ∧ (rebase f t s).cert = s.cert := by
  unfold rebase; dsimp only; split <;> simp

@[simp] theorem tentativeFrame_table (f : UnitFrame) (t : LaneTime) (e : Int) (s : State) :
    (tentativeFrame f t e s).vt = s.vt ∧ (tentativeFrame f t e s).cert = s.cert := by
  unfold tentativeFrame
  split
  · dsimp only; split <;> simp
  · exact ⟨rfl, rfl⟩

@[simp] theorem syncFrame_table (f : UnitFrame) (t : LaneTime) (e : Int) (s : State) :
    (syncFrame f t e s).vt = s.vt ∧ (syncFrame f t e s).cert = s.cert := by
  unfold syncFrame
  split
  · exact ⟨rfl, rfl⟩
  · dsimp only; split <;> simp

@[simp] theorem handleFrame_table (f : UnitFrame) (t : LaneTime) (s : State) :
    (handleFrame f t s).vt = s.vt ∧ (handleFrame f t s).cert = s.cert := by
  unfold handleFrame; dsimp only; split <;> simp

@[simp] theorem countGap_table (n : Nat) (s : State) : (countGap n s).vt = s.vt ∧ (countGap n s).cert = s.cert := by
  unfold countGap; split <;> simp

@[simp] theorem followFrame_table (g : Following) (f : UnitFrame) (t : LaneTime) (s : State) :
    (followFrame g f t s).vt = s.vt ∧ (followFrame g f t s).cert = s.cert := by
  unfold followFrame; dsimp only; split <;> [skip; split] <;> simp

@[simp] theorem linkFrame_table (b : List Byte) (t : LaneTime) (s : State) :
    (linkFrame b t s).vt = s.vt ∧ (linkFrame b t s).cert = s.cert := by
  unfold linkFrame
  dsimp only
  split
  · exact ⟨rfl, rfl⟩
  · split
    · simp
    · split <;> simp

@[simp] theorem takePedalFrame_table (b : List Byte) (s : State) :
    (takePedalFrame b s).vt = s.vt ∧ (takePedalFrame b s).cert = s.cert := by
  unfold takePedalFrame
  split
  · split <;> simp
  · split
    · split <;> simp
    · exact ⟨rfl, rfl⟩

@[simp] theorem pedalSilent_table (s : State) : (pedalSilent s).vt = s.vt ∧ (pedalSilent s).cert = s.cert := by
  unfold pedalSilent; split <;> simp

@[simp] theorem applyFilter_table (s : State) : (applyFilter s).vt = s.vt ∧ (applyFilter s).cert = s.cert := by
  unfold applyFilter
  split
  · exact ⟨rfl, rfl⟩
  · split <;> simp

@[simp] theorem restartPedal_table (s : State) : (restartPedal s).vt = s.vt ∧ (restartPedal s).cert = s.cert := by
  simp [restartPedal]

/-! ## Signal Acquisition -/

@[simp] theorem noticeSensor_table (a b : Channel) (n : Nat) (s : State) :
    (noticeSensor a b n s).vt = s.vt ∧ (noticeSensor a b n s).cert = s.cert := by
  unfold noticeSensor; split <;> exact ⟨rfl, rfl⟩

@[simp] theorem noticeSensors_table (n : Nat) (as bs : List Channel) (s : State) :
    (noticeSensors n as bs s).vt = s.vt ∧ (noticeSensors n as bs s).cert = s.cert := by
  induction as generalizing n bs s with
  | nil => exact ⟨rfl, rfl⟩
  | cons a as ih =>
    cases bs with
    | nil => exact ⟨rfl, rfl⟩
    | cons b bs => simp [noticeSensors, ih]

@[simp] theorem takeConversion_table (vs : List Nat) (s : State) :
    (takeConversion vs s).vt = s.vt ∧ (takeConversion vs s).cert = s.cert := by
  unfold takeConversion; dsimp only; split <;> simp

@[simp] theorem closeWindow_table (s : State) : (closeWindow s).vt = s.vt ∧ (closeWindow s).cert = s.cert := ⟨rfl, rfl⟩

@[simp] theorem takeLineSample_table (l : BitVec 24) (s : State) :
    (takeLineSample l s).vt = s.vt ∧ (takeLineSample l s).cert = s.cert := ⟨rfl, rfl⟩

theorem takeEdge_table {f : LineFn} {b : Bool} {s u : State} {t : LaneTime} (h : takeEdge f b s = some (t, u)) :
    u.vt = s.vt ∧ u.cert = s.cert := table_of_eq (takeEdge_eq h) rfl rfl

@[simp] theorem restartSignals_table (s : State) :
    (restartSignals s).vt = s.vt ∧ (restartSignals s).cert = s.cert := ⟨rfl, rfl⟩

/-! ## The Host Port -/

@[simp] theorem bufferFrame_table (f : HostFrame) (s : State) :
    (bufferFrame f s).vt = s.vt ∧ (bufferFrame f s).cert = s.cert := by
  unfold bufferFrame; split <;> [skip; split] <;> exact ⟨rfl, rfl⟩

@[simp] theorem takeHostFrame_table (f : HostFrame) (s : State) :
    (takeHostFrame f s).vt = s.vt ∧ (takeHostFrame f s).cert = s.cert := by
  unfold takeHostFrame; split <;> split <;> simp

@[simp] theorem takeRequestFrame_table (s : State) :
    (takeRequestFrame s).vt = s.vt ∧ (takeRequestFrame s).cert = s.cert := by
  unfold takeRequestFrame
  split
  · exact ⟨rfl, rfl⟩
  · split
    · exact ⟨rfl, rfl⟩
    · dsimp only; split <;> simp

@[simp] theorem atOwner_table (i : Instr) (s : State) : (atOwner i s).vt = s.vt ∧ (atOwner i s).cert = s.cert :=
  table_of_eq (atOwner_eq i s) rfl rfl

@[simp] theorem drainLowered_table (n : Nat) (s : State) :
    (drainLowered n s).vt = s.vt ∧ (drainLowered n s).cert = s.cert := by
  unfold drainLowered; dsimp only; split <;> simp

@[simp] theorem restartPort_table (s : State) : (restartPort s).vt = s.vt ∧ (restartPort s).cert = s.cert := ⟨rfl, rfl⟩

end Sys2Proof.Machine
end

section
/-! SUPPORT. What the operations of chapters 1, 3 and 4 do to the Vehicle Table: each is a run of the changes that the
rules allow. -/

namespace Sys2Proof.Machine

/-! ## Runs of changes -/

theorem Moves.refl (s : State) : Moves s s := Relation.ReflTransGen.refl

theorem Moves.trans {s t u : State} (h : Moves s t) (h' : Moves t u) : Moves s u := Relation.ReflTransGen.trans h h'

/-- What leaves the table as its laws read it continues a run. -/
theorem Moves.view {s t u : State} (h : Moves s t) (e : u.laneView = t.laneView) : Moves s u := by
  unfold Moves; rw [e]; exact h

/-- What leaves the Vehicle Table and the Certificate Unit alone continues a run. -/
theorem Moves.same {s t u : State} (h : Moves s t) (e : u.vt = t.vt ∧ u.cert = t.cert) : Moves s u :=
  h.view (by unfold State.laneView; rw [e.1, e.2])

theorem moves_same {s u : State} (e : u.vt = s.vt ∧ u.cert = s.cert) : Moves s u := (Moves.refl s).same e

theorem moves_step {s t : State} (h : TableMove s.laneView t.laneView) : Moves s t := Relation.ReflTransGen.single h

/-! ## Records rewritten (R3, R15, R22) -/

theorem Record.Kept.refl (r : Record) : r.Kept r := ⟨rfl, rfl, rfl, rfl, fun h => h.1⟩

/-- R15: the time of the last activity is free to change. -/
theorem Record.Turned.active {st : RecState} {r r' : Record} (h : r.Turned st r') (t : LaneTime) :
    r.Turned st { r' with lastActivity := t } := ⟨h.state, h.origin, h.job, h.expected, h.axles⟩

theorem forall₂_modify (l : List Record) (k : Nat) (f : Record → Record)
    (h : (l.getD k Record.free).Kept (f (l.getD k Record.free))) : List.Forall₂ Record.Kept l (l.modify k f) := by
  induction l generalizing k with
  | nil => simp
  | cons a l ih =>
    cases k with
    | zero =>
      simp only [List.modify_zero_cons]
      exact .cons h (List.forall₂_same.mpr fun r _ => .refl r)
    | succ k => exact .cons (.refl a) (ih k h)

theorem moves_modRec (k : Nat) (f : Record → Record) (s : State) (h : (s.record k).Kept (f (s.record k))) :
    Moves s (modRec k f s) :=
  moves_step (.edit s.laneView _ (forall₂_modify s.vt.records k f h))

theorem moves_writeRec (k : Nat) (f : Record → Record) (s : State) (h : (s.record k).Kept (f (s.record k))) :
    Moves s (writeRec k f s) := moves_modRec k _ s (h.active _)

theorem moves_writeAxle (k n : Nat) (f : Axle → Axle) (s : State) : Moves s (writeAxle k n f s) :=
  moves_writeRec k _ s ⟨rfl, rfl, rfl, rfl, fun h => by simpa [tableMod] using h.1⟩

/-- R3: an append stays within 12 entries. -/
theorem moves_appendAxle (k : Nat) (f : Axle → Axle) (s : State) : Moves s (appendAxle k f s).2 := by
  unfold appendAxle
  split
  · next hl => exact moves_writeRec k _ s ⟨rfl, rfl, rfl, rfl, fun _ => by simp; omega⟩
  · exact .refl s

theorem moves_markSkipped (k n : Nat) (c : SkipCause) (s : State) : Moves s (markSkipped k n c s) :=
  moves_writeAxle k n _ s

/-! ## Removal (R13, R16, R17) -/

theorem removeRecord_laneView (k : Nat) (c : Option RemovalCause) (s : State) : (removeRecord k c s).laneView =
    { s.laneView.modRec k (fun _ => Record.free) with armed := if s.vt.armed == some k then none else s.vt.armed } := by
  unfold removeRecord
  dsimp only
  split <;> split <;> rfl

/-- R16: a record outside the lane that no job is for may be removed. -/
theorem moves_removeRecord (k : Nat) (c : Option RemovalCause) (s : State) (hs : (s.record k).state ≠ .inLane)
    (hj : (s.record k).job = false ∨ k ∉ s.cert.queue.map Job.slot) : Moves s (removeRecord k c s) :=
  moves_step (removeRecord_laneView k c s ▸ .remove s.laneView k hs hj)

theorem Record.evictable_iff (r : Record) :
    r.evictable = true ↔ r.origin = .dynamic ∧ r.state = .complete ∧ r.job = false := by
  simp [Record.evictable, and_assoc]

theorem moves_removeEvictable (k : Nat) (c : Option RemovalCause) (s : State) (h : (s.record k).evictable = true) :
    Moves s (removeRecord k c s) := by
  obtain ⟨-, hs, hj⟩ := (Record.evictable_iff _).mp h
  exact moves_removeRecord k c s (by rw [hs]; decide) (.inl hj)

theorem moves_expireAge (k : Nat) (s : State) : Moves s (expireAge k s) := by
  unfold expireAge
  dsimp only
  split
  · next h =>
    simp only [Bool.and_eq_true] at h
    exact moves_removeEvictable k _ s h.1.1
  · exact .refl s

/-- Steps of a fold that are each a run of allowed changes are one. -/
theorem moves_foldl {α : Type} {f : State → α → State} (h : ∀ s a, Moves s (f s a)) (l : List α) (s : State) :
    Moves s (l.foldl f s) := by
  induction l generalizing s with
  | nil => exact .refl s
  | cons a l ih => exact (h s a).trans (ih _)

theorem Record.kept_renewIfEvictable (t : LaneTime) (r : Record) : r.Kept (r.renewIfEvictable t) := by
  unfold Record.renewIfEvictable
  split
  · exact (Record.Kept.refl r).active t
  · exact .refl r

/-- R17: an accepted AGE_LIMIT renews the eligible records or removes those past it. -/
theorem moves_setAgeLimit (n : Nat) (s : State) : Moves s (setAgeLimit n s) := by
  unfold setAgeLimit
  dsimp only
  have h0 : Moves s (s.onVt fun v => { v with ageLimit := n }) := .refl s
  split
  · exact h0
  · split
    · refine h0.trans (moves_step (.edit _ _ (List.forall₂_map_right_iff.mpr (List.forall₂_same.mpr fun r _ => ?_))))
      exact Record.kept_renewIfEvictable _ r
    · refine h0.trans (moves_foldl (fun u k => ?_) _ _)
      split
      · next h =>
        simp only [Bool.and_eq_true] at h
        exact moves_removeEvictable k _ u h.1
      · exact .refl u

/-! ## Binding (R12, R14) -/

/-- R14: the record as it enters the lane. -/
def Record.entered (n : Nat) (t : LaneTime) (r : Record) : Record :=
  { r with entryNumber := some n, state := .inLane, entryDone := false, lastActivity := t }

theorem bindRecord_laneView (k : Nat) (s : State) : (bindRecord k s).laneView =
    { s.laneView.modRec k (Record.entered ((s.vt.entryCount + 1) % 10000) s.now) with
        queue := s.vt.queue ++ [k], armed := if s.vt.armed == some k then none else s.vt.armed } := by
  unfold bindRecord
  dsimp only
  split <;> rfl

theorem Record.turned_entered (n : Nat) (t : LaneTime) (r : Record) : r.Turned .inLane (r.entered n t) :=
  ⟨rfl, rfl, rfl, rfl, fun h => h.1⟩

theorem Record.made_learned (c n : Nat) (t : LaneTime) : ((Record.learned c).entered n t).Made .inLane .dynamic :=
  ⟨rfl, rfl, rfl, fun _ h => (by cases h), rfl⟩

/-- R12 step 2: the armed record enters the lane. -/
theorem moves_bindArmed (k : Nat) (s : State) (hq : s.vt.queue.length < 3) (ha : s.vt.armed = some k) :
    Moves s (bindRecord k s) := by
  refine moves_step ?_
  rw [bindRecord_laneView, ha, if_pos (by simp)]
  exact .enter s.laneView k _ hq ha (Record.turned_entered _ _ _)

theorem modRec_const (v : LaneView) (k : Nat) (r : Record) (f : Record → Record) :
    (v.modRec k (fun _ => r)).modRec k f = v.modRec k (fun _ => f r) := by
  simp [LaneView.modRec, List.modify_modify_eq, Function.comp_def]

/-- R12 step 3: the table after a record is learned. -/
theorem learnRecord_laneView {s : State} {k : Nat} (hk : freeSlot s = some k) (ha : s.vt.armed = none) :
    (learnRecord s).2.laneView =
      { s.laneView.modRec k (fun _ => (Record.learned s.vt.defaultClass).entered ((s.vt.entryCount + 1) % 10000) s.now)
        with queue := s.vt.queue ++ [k] } := by
  have hm : (modRec k (fun _ => Record.learned s.vt.defaultClass) s).laneView
      = s.laneView.modRec k (fun _ => Record.learned s.vt.defaultClass) := rfl
  have hne : (modRec k (fun _ => Record.learned s.vt.defaultClass) s).vt.armed ≠ some k := by simp [modRec, ha]
  unfold learnRecord
  rw [hk]
  dsimp only
  rw [bindRecord_laneView, if_neg (by simpa using hne), hm, modRec_const]
  rfl

/-- R13: the older of a candidate and the best so far is one of them. -/
theorem foldl_olderOf_mem (t : LaneTime) (l : List (Nat × LaneTime)) (b : Option (Nat × LaneTime)) (x : Nat × LaneTime)
    (h : l.foldl (olderOf t) b = some x) : x ∈ l ∨ b = some x := by
  induction l generalizing b with
  | nil => exact .inr h
  | cons c l ih =>
    rcases ih _ h with hx | hx
    · exact .inl (List.mem_cons_of_mem c hx)
    · unfold olderOf at hx
      split at hx
      · cases hx; exact .inl List.mem_cons_self
      · split at hx
        · cases hx; exact .inl List.mem_cons_self
        · exact .inr hx

/-- R13: eviction takes an evictable record. -/
theorem evictionSlot_evictable {s : State} {k : Nat} (h : evictionSlot s = some k) : (s.record k).evictable = true := by
  unfold evictionSlot at h
  obtain ⟨⟨k', t⟩, hf, rfl⟩ := Option.map_eq_some_iff.mp h
  rcases foldl_olderOf_mem _ _ _ _ hf with hm | hm
  · obtain ⟨⟨r, j⟩, hr, he⟩ := List.mem_map.mp hm
    obtain ⟨hz, hev⟩ := List.mem_filter.mp hr
    cases he
    have hj := List.mem_zipIdx_iff_getElem?.mp hz
    simpa [State.record, List.getD_eq_getElem?_getD, hj] using hev
  · cases hm

/-- R12: what the Vehicle Table does when it is asked for a record. -/
theorem moves_askRecord (s : State) : Moves s (askRecord s).state := by
  unfold askRecord
  split
  · exact .refl s
  · next hq =>
    have hq : s.vt.queue.length < 3 := by omega
    split
    · next a ha => exact moves_bindArmed a s hq ha
    · next ha =>
      have made : ∀ u : State, Record.Made .inLane .dynamic
          ((Record.learned u.vt.defaultClass).entered ((u.vt.entryCount + 1) % 10000) u.now) :=
        fun u => Record.made_learned _ _ _
      split
      · next hd =>
        cases hk : freeSlot s with
        | none => unfold learnRecord; rw [hk]; exact .refl s
        | some k =>
          refine moves_step ?_
          rw [learnRecord_laneView hk ha]
          exact .learn s.laneView k _ hq ha hk hd (made s)
      · split
        · next e he =>
          have hev := evictionSlot_evictable he
          have hu : (removeRecord e (some .evicted) s).laneView = s.laneView.modRec e (fun _ => Record.free) := by
            rw [removeRecord_laneView, ha]; exact congrArg (fun a => LaneView.mk _ _ a _ _) ha.symm
          have hua : (removeRecord e (some .evicted) s).vt.armed = none := (congrArg LaneView.armed hu).trans ha
          have huq : (removeRecord e (some .evicted) s).vt.queue = s.vt.queue := congrArg LaneView.queue hu
          cases hk : freeSlot (removeRecord e (some .evicted) s) with
          | none => unfold learnRecord; rw [hk]; exact moves_removeEvictable e _ s hev
          | some k =>
            refine moves_step ?_
            dsimp only
            rw [learnRecord_laneView hk hua, hu, huq]
            exact .evict s.laneView e k _ hq ha hev
              ((congrArg LaneView.freeSlot hu).symm.trans hk) (made _)
        · exact .refl s

end Sys2Proof.Machine
end

section
/-! SUPPORT. What leaving the lane, the two stations and the requests of chapter 1 do to the Vehicle Table: each is a run of
the changes that the rules allow. -/

namespace Sys2Proof.Machine

/-! ## The leaving of the head (R20, R21, R23) -/

/-- R23: the missing entries fill a list up to its expected count. -/
theorem length_missingAxles (r : Record) :
    (missingAxles r).length = (r.expected.getD 0) - r.axles.length := by
  unfold missingAxles
  split
  · next h => simp [h]
  · next n h => simp [h]

theorem Record.turned_completed (r : Record) (c : Option ClassEntry) (t : LaneTime) :
    r.Turned .complete (r.completed c t) := by
  refine ⟨rfl, rfl, rfl, rfl, fun h => ?_⟩
  have he : r.expected.getD 0 ≤ 12 := by
    cases hx : r.expected with
    | none => exact Nat.zero_le 12
    | some n => exact h.2 n hx
  have hl := h.1
  simp only [Record.completed, List.length_append, length_missingAxles]
  omega

theorem completeHead_laneView {s : State} {h : Nat} {rest : List Nat} (c : LeaveCause) (hq : s.vt.queue = h :: rest) :
    (completeHead c s).laneView =
      { s.laneView.modRec h (fun r => r.completed (classEntry s r.cls) s.now) with queue := rest } := by
  unfold completeHead
  rw [hq]
  rfl

theorem moves_completeHead (c : LeaveCause) (s : State) : Moves s (completeHead c s) := by
  cases hq : s.vt.queue with
  | nil => unfold completeHead; rw [hq]; exact .refl s
  | cons h rest =>
    exact moves_step (completeHead_laneView c hq ▸ .complete s.laneView h rest _ hq (Record.turned_completed _ _ _))

theorem moves_evaluateLeaving (s : State) : Moves s (evaluateLeaving s) := by
  unfold evaluateLeaving
  split
  · exact moves_completeHead _ s
  · exact .refl s

theorem moves_exitCleared (s : State) : Moves s (exitCleared s) := by
  unfold exitCleared
  split
  · exact .refl s
  · exact (moves_evaluateLeaving _ : Moves (s.onVt fun v => { v with exitClear := true }) _)

theorem moves_releaseHead (s : State) : Moves s (releaseHead s) := by
  unfold releaseHead
  split
  · exact .refl s
  · exact (moves_writeRec _ (fun r => { r with axles := r.axles.map markUntested }) s
      ⟨rfl, rfl, rfl, rfl, fun h => by simpa using h.1⟩).trans (moves_completeHead _ _)

/-! ## The entry station -/

theorem moves_startVehicle (s : State) : Moves s (startVehicle s) := by
  unfold startVehicle
  have h := (moves_same (startTrackers_table s)).trans (moves_askRecord (startTrackers s))
  dsimp only
  split
  · exact h.same (bindStation_table _ _)
  · exact h.same (by simp)

theorem moves_refuseAxle (k : Nat) (s : State) : Moves s (refuseAxle k s) :=
  (moves_writeRec k (fun r => { r with axlesExceeded := true }) s ⟨rfl, rfl, rfl, rfl, fun h => h.1⟩).same
    (addExcess_table _ _)

theorem moves_appendMeasured (k : Nat) (f : Axle → Axle) (s : State) : Moves s (appendMeasured k f s).2 := by
  have ha := moves_appendAxle k f s
  unfold appendMeasured
  dsimp only
  split
  · exact ((ha.same (noticeMeasured_table _ _ _)).trans (moves_evaluateLeaving _)).same (noteRematch_table _)
  · exact ha.trans (moves_refuseAxle k _)

theorem moves_appendPassed (k n : Nat) (s : State) : Moves s (appendPassed k n s) := by
  induction n generalizing s with
  | zero => exact .refl s
  | succ n ih => exact (moves_appendMeasured k id s).trans (ih _)

theorem moves_retryBinding (s : State) : Moves s (retryBinding s) := by
  unfold retryBinding
  split
  · dsimp only
    split
    · exact .refl s
    · next k _ =>
      have h := ((moves_askRecord s).same (bindStation_table k _)).trans (moves_appendPassed k s.entry.passed _)
      split
      · exact h.same (onScale_table _ _)
      · exact h
  · exact .refl s

theorem moves_barrierActive (s : State) : Moves s (barrierActive s) := by
  unfold barrierActive
  split
  · exact .refl s
  · split
    · exact moves_same (by simp)
    · exact moves_startVehicle s

theorem moves_takeWeight (u : Bool) (l r : Option Nat) (s : State) : Moves s (takeWeight u l r s) := by
  unfold takeWeight
  dsimp only
  split
  · exact .refl s
  · exact ((moves_appendMeasured _ _ (s.onEntry _)).same (onScale_table _ _)).same (raiseEvent_table _ _)

theorem moves_takeUnsettled (s : State) : Moves s (takeUnsettled s) := moves_takeWeight _ _ _ s

theorem moves_takeSettled (s : State) : Moves s (takeSettled s) := moves_takeWeight _ _ _ s

theorem moves_leaveScale (s : State) : Moves s (leaveScale s) := by
  have h1 : Moves s (if s.entry.scale.phase == .weighing then takeUnsettled s else s) := by
    split
    · exact moves_takeUnsettled s
    · exact .refl s
  unfold leaveScale
  dsimp only
  split
  · exact h1.same (by simp)
  · exact h1.same (onScale_table _ _)

theorem moves_scaleSample (x : EntrySample) (s : State) : Moves s (scaleSample x s) := by
  have joined : ∀ u : State, Moves u (if u.entry.scale.low == 5 then leaveScale u
      else if u.entry.scale.phase == .weighing && u.entry.scale.settled u.entry.settleBand then takeSettled u
      else u) := by
    intro u
    split
    · exact moves_leaveScale u
    · split
      · exact moves_takeSettled u
      · exact .refl u
  unfold scaleSample
  split
  · split
    · exact moves_same (comeOnScale_table x s)
    · exact .refl s
  · exact (moves_same (onScale_table _ s)).trans (joined _)
  · exact (moves_same (onScale_table _ s)).trans (joined _)

theorem moves_entryWindow (d : Delivery) (s : State) : Moves s (entryWindow d s) := by
  unfold entryWindow
  split
  · exact (moves_same (u := onPlate _ (recordEntrySample _ (liveEntry _ s))) (by simp)).trans (moves_scaleSample _ _)
  · exact .refl s

theorem moves_settleExpired (s : State) : Moves s (settleExpired s) := by
  unfold settleExpired
  split
  · exact moves_takeUnsettled s
  · exact .refl s

theorem moves_quietExpired (s : State) : Moves s (quietExpired s) := by
  unfold quietExpired
  split
  · exact .refl s
  · next v _ =>
    split
    · have h := (moves_writeRec v (fun r => { r with entryDone := true }) s ⟨rfl, rfl, rfl, rfl, fun h => h.1⟩).trans
        (moves_evaluateLeaving _)
      exact h.same (by simp)
    · exact .refl s

/-! ## The brake station -/

theorem moves_abortAttempt (r : AbortReason) (s : State) : Moves s (abortAttempt r s) := by
  have h1 : ∀ f : BrakeStation → BrakeStation,
      Moves s (abortTrace s.brake.openTrace ((setRun false s).onBrake f)) := fun f => moves_same (by simp)
  unfold abortAttempt
  dsimp only
  split
  · exact ((h1 _).trans (moves_writeAxle _ _ _ _)).same (noticeTested_table _ _ _)
  · exact (h1 _).same (noticeTested_table _ _ _)

theorem moves_enterFault (c : BrakeCause) (s : State) : Moves s (enterFault c s) := by
  unfold enterFault
  split
  · exact .refl s
  · have h1 : Moves s (if s.brake.state.attempt && c != .rollerStopTimeout then abortAttempt .fault s else s) := by
      split
      · exact moves_abortAttempt _ s
      · exact .refl s
    exact h1.same (by simp)

theorem moves_enterZeroing (s : State) : Moves s (enterZeroing s) := by
  unfold enterZeroing
  split
  · exact moves_enterFault _ s
  · exact moves_same (by simp)

theorem moves_takeAxle (n : Nat) (p : Phase) (s : State) : Moves s (takeAxle n p s) :=
  (moves_enterZeroing (s.onBrake fun b => { b with axle := some n, phase := p }) :)

theorem moves_matchAxle (v : Nat) (s : State) : Moves s (matchAxle v s) := by
  unfold matchAxle
  dsimp only
  split
  · exact moves_takeAxle _ _ s
  · split
    · have ha := moves_appendAxle v (fun a => { a with addedAtRollers := true }) s
      split
      · exact (ha.trans (moves_evaluateLeaving _)).trans (moves_takeAxle _ _ _)
      · exact ha.same (by simp)
    · exact moves_same (by simp)

theorem moves_rematchAxle (s : State) : Moves s (rematchAxle s) := by
  unfold rematchAxle
  split
  · split
    · exact moves_matchAxle _ s
    · exact .refl s
  · exact .refl s

theorem moves_presenceExpired (s : State) : Moves s (presenceExpired s) := by
  unfold presenceExpired
  split
  · exact .refl s
  · split
    · exact (moves_same (u := raiseEvent _ (s.onBrake _)) ⟨rfl, rfl⟩).trans (moves_matchAxle _ _)
    · exact .refl s

theorem moves_writeResult (v n : Nat) (s : State) : Moves s (writeResult v n s) := by
  unfold writeResult
  dsimp only
  have hw := moves_writeAxle v n (fun a => a.withResult s.brake.phase (axleResult s)) s
  exact (hw.trans (moves_evaluateLeaving _)).same (by simp)

theorem moves_axleDone (s : State) : Moves s (axleDone s) := by
  unfold axleDone
  split
  · exact moves_same (enterWaitClear_table s)
  · next v n _ =>
    have h := (moves_same (enterState_table .axleDone s)).trans (moves_writeResult v n _)
    dsimp only
    split
    · exact h.same (by simp)
    · exact h.same (by simp)

theorem moves_stoppingSample (d : Delivery) (s : State) : Moves s (stoppingSample d s) := by
  have h : ∀ n, Moves s (if n ≥ 50 then axleDone ((s.onBrake fun b => { b with stopCount := n }).onBrake fun b =>
      { b with stop := none }) else s.onBrake fun b => { b with stopCount := n }) := by
    intro n
    split
    · exact (moves_same (u := (s.onBrake _).onBrake _) ⟨rfl, rfl⟩).trans (moves_axleDone _)
    · exact .refl s
  exact h _

theorem moves_stopExpired (s : State) : Moves s (stopExpired s) := by
  unfold stopExpired
  split
  · split
    · exact moves_enterFault _ s
    · exact (moves_writeResult _ _ s).trans (moves_enterFault _ _)
  · exact .refl s

theorem moves_actOnSample (d : Delivery) (x : BrakeSample) (s : State) : Moves s (actOnSample d x s) := by
  have running : ∀ f : State → State, (∀ u, (f u).vt = u.vt ∧ (f u).cert = u.cert) →
      Moves s (if d.brakeFaulted then enterFault .sensorFault s else f s) := by
    intro f hf
    split
    · exact moves_enterFault _ s
    · exact moves_same (hf s)
  unfold actOnSample
  split
  · exact running _ (zeroingSample_table d)
  · exact running _ (spinUpSample_table x)
  · exact running _ (dragSample_table x)
  · exact running _ (brakingSample_table x)
  · exact moves_stoppingSample d s
  all_goals exact .refl s

theorem moves_brakeWindow (d : Delivery) (s : State) : Moves s (brakeWindow d s) := by
  unfold brakeWindow
  dsimp only
  refine Moves.same (Moves.trans (moves_same ?_) (moves_actOnSample d _ _)) (hand_table _ _)
  simp

theorem moves_spinUpExpired (s : State) : Moves s (spinUpExpired s) := by
  unfold spinUpExpired
  split
  · exact moves_enterFault _ s
  · exact .refl s

theorem moves_wheelsLost (s : State) : Moves s (wheelsLost s) := by
  unfold wheelsLost
  exact (moves_abortAttempt .wheelsLost s).same (by simp)

theorem moves_wheelWent (w : Side) (t : LaneTime) (s : State) : Moves s (wheelWent w t s) := by
  unfold wheelWent
  split
  · exact .refl s
  · exact moves_same (enterWaitWheels_table s)
  · split <;> exact .refl s
  case h_9 | h_10 | h_11 => exact .refl s
  all_goals exact moves_wheelsLost s

theorem moves_driveWent (s : State) : Moves s (driveWent s) := by
  unfold driveWent
  split
  · exact moves_enterFault _ s
  · exact .refl s

theorem moves_markParking (s : State) : Moves s (markParking s) := by
  unfold markParking
  split
  · exact .refl s
  · split
    · exact moves_writeAxle _ _ _ s
    · exact .refl s

theorem moves_skipAxle (c : SkipCause) (v n : Nat) (s : State) : Moves s (skipAxle c v n s) := by
  have marked : ∀ t, Moves t (evaluateLeaving (markSkipped v n c t)) := fun t =>
    (moves_markSkipped v n c t).trans (moves_evaluateLeaving _)
  unfold skipAxle
  dsimp only
  split
  · exact (((moves_abortAttempt .skipped s).trans (marked _)).same (enterWaitClear_table _)).same
      (raiseVehicleDone_table _ _ _)
  · exact (marked s).same (raiseVehicleDone_table _ _ _)

theorem moves_guidanceSkip (s : State) : Moves s (guidanceSkip s) := by
  unfold guidanceSkip
  split
  · exact .refl s
  · exact moves_skipAxle _ _ _ s

theorem moves_hostSkip (s : State) : Moves s (hostSkip s).state := by
  unfold hostSkip
  split
  · exact .refl s
  · exact moves_skipAxle _ _ _ s

theorem moves_carryRelease (s : State) : Moves s (carryRelease s) := by
  unfold carryRelease
  split
  · exact ((moves_abortAttempt .released s).same (enterWaitClear_table _)).trans (moves_releaseHead _)
  · exact moves_releaseHead s

theorem moves_guidanceRelease (s : State) : Moves s (guidanceRelease s) := by
  unfold guidanceRelease
  split
  · exact moves_carryRelease s
  · exact .refl s

theorem moves_hostRelease (s : State) : Moves s (hostRelease s).state := by
  unfold hostRelease
  split
  · exact moves_carryRelease s
  · exact .refl s

theorem moves_ackFault (s : State) : Moves s (ackFault s).state := by
  unfold ackFault
  split
  · exact .refl s
  · exact moves_same (by simp [accept, acceptWith])

/-! ## The requests of chapter 1 (R7 to R11, R18, R24) -/

/-- R7: a request on a slot is refused, or its slot holds a record. -/
theorem withSlot_cases (k : Nat) (s : State) (f : Record → Handled) :
    (∃ st, withSlot k s f = refuse st s) ∨
      (k ≤ 31 ∧ (s.record k).state ≠ .free ∧ withSlot k s f = f (s.record k)) := by
  unfold withSlot slotRefusal
  by_cases hk : 31 < k
  · exact .inl ⟨.badField, by simp [hk]⟩
  · by_cases hf : (s.record k).state = .free
    · exact .inl ⟨.noSuch, by simp [hk, hf]⟩
    · exact .inr ⟨by omega, hf, by simp [hk, hf]⟩

theorem Record.made_booked {id : Text} {c : Nat} {e : Option Nat} {p : List Nat} (t : LaneTime)
    (h : bookingOk id c e p = true) : (Record.booked id c e p t).Made .booked .booked := by
  refine ⟨rfl, rfl, rfl, fun n hn => ?_, rfl⟩
  have hn : e = some n := hn
  simp only [bookingOk, hn, Option.all_some, Bool.and_eq_true, decide_eq_true_eq] at h
  exact h.1.2.2

theorem moves_bookVehicle (id : Text) (c : Nat) (e : Option Nat) (p : List Nat) (s : State) :
    Moves s (bookVehicle id c e p s).state := by
  unfold bookVehicle
  split
  · exact .refl s
  · next hok =>
    split
    · exact .refl s
    · split
      · exact .refl s
      · next hb =>
        split
        · exact .refl s
        · next k hk =>
          exact moves_step (.book s.laneView k _ hk (Nat.lt_of_not_le hb)
            (Record.made_booked s.now (by simpa using hok)))

theorem moves_disarm (s : State) : Moves s (disarm s) := by
  unfold disarm
  split
  · exact .refl s
  · next a ha => exact moves_step (.disarm s.laneView a _ ha ⟨rfl, rfl, rfl, rfl, fun h => h.1⟩)

theorem disarm_armed (s : State) : (disarm s).vt.armed = none := by
  unfold disarm
  split
  · assumption
  · rfl

theorem record_disarm (s : State) (k : Nat) : (disarm s).record k =
    if s.vt.armed = some k ∧ k < s.vt.records.length then { s.record k with state := .booked } else s.record k := by
  unfold disarm
  split
  · next h => rw [if_neg (by simp [h])]
  · next a h =>
    rw [record_modRec]
    by_cases hk : k = a
    · subst hk
      simp [h, State.record]
    · rw [if_neg (fun x => hk x.1), if_neg (fun x => hk (by have := x.1; rw [h] at this; cases this; rfl))]
      rfl

theorem moves_armVehicle (o : Option Nat) (s : State) : Moves s (armVehicle o s).state := by
  unfold armVehicle
  split
  · exact moves_disarm s
  · next k =>
    rcases withSlot_cases k s _ with ⟨st, h⟩ | ⟨-, -, h⟩ <;> rw [h]
    · exact .refl s
    · dsimp only
      split
      · exact .refl s
      · next hs =>
        have hd : ((disarm s).record k).state = .booked ∨ ((disarm s).record k).state = .armed := by
          rw [record_disarm]
          split
          · exact .inl rfl
          · simp only [Bool.and_eq_true, bne_iff_ne] at hs
            by_contra hc
            exact hs ⟨fun x => hc (.inl x), fun x => hc (.inr x)⟩
        exact (moves_disarm s).trans (moves_step
          (.arm (disarm s).laneView k (fun r => { r with state := .armed }) (disarm_armed s) hd
            ⟨rfl, rfl, rfl, rfl, fun h => h.1⟩))

theorem moves_bindVehicle (k : Nat) (id : Text) (c : Option Nat) (s : State) :
    Moves s (bindVehicle k id c s).state := by
  unfold bindVehicle
  rcases withSlot_cases k s _ with ⟨st, h⟩ | ⟨-, -, h⟩ <;> rw [h]
  · exact .refl s
  · split
    · exact .refl s
    · split
      · exact .refl s
      · split
        · exact .refl s
        · split
          · exact .refl s
          · exact moves_writeRec k (fun r => { r with id := id, cls := c.getD r.cls }) s
              ⟨rfl, rfl, rfl, rfl, fun h => h.1⟩

theorem moves_discardVehicle (k : Nat) (s : State) : Moves s (discardVehicle k s).state := by
  unfold discardVehicle
  rcases withSlot_cases k s _ with ⟨st, h⟩ | ⟨-, -, h⟩ <;> rw [h]
  · exact .refl s
  · split
    · exact .refl s
    · next hb =>
      simp only [Bool.or_eq_true, beq_iff_eq, not_or, Bool.not_eq_true] at hb
      exact moves_removeRecord k _ s hb.1 (.inl hb.2)

theorem moves_getVehicle (k : Nat) (s : State) : Moves s (getVehicle k s).state := by
  unfold getVehicle
  rcases withSlot_cases k s _ with ⟨st, h⟩ | ⟨-, -, h⟩ <;> rw [h]
  · exact .refl s
  · exact moves_writeRec k id s (.refl _)

theorem moves_loadClass (c l : Nat) (f : Option RawClass) (s : State) : Moves s (loadClass c l f s).state := by
  unfold loadClass
  split
  · exact .refl s
  · split <;> exact .refl s

end Sys2Proof.Machine
end

section
/-! SUPPORT. What the Certificate Unit, the Host Port and what follows an event do to the Vehicle Table and the jobs; every
step is a run of the changes that the rules allow. -/

namespace Sys2Proof.Machine

/-! ## Operations of the Vehicle Table leave the Certificate Unit alone -/

@[simp] theorem modRec_cert (k : Nat) (f : Record → Record) (s : State) : (modRec k f s).cert = s.cert := rfl
@[simp] theorem writeRec_cert (k : Nat) (f : Record → Record) (s : State) : (writeRec k f s).cert = s.cert := rfl

@[simp] theorem removeRecord_cert (k : Nat) (c : Option RemovalCause) (s : State) :
    (removeRecord k c s).cert = s.cert := by
  unfold removeRecord; dsimp only; split <;> split <;> rfl

@[simp] theorem bindRecord_cert (k : Nat) (s : State) : (bindRecord k s).cert = s.cert := by
  unfold bindRecord; dsimp only; split <;> rfl

@[simp] theorem learnRecord_cert (s : State) : (learnRecord s).2.cert = s.cert := by
  unfold learnRecord; split <;> simp

@[simp] theorem askRecord_cert (s : State) : (askRecord s).state.cert = s.cert := by
  unfold askRecord
  split
  · rfl
  · split
    · simp
    · split
      · simp
      · split <;> simp

@[simp] theorem completeHead_cert (c : LeaveCause) (s : State) : (completeHead c s).cert = s.cert := by
  unfold completeHead; split <;> rfl

@[simp] theorem evaluateLeaving_cert (s : State) : (evaluateLeaving s).cert = s.cert := by
  unfold evaluateLeaving; split <;> simp

@[simp] theorem appendMeasured_cert (k : Nat) (f : Axle → Axle) (s : State) :
    (appendMeasured k f s).2.cert = s.cert := by
  unfold appendMeasured appendAxle refuseAxle
  split <;> simp

@[simp] theorem appendPassed_cert (k n : Nat) (s : State) : (appendPassed k n s).cert = s.cert := by
  induction n generalizing s with
  | zero => rfl
  | succ n ih => simp [appendPassed, ih]

@[simp] theorem retryBinding_cert (s : State) : (retryBinding s).cert = s.cert := by
  unfold retryBinding
  split
  · dsimp only
    split
    · rfl
    · split <;> simp
  · rfl

/-! ## Jobs (R158, R160, R161, R172, R176) -/

/-- A change of the head job that keeps its slot changes nothing the laws read. -/
theorem modHead_laneView {f : Job → Job} (hf : ∀ j, (f j).slot = j.slot) (s : State) :
    (modHead f s).laneView = s.laneView := by
  unfold modHead State.laneView
  cases h : s.cert.queue with
  | nil => simp [h]
  | cons j js => simp [h, hf]

theorem moves_modHead {f : Job → Job} (hf : ∀ j, (f j).slot = j.slot) (s : State) : Moves s (modHead f s) :=
  (Moves.refl s).view (modHead_laneView hf s)

theorem slots_filter (q : List Job) (k : Nat) :
    (q.filter (fun h => h.slot != k)).map Job.slot = (q.map Job.slot).filter (· != k) := by
  rw [List.filter_map]; rfl

/-- R26: a COMPLETE record that no job is for is restarted. -/
theorem moves_restartRecord (k : Nat) (s : State) (hs : (s.record k).state = .complete)
    (hk : k ∉ s.cert.queue.map Job.slot) : Moves s (restartRecord k s) := by
  unfold restartRecord
  split
  · exact moves_removeRecord k none s (by rw [hs]; decide) (.inr hk)
  · next ho =>
    cases hj : (s.record k).job with
    | true =>
      refine moves_modRec k _ s ?_
      have : (s.record k).restarted s.now = s.record k := by simp [Record.restarted, hj]
      rw [this]
      exact .refl _
    | false =>
      refine moves_step (.rebook s.laneView k _ hs hj ?_)
      have : (s.record k).restarted s.now = { s.record k with
          state := .booked, entryDone := false, axlesExceeded := false, axlesMissing := false, entryNumber := none
          lastActivity := s.now, axles := [], totals := none } := by
        simp [Record.restarted, hs, hj, by simpa using ho]
      exact (this ▸ ⟨rfl, rfl, rfl, rfl, fun _ => Nat.zero_le 12⟩ :
        (s.record k).Turned .booked ((s.record k).restarted s.now))

/-- R172: the end of a job takes it from the queue with its record's link, and restarts the record if that is due. -/
theorem moves_closeJob (j : Job) (o : JobOutcome) (c : Option JobCause) (r : Bool) (s : State) :
    Moves s (closeJob j o c r s) := by
  unfold closeJob
  extract_lets s1 s2 s3 s4 s5
  have h2 : Moves s s2 := moves_step (by
    have hv : s2.laneView = { s.laneView.modRec j.slot (fun r => { r with job := false, lastActivity := s.now }) with
        jobs := s.laneView.jobs.filter (· != j.slot) } :=
      congrArg (LaneView.mk _ _ _ _) (slots_filter s.cert.queue j.slot)
    rw [hv]
    exact .jobEnded s.laneView j.slot _ fun r => (Record.Kept.refl _).active s.now)
  have h3 : Moves s s3 := by
    refine h2.trans ?_
    unfold s3
    split
    · exact .refl s2
    · exact moves_retryBinding s2
  have h5 : Moves s s5 := h3.same (by simp [s5, s4])
  have hc : s5.cert = s1.cert := by
    have : s3.cert = s2.cert := by unfold s3; split <;> simp
    simp [s5, s4, this, s2]
  split
  · next hr =>
    simp only [Bool.and_eq_true, beq_iff_eq] at hr
    refine h5.trans (moves_restartRecord j.slot s5 hr.2 ?_)
    rw [hc]
    unfold s1
    simp [slots_filter]
  · exact h5

theorem moves_numberHead (n : Nat) (s : State) : Moves s (numberHead n s) := by
  induction n generalizing s with
  | zero => exact .refl s
  | succ n ih =>
    unfold numberHead
    split
    · exact .refl s
    · split
      · exact .refl s
      · split
        · exact (moves_closeJob _ _ _ _ s).trans (ih _)
        · exact (moves_modHead (f := fun j => { j with state := .numbering }) (fun _ => rfl) s :)

theorem moves_endJob (j : Job) (o : JobOutcome) (c : Option JobCause) (s : State) : Moves s (endJob j o c s) :=
  (moves_closeJob j o c false s).trans (moves_numberHead 5 _)

theorem moves_numberFixed (v : Nat) (s : State) : Moves s (numberFixed v s) := by
  unfold numberFixed
  split
  · exact .refl s
  · next j js hq =>
    split
    · exact .refl s
    · dsimp only
      split
      · exact moves_endJob _ _ _ s
      · exact (Moves.refl s).view (by simp [modHead, State.laneView, hq])

theorem moves_commitFailed (s : State) : Moves s (commitFailed s) := by
  unfold commitFailed
  split
  · exact .refl s
  · split
    · exact .refl s
    · split <;> exact moves_endJob _ _ _ s

theorem moves_pumpWrites (n : Nat) (s : State) : Moves s (pumpWrites n s) := by
  induction n generalizing s with
  | zero => exact .refl s
  | succ n ih =>
    unfold pumpWrites
    split
    · exact ((moves_same (u := noticeStoreFault .counter .counter
        (s.onCal fun c => CalStore.settled { c with queue := c.queue.drop 1 })) ⟨rfl, rfl⟩).trans
          (moves_commitFailed _)).trans (ih _)
    · exact .refl s

theorem moves_finishWrite {o : WriteOutcome} {s t : State} (h : finishWrite o s = .next t) : Moves s t := by
  unfold finishWrite at h
  split at h
  · cases h; exact .refl s
  · cases h
  · next e w s1 he =>
    have h1 : Moves s s1 := moves_same (endWrite_table he)
    split at h
    · split at h
      · cases h; exact h1.trans (moves_numberFixed _ _)
      · cases h; exact h1.trans (moves_commitFailed _)
    · cases h; exact h1

theorem moves_certQueue (k : Nat) (hs : List RawHeader) (s : State) : Moves s (certQueue k hs s).state := by
  unfold certQueue
  split
  · exact .refl s
  split
  · exact .refl s
  split
  · exact .refl s
  dsimp only
  split
  · exact .refl s
  split
  · exact .refl s
  next hst =>
  split
  · exact .refl s
  split
  · exact .refl s
  split
  · exact .refl s
  split
  · exact .refl s
  split
  · exact .refl s
  · next lines _ _ _ _ c _ _ _ _ _ =>
    refine Moves.trans ?_ (moves_numberHead 5 _)
    refine moves_step ?_
    have hv : (modRec k (fun r => { r with job := true }) (s.onCert fun q =>
        { q with queue := q.queue ++ [Job.admitted k lines (s.record k) c] })).laneView
        = { s.laneView.modRec k (fun r => { r with job := true }) with jobs := s.laneView.jobs ++ [k] } :=
      congrArg (LaneView.mk _ _ _ _) (by simp [State.laneView, Job.admitted])
    rw [hv]
    have hst : (s.record k).state = .complete := by simpa using hst
    exact .jobAdded s.laneView k hst

theorem moves_certAbort (k : Nat) (s : State) : Moves s (certAbort k s).state := by
  unfold certAbort
  split
  · exact .refl s
  split
  · exact .refl s
  split
  · exact .refl s
  split
  · exact .refl s
  dsimp only
  split
  · exact (moves_endJob _ _ _ (oweVoid s) :)
  · exact moves_endJob _ _ _ s

theorem moves_restartJob (s : State) (j : Job) : Moves s (restartJob s j) := by
  unfold restartJob
  split
  · refine (Moves.refl s).view (congrArg (LaneView.mk _ _ _ _) ?_)
    simp only [State.onCert, List.map_map]
    exact List.map_congr_left fun h _ => by simp only [Function.comp]; split <;> rfl
  · split
    · exact (moves_closeJob _ _ _ _ (oweVoid s) :)
    · exact moves_closeJob _ _ _ _ s
  all_goals exact moves_closeJob _ _ _ _ s

theorem moves_restartJobs (s : State) : Moves s (restartJobs s) := moves_foldl moves_restartJob _ s

/-! ## The printer -/

theorem moves_interrupt (s : State) : Moves s (interrupt s) := by
  unfold interrupt
  split
  · exact (moves_modHead (f := fun j => { j with state := .held, position := 0, started := false, planPos := 0 })
      (fun _ => rfl) (s.onCert fun c => { c with strip := [] }) :)
  · exact .refl s

theorem moves_reprint (s : State) : Moves s (reprint s) := moves_modHead (fun j => by split <;> rfl) s

theorem moves_setLink (l : LinkState) (s : State) : Moves s (setLink l s) := by
  unfold setLink
  dsimp only
  split
  · exact (moves_interrupt (rewindVoid (s.onCert fun c => { c with link := l })) :)
  · split
    · exact (moves_reprint (s.onCert fun c => { c with link := l }) :)
    · exact .refl s

theorem moves_takeStatus (c : PrinterCondition) (t : LaneTime) (s : State) : Moves s (takeStatus c t s) := by
  have h := moves_setLink (if PrinterCondition.isEmpty c then LinkState.ready else LinkState.paused)
    (s.onCert fun k => { k with condition := some c, silence := some (later t 2000) })
  unfold takeStatus
  generalize (if PrinterCondition.isEmpty c then LinkState.ready else LinkState.paused) = l at h ⊢
  dsimp only
  split <;> exact (h :)

theorem moves_printerSilent (s : State) : Moves s (printerSilent s) := by
  unfold printerSilent
  split
  · exact (moves_setLink .offline (s.onCert fun c => { c with condition := none, silence := none }) :)
  · exact .refl s

theorem moves_takeHello (w : Nat) (s : State) : Moves s (takeHello w s) := by
  have h := moves_interrupt (rewindVoid (s.onCert fun c => { c with window := w, outstanding := 0 }))
  unfold takeHello
  dsimp only
  split
  · exact (h.trans (moves_reprint _) :)
  · exact (h :)

theorem moves_completeJob (s : State) : Moves s (completeJob s) := by
  unfold completeJob
  split
  · exact .refl s
  · split
    · exact moves_endJob _ _ _ s
    · exact .refl s

theorem moves_takeCredit (n : Nat) (s : State) : Moves s (takeCredit n s) :=
  (moves_completeJob (s.onCert fun c =>
    { c with outstanding := c.outstanding - n, creditExcess := bumpBy 65535 c.creditExcess (n - c.outstanding) }) :)

theorem moves_takePrinter {m : PrinterMsg} {ok : Bool} {k : LaneTime → State → State} (s : State)
    (h : ∀ t u, Moves u (k t u)) : Moves s (takePrinter m ok k s) := by
  unfold takePrinter
  split
  · next t rest _ =>
    split
    · exact (h t (s.onCert fun c => { c with inbox := rest }) :)
    · exact .refl s
  · split
    · exact h _ s
    · exact .refl s

/-- R162: a byte from the printer leaves the jobs as they are. -/
theorem takeByte_queue (c : CertUnit) (b : Byte) (ok : Bool) (t : LaneTime) : (c.takeByte b ok t).queue = c.queue := by
  have hunt : ∀ d : CertUnit, (d.huntByte b ok t).queue = d.queue := fun d => by
    unfold CertUnit.huntByte; split <;> rfl
  have full : ∀ bytes, (c.completeFrame bytes t).queue = c.queue := fun bytes => by
    unfold CertUnit.completeFrame; split <;> rfl
  unfold CertUnit.takeByte
  split
  · exact hunt c
  split
  · exact hunt _
  split
  · rfl
  dsimp only
  split
  · rfl
  split
  · exact full _
  · rfl

theorem moves_sendJobFrame (f : PrinterFrame) (n : Nat) (strip : List PrinterFrame) (s : State) :
    Moves s (sendJobFrame f n strip s) :=
  (moves_modHead (f := fun j => { j with position := j.position + 1, started := true, planPos := j.planPos + n })
    (fun _ => rfl) (s.onCert fun c => { c with strip := strip }) :)

theorem moves_beginPrinter (s : State) : Moves s (beginPrinter s) := by
  unfold beginPrinter
  dsimp only
  split
  · exact .refl s
  split
  · exact .refl s
  · exact .refl s
  split
  · exact .refl s
  split
  · unfold sendNextOf
    split
    · exact moves_sendJobFrame _ _ _ s
    · split
      · exact .refl s
      · exact moves_sendJobFrame _ _ _ s
      · exact moves_sendJobFrame _ _ _ s
  · exact .refl s

/-! ## Settings (R196) -/

theorem storeSetting_laneView (s : State) (e : Nat × Nat) :
    (storeSetting s e).laneView = { s.laneView with dynMax := if e.1 = 1 then e.2 else s.vt.dynMax } := by
  obtain ⟨i, v⟩ := e
  unfold storeSetting
  split <;> simp_all <;> rfl

/-- R196: the values carried change DYN_MAX alone of what the laws read. -/
theorem storeSettings_laneView {es : List (Nat × Nat)} (h : (es.map Prod.fst).Nodup) (s : State) :
    (es.foldl storeSetting s).laneView = { s.laneView with dynMax := (carried es 1).getD s.vt.dynMax } := by
  induction es generalizing s with
  | nil => rfl
  | cons e es ih =>
    obtain ⟨hn, hd⟩ := List.nodup_cons.mp h
    have hv := storeSetting_laneView s e
    have hmax : (storeSetting s e).vt.dynMax = if e.1 = 1 then e.2 else s.vt.dynMax := congrArg LaneView.dynMax hv
    rw [List.foldl_cons, ih hd, hv, hmax]
    by_cases he : e.1 = 1
    · have hc : carried es 1 = none := (carried_eq_none hd 1).mpr fun v hv =>
        hn (List.mem_map.mpr ⟨(1, v), hv, he.symm⟩)
      have hc' : carried (e :: es) 1 = some e.2 := by simp [carried, he]
      simp [hc, hc', he]
    · have hc : carried (e :: es) 1 = carried es 1 := by simp [carried, he]
      simp [hc, he]

/-- R196: an accepted SET_CONFIG keeps both shares. -/
theorem moves_applyConfig {es : List (Nat × Nat)} {s : State} (h : (es.map Prod.fst).Nodup) (hs : ConfigStateOk es s) :
    Moves s (applyConfig es s) := by
  have h1 : Moves s (es.foldl storeSetting s) := by
    cases hc : carried es 1 with
    | none => exact (Moves.refl s).view (by rw [storeSettings_laneView h, hc]; rfl)
    | some v =>
      obtain ⟨hd, hb⟩ := hs v ((carried_eq_some h 1 v).mp hc)
      refine moves_step ?_
      rw [storeSettings_laneView h, hc]
      exact .dynMax s.laneView v hd hb
  unfold applyConfig
  dsimp only
  have h2 : Moves s (if (es.foldl storeSetting s).vt.dynMax = s.vt.dynMax then es.foldl storeSetting s
      else noteRetry (es.foldl storeSetting s)) := by
    split
    · exact h1
    · exact h1.same (noteRetry_table _)
  split
  · next v _ => exact (h2.trans (moves_setAgeLimit v _)).same (by simp)
  · exact h2.same (by simp)

theorem moves_setConfig (es : List (Nat × Nat)) (s : State) : Moves s (setConfig es s).state := by
  obtain ⟨c1, c2, c3, c4⟩ := setConfig_cases es s
  by_cases hf : ConfigFieldsOk es s
  · by_cases hs : ConfigStateOk es s
    · by_cases hi : ConfigIdleOk es s
      · rw [c4 hf hs hi]; exact moves_applyConfig hf.2.2.1 hs
      · rw [c3 hf hs hi]; exact .refl s
    · rw [c2 hf hs]; exact .refl s
  · rw [c1 hf]; exact .refl s

/-! ## RESTART and reset (R25, R26) -/

theorem moves_restartPart (s : State) : Moves s (restartPart s) := by
  have h1 := ((moves_restartJobs s).same (restartEntry_table _)).same (restartBrake_table _)
  have h2 : Moves s (restartRecords (clearPrintHolds (fun _ => true)
      (emptyLane (restartBrake (restartEntry (restartJobs s)))))) :=
    h1.trans (moves_step (.restart _ _))
  unfold restartPart
  exact h2.same (by simp)

theorem moves_resetPart (l : Level) (s : State) : Moves s (resetPart l s) := moves_step (.reset s.laneView)

/-! ## What follows an event, and requests -/

theorem moves_settle (s : State) : Moves s (settle s) := by
  have head : ∀ u, Moves u (settleHead u) := fun u => by
    unfold settleHead
    split
    · exact moves_same (by simp)
    · exact .refl u
  have retry : ∀ u, Moves u (settleRetry u) := fun u => by
    unfold settleRetry
    split
    · exact (moves_retryBinding (u.onWork fun w => { w with retry := false }) :)
    · exact .refl u
  have rematch : ∀ u, Moves u (settleRematch u) := fun u => by
    unfold settleRematch
    split
    · exact (moves_rematchAxle (u.onWork fun w => { w with rematch := false }) :)
    · exact .refl u
  unfold settle
  exact ((((((moves_pumpWrites _ s).trans (head _)).trans (retry _)).trans (head _)).trans (rematch _)).same
    (guardCollection_table _)).same (settleGuidance_table _)

theorem moves_finish {s u t : State} (hf : finish u = .next t) (h : Moves s u) : Moves s t := by
  cases hf
  exact h.trans (moves_settle u)

theorem moves_finishWrites {s t : State} {o : WriteOutcome} (h : finishOut (finishWrite o s) = .next t) :
    Moves s t := by
  cases hw : finishWrite o s with
  | next u => rw [hw] at h; exact moves_finish h (moves_finishWrite hw)
  | fault f => rw [hw] at h; cases h
  | refused r => rw [hw] at h; cases h

/-- R191: a request does to the table what its owner does. -/
theorem moves_answer (i : Instr) (k t : Nat) {op : State → Handled} (s : State) (h : ∀ u, Moves u (op u).state) :
    Moves s (answer i k t op s) := by
  unfold answer
  split
  · have h1 := (moves_same (atOwner_table i s)).trans (h (atOwner i s))
    unfold postAnswer
    split
    · exact h1.same (postReply_table _ _ _ _ _)
    · exact h1
  · exact .refl s

theorem moves_onEdge (f : LineFn) (b : Bool) {k : LaneTime → State → State} (s : State) (h : ∀ t u, Moves u (k t u)) :
    Moves s (onEdge f b k s) := by
  unfold onEdge
  split
  · next t u he => exact (moves_same (takeEdge_table he)).trans (h t u)
  · exact .refl s

theorem moves_onRequest (r : StationRequest) {k : State → State} (s : State) (h : ∀ u, Moves u (k u)) :
    Moves s (onRequest r k s) := by
  unfold onRequest
  split
  · next u hu => exact (moves_same (takeRequest_table hu)).trans (h u)
  · exact .refl s

end Sys2Proof.Machine
end

section
/-! SUPPORT. Every command is a run of the changes of the Vehicle Table that the rules allow, so every step keeps its laws
(R3, R6, R9, R16, R19, R158). -/

namespace Sys2Proof.Machine

/-- An owner that only answers, or that changes neither the Vehicle Table nor the Certificate Unit. -/
theorem moves_answer_same (i : Instr) (k t : Nat) {op : State → Handled} (s : State)
    (h : ∀ u, (op u).state.vt = u.vt ∧ (op u).state.cert = u.cert) : Moves s (answer i k t op s) :=
  moves_answer i k t s fun u => moves_same (h u)

@[simp] theorem refuse_state (st : Status) (s : State) : (refuse st s).state = s := rfl
@[simp] theorem acceptWith_state (b : ReplyBody) (s : State) : (acceptWith b s).state = s := rfl
@[simp] theorem accept_state (s : State) : (accept s).state = s := rfl

/-! ## Owners outside the Vehicle Table -/

theorem getStatus_table (n : Nat) (s : State) : (getStatus n s).state.vt = s.vt ∧ (getStatus n s).state.cert = s.cert := by
  unfold getStatus; split <;> simp

theorem setClock_table (y mo d h mi sec : Nat) (s : State) :
    (setClock y mo d h mi sec s).state.vt = s.vt ∧ (setClock y mo d h mi sec s).state.cert = s.cert := by
  unfold setClock; split <;> simp

theorem setChannels_table (as : List (Nat × Nat)) (s : State) :
    (setChannels as s).state.vt = s.vt ∧ (setChannels as s).state.cert = s.cert := by
  have h : (setChannelTable as s).state.vt = s.vt ∧ (setChannelTable as s).state.cert = s.cert := by
    unfold setChannelTable
    split
    · simp
    split
    · simp
    split
    · simp
    split <;> simp
  unfold setChannels
  dsimp only
  split <;> simp [h]

theorem setLines_table (es : List RawLine) (s : State) :
    (setLines es s).state.vt = s.vt ∧ (setLines es s).state.cert = s.cert := by
  unfold setLines
  split
  · simp
  split
  · simp
  dsimp only
  split
  · simp
  split <;> simp

theorem loadProgram_table (p u : Nat) (c : Option RawProgram) (s : State) :
    (loadProgram p u c s).state.vt = s.vt ∧ (loadProgram p u c s).state.cert = s.cert := by
  unfold loadProgram
  split
  · simp
  split
  · split <;> simp
  · split
    · simp
    split
    · simp
    split <;> simp
  · simp

theorem setLive_table (n d : Nat) (s : State) : (setLive n d s).state.vt = s.vt ∧ (setLive n d s).state.cert = s.cert := by
  unfold setLive
  split
  · simp
  split <;> simp

theorem traceList_table (n f : Nat) (s : State) :
    (traceList n f s).state.vt = s.vt ∧ (traceList n f s).state.cert = s.cert := by
  unfold traceList; dsimp only; split <;> simp

theorem traceRead_table (i f n : Nat) (s : State) :
    (traceRead i f n s).state.vt = s.vt ∧ (traceRead i f n s).state.cert = s.cert := by
  unfold traceRead
  split
  · simp
  split
  · simp
  split
  · simp
  split <;> simp

theorem traceRelease_table (i : Nat) (s : State) :
    (traceRelease i s).state.vt = s.vt ∧ (traceRelease i s).state.cert = s.cert := by
  unfold traceRelease
  split
  · simp
  split
  · simp
  split <;> simp

theorem setPartitions_table (b e : Nat) (s : State) :
    (setPartitions b e s).state.vt = s.vt ∧ (setPartitions b e s).state.cert = s.cert := by
  unfold setPartitions
  split
  · simp
  split <;> simp

theorem certList_table (s : State) : (certList s).state.vt = s.vt ∧ (certList s).state.cert = s.cert := by
  unfold certList; split <;> simp

/-- R178: what an owner does once the store is loaded is all that it does. -/
theorem whenLoaded_table {h : Handled} {s : State} (hh : h.state.vt = s.vt ∧ h.state.cert = s.cert) :
    (whenLoaded s h).state.vt = s.vt ∧ (whenLoaded s h).state.cert = s.cert := by
  unfold whenLoaded
  split
  · simp
  · exact hh

theorem calRead_table (n : Nat) (c : Option Nat) (s : State) :
    (calRead n c s).state.vt = s.vt ∧ (calRead n c s).state.cert = s.cert := by
  refine whenLoaded_table ?_
  split
  · simp
  · simp
  · simp
  · split <;> simp
  · simp

theorem calWrite_table (n : Nat) (c : Option Nat) (r : RawCal) (s : State) :
    (calWrite n c r s).state.vt = s.vt ∧ (calWrite n c r s).state.cert = s.cert := by
  refine whenLoaded_table ?_
  split
  · split
    · simp
    split <;> simp
  · split
    · simp
    split <;> simp
  · simp

theorem beginCollection_table (n t : Nat) (k : CollectionKind) (s : State) :
    (beginCollection n t k s).state.vt = s.vt ∧ (beginCollection n t k s).state.cert = s.cert := by
  unfold beginCollection; split <;> simp

theorem calZero_table (t n : Nat) (s : State) :
    (calZero t n s).state.vt = s.vt ∧ (calZero t n s).state.cert = s.cert := by
  refine whenLoaded_table ?_
  split
  · simp
  · exact beginCollection_table _ _ _ s

theorem calSpan_table (t n r : Nat) (s : State) :
    (calSpan t n r s).state.vt = s.vt ∧ (calSpan t n r s).state.cert = s.cert := by
  refine whenLoaded_table ?_
  split
  · simp
  split
  · simp
  · exact beginCollection_table _ _ _ s

theorem setCounter_table (v : Nat) (s : State) :
    (setCounter v s).state.vt = s.vt ∧ (setCounter v s).state.cert = s.cert := by
  refine whenLoaded_table ?_
  split
  · simp
  split
  · simp
  split <;> simp

/-! ## Every command -/

/-- A command whose own effect the laws do not read. -/
theorem moves_finish_frame {s u t : State} (hf : finish u = .next t) (e : u.laneView = s.laneView) : Moves s t :=
  moves_finish hf ((Moves.refl s).view e)

/-- Every command does to the Vehicle Table and the jobs what some rule allows. -/
theorem exec_moves (i : Instr) (s t : State) (h : exec i s = .next t) : Moves s t := by
  cases i <;> dsimp only [exec] at h
  case powerOn l => cases h; exact moves_resetPart l s
  case resetLine l => cases h; exact moves_resetPart l s
  case autoloadEnd l => exact moves_finish h (moves_same (endAutoload_table l s))
  case laneTimeTick => exact moves_finish_frame h rfl
  case clockReferenceAdvance => exact moves_finish_frame h rfl
  case conversion vs => exact moves_finish h (moves_same (takeConversion_table vs s))
  case pulseEdge p => exact moves_finish_frame h rfl
  case windowEnd =>
    refine moves_finish h (moves_same ?_)
    split <;> simp
  case lineSample l => exact moves_finish h (moves_same (takeLineSample_table l s))
  case entryBarrierActive => exact moves_finish h (moves_onEdge _ _ s fun _ => moves_barrierActive)
  case entryBarrierInactive => exact moves_finish h (moves_onEdge _ _ s fun _ u => moves_same (barrierInactive_table u))
  case slipPlateSwitchActive => exact moves_finish h (moves_onEdge _ _ s fun _ u => moves_same (plateActive_table u))
  case slipPlateSwitchInactive => exact moves_finish h (moves_onEdge _ _ s fun _ u => moves_same (plateInactive_table u))
  case exitBarrierBroken => exact moves_finish h (moves_onEdge _ _ s fun _ u => .refl u)
  case exitBarrierClear => exact moves_finish h (moves_onEdge _ _ s fun _ => moves_exitCleared)
  case wheelActive w => exact moves_finish h (moves_onEdge _ _ s fun t u => moves_same (wheelCame_table w t u))
  case wheelInactive w => exact moves_finish h (moves_onEdge _ _ s (moves_wheelWent w))
  case driveReadyActive w => exact moves_finish h (moves_onEdge _ _ s fun _ u => moves_same (driveCame_table u))
  case driveReadyInactive w => exact moves_finish h (moves_onEdge _ _ s fun _ => moves_driveWent)
  case estopActive => exact moves_finish h (moves_onEdge _ _ s fun _ => moves_enterFault .estop)
  case estopInactive => exact moves_finish h (moves_onEdge _ _ s fun _ => .refl)
  case ageExpiry k => exact moves_finish h (moves_expireAge k s)
  case entryWindowEnd =>
    refine moves_finish h ?_
    unfold takeEntryWindow
    split
    · exact .refl s
    · next d rest _ => exact (moves_entryWindow d (s.onSig fun g => { g with entryInbox := rest }) :)
  case settleExpiry => exact moves_finish h (moves_settleExpired s)
  case quietExpiry => exact moves_finish h (moves_quietExpired s)
  case brakeWindowEnd =>
    refine moves_finish h ?_
    unfold takeBrakeWindow
    split
    · exact .refl s
    · next d rest _ => exact (moves_brakeWindow d (s.onSig fun g => { g with brakeInbox := rest }) :)
  case presenceExpiry => exact moves_finish h (moves_presenceExpired s)
  case spinUpExpiry => exact moves_finish h (moves_spinUpExpired s)
  case brakingExpiry => exact moves_finish h (moves_same (brakingExpired_table s))
  case stopExpiry => exact moves_finish h (moves_stopExpired s)
  case clearExpiry => exact moves_finish h (moves_same (clearExpired_table s))
  case markParking => exact moves_finish h (moves_onRequest _ s moves_markParking)
  case endAxle => exact moves_finish h (moves_onRequest _ s fun u => moves_same (endAxle_table u))
  case guidanceSkipAxle => exact moves_finish h (moves_onRequest _ s moves_guidanceSkip)
  case guidanceReleaseVehicle => exact moves_finish h (moves_onRequest _ s moves_guidanceRelease)
  case pedalByte b ok n => exact moves_finish_frame h rfl
  case pedalFrame b => exact moves_finish h (moves_same (takePedalFrame_table b s))
  case pedalSilenceExpiry => exact moves_finish h (moves_same (pedalSilent_table s))
  case stepTimeout st => exact moves_finish h (moves_same (stepTimedOut_table st s))
  case showRefresh st => exact moves_finish h (moves_same (refreshShow_table st s))
  case promptTransmitBegin => exact moves_finish h (moves_same (beginPrompt_table s))
  case promptTransmitEnd => exact moves_finish h (moves_same (endPrompt_table s))
  case printerByte b ok =>
    exact moves_finish_frame h
      (congrArg (fun q : List Job => LaneView.mk _ _ _ _ (q.map Job.slot)) (takeByte_queue s.cert b ok s.now))
  case hello w => exact moves_finish h (moves_takePrinter s fun _ => moves_takeHello w)
  case status c => exact moves_finish h (moves_takePrinter s (moves_takeStatus c))
  case credit n => exact moves_finish h (moves_takePrinter s fun _ => moves_takeCredit n)
  case printerSilenceExpiry => exact moves_finish h (moves_printerSilent s)
  case printerTransmitBegin => exact moves_finish h (moves_beginPrinter s)
  case printerTransmitEnd => exact moves_finish_frame h rfl
  case eepromWriteEnd a => exact moves_finishWrites h
  case eepromAckTimeout =>
    unfold execEepromAckTimeout at h
    split at h
    · exact moves_finishWrites h
    · exact moves_finish_frame h rfl
  case ctsChange a => exact moves_finish_frame h rfl
  case hostByte b ok => exact moves_finish_frame h rfl
  case hostFrameReceived k tag p => exact moves_finish h (moves_same (takeHostFrame_table _ s))
  case requestTaken => exact moves_finish h (moves_same (takeRequestFrame_table s))
  case hostTransmitBegin => exact moves_finish_frame h rfl
  case hostTransmitEnd => exact moves_finish_frame h rfl
  case getStatus tag n => exact moves_finish h (moves_answer_same _ _ _ s (getStatus_table n))
  case restart tag => exact moves_finish h (moves_answer _ _ _ s moves_restartPart)
  case setClock tag y mo d hh mi sec => exact moves_finish h (moves_answer_same _ _ _ s (setClock_table y mo d hh mi sec))
  case setConfig tag es => exact moves_finish h (moves_answer _ _ _ s (moves_setConfig es))
  case getConfig tag => exact moves_finish h (moves_answer _ _ _ s .refl)
  case setChannels tag as => exact moves_finish h (moves_answer_same _ _ _ s (setChannels_table as))
  case setLines tag es => exact moves_finish h (moves_answer_same _ _ _ s (setLines_table es))
  case loadClass tag c l f => exact moves_finish h (moves_answer _ _ _ s (moves_loadClass c l f))
  case loadProgram tag p u c => exact moves_finish h (moves_answer_same _ _ _ s (loadProgram_table p u c))
  case bookVehicle tag id c e pk => exact moves_finish h (moves_answer _ _ _ s (moves_bookVehicle id c e pk))
  case armVehicle tag k => exact moves_finish h (moves_answer _ _ _ s (moves_armVehicle k))
  case bindVehicle tag k id c => exact moves_finish h (moves_answer _ _ _ s (moves_bindVehicle k id c))
  case discardVehicle tag k => exact moves_finish h (moves_answer _ _ _ s (moves_discardVehicle k))
  case getVehicle tag k => exact moves_finish h (moves_answer _ _ _ s (moves_getVehicle k))
  case listLane tag => exact moves_finish h (moves_answer _ _ _ s .refl)
  case skipAxle tag => exact moves_finish h (moves_answer _ _ _ s moves_hostSkip)
  case releaseVehicle tag => exact moves_finish h (moves_answer _ _ _ s moves_hostRelease)
  case ackFault tag => exact moves_finish h (moves_answer _ _ _ s moves_ackFault)
  case setLive tag n d => exact moves_finish h (moves_answer_same _ _ _ s (setLive_table n d))
  case traceList tag n f => exact moves_finish h (moves_answer_same _ _ _ s (traceList_table n f))
  case traceRead tag i f n => exact moves_finish h (moves_answer_same _ _ _ s (traceRead_table i f n))
  case traceRelease tag i => exact moves_finish h (moves_answer_same _ _ _ s (traceRelease_table i))
  case setPartitions tag b e => exact moves_finish h (moves_answer_same _ _ _ s (setPartitions_table b e))
  case certQueue tag k hs => exact moves_finish h (moves_answer _ _ _ s (moves_certQueue k hs))
  case certAbort tag k => exact moves_finish h (moves_answer _ _ _ s (moves_certAbort k))
  case certList tag => exact moves_finish h (moves_answer_same _ _ _ s certList_table)
  case calRead tag n c => exact moves_finish h (moves_answer_same _ _ _ s (calRead_table n c))
  case calWrite tag n c r => exact moves_finish h (moves_answer_same _ _ _ s (calWrite_table n c r))
  case calZero tag n => exact moves_finish h (moves_answer_same _ _ _ s (calZero_table tag n))
  case calSpan tag n r => exact moves_finish h (moves_answer_same _ _ _ s (calSpan_table tag n r))
  case setCounter tag v => exact moves_finish h (moves_answer_same _ _ _ s (setCounter_table v))

theorem step_moves (s t : State) (h : step s = .next t) : Moves s t := by
  unfold step at h
  split at h
  · cases h; exact .refl s
  · next c rest _ => exact (exec_moves c _ t h : Moves { s with pending := rest } t)

/-- Settles O57: a step is a run of allowed changes, each of which keeps every list within 12. -/
theorem everyStepKeepsTheAxleLaw : Obligations.EveryStepKeepsTheAxleLaw :=
  fun s t hs h => (step_moves s t h).axleLaw hs

/-- Settles O58: a step is a run of allowed changes, each of which keeps the queue, the jobs and the shares. -/
theorem everyStepKeepsTheLaneAndTheJobs : Obligations.EveryStepKeepsTheLaneAndTheJobs := by
  intro s t hl hj h
  have hm := step_moves s t h
  obtain ⟨hl', hj'⟩ := hm.laneLaw_jobLaw ⟨hl, hj⟩
  exact ⟨hl', hj', hm.shareLaw ⟨hl, hj⟩⟩

end Sys2Proof.Machine
end

section
/-! SUPPORT. Reset (R25, R182), and a request whose owner answers on a part at rest (R191): GET_VEHICLE, LOAD_CLASS and
BOOK_VEHICLE. -/

namespace Sys2Proof.Machine

/-! ## Reset -/

/-- Settles O2: every list of the reset state is empty or free. -/
theorem resetMeetsTheLaws : Obligations.ResetMeetsTheLaws := by
  obtain ⟨hl, hj⟩ := (laneLaw_jobLaw_iff _).mpr lawful_reset
  refine ⟨⟨rfl, .inr rfl, fun c hc => (by cases hc)⟩, fun h => ?_, Nat.le_refl 0, (axleLaw_iff _).mpr axlesOk_reset, hj,
    hl, shared_reset, ?_, rfl⟩
  · rcases h with h | h <;> cases h
  · exact ⟨by decide, by decide, by decide, List.nodup_nil, by decide⟩

theorem StoredValues.page_length (v : StoredValues) : v.page.length = 32 := by
  simp [StoredValues.page, padded]

/-- R182: what a write that did not succeed leaves is a whole page. -/
theorem failedPage_length (n : Nat) (w : PageWrite) (m : Eeprom) : (failedPage n w m).length = 32 := by
  rcases failedPage_cases n w m with h | h | h <;> rw [h]
  · exact w.values.page_length
  · exact tornPage_length n
  · simp [Eeprom.page]

/-- R182: without a write in progress a reset leaves the EEPROM alone. -/
theorem tornByReset_idle {s : State} (h : s.cal.writing = none) : tornByReset s = s := by
  unfold tornByReset; rw [h]

theorem tornByReset_writing {s : State} {w : PageWrite} {m : Eeprom} (h : s.cal.writing = some w)
    (hm : s.eeprom.writePage w.page (failedPage s.torn w s.eeprom) = some m) :
    tornByReset s = (s.setEeprom m).setTorn (s.torn + 1) := by
  unfold tornByReset; simp only [h, hm]

/-- Settles O3: without a write the EEPROM stays, with one its page holds what the failed write left. -/
theorem powerOnAndResetLineGiveTheResetState : Obligations.PowerOnAndResetLineGiveTheResetState := by
  intro strap s
  refine ⟨fun hw => ?_, fun w hw hp hwf => ?_, rfl⟩
  · have : exec (.powerOn strap) s = .next (resetPart strap s) := rfl
    rw [this]
    unfold resetPart
    rw [tornByReset_idle hw]
  · have hm : s.eeprom.writePage w.page (failedPage s.torn w s.eeprom)
        = some (s.eeprom.writeList (32 * w.page) ((failedPage s.torn w s.eeprom).take 32)) := if_pos hp
    obtain ⟨-, hform, hread⟩ := Eeprom.writePage_spec hwf hm
    have hlen : ((failedPage s.torn w s.eeprom).take 32).length = 32 := by simp [failedPage_length]
    have ht : tornByReset s = _ := tornByReset_writing hw hm
    refine ⟨resetPart strap s, rfl, ?_, ?_, ?_, tornPage_check _, fun a ha => ?_⟩
    · unfold resetPart; rw [ht]; rfl
    · unfold resetPart; rw [ht]; exact hform
    · unfold resetPart; rw [ht]
      exact Eeprom.page_writePage hwf (failedPage_length _ _ _) hm
    · unfold resetPart; rw [ht]
      exact (hread a).trans (if_neg (by rw [hlen]; omega))

/-! ## Requests answered on a part at rest -/

@[simp] theorem atOwner_record (i : Instr) (s : State) (k : Nat) : (atOwner i s).record k = s.record k := by
  unfold State.record; rw [(atOwner_table i s).1]

@[simp] theorem atOwner_now (i : Instr) (s : State) : (atOwner i s).time = s.time := by rw [atOwner_eq]
@[simp] theorem atOwner_entry (i : Instr) (s : State) : (atOwner i s).entry = s.entry := by rw [atOwner_eq]
@[simp] theorem atOwner_brake (i : Instr) (s : State) : (atOwner i s).brake = s.brake := by rw [atOwner_eq]

/-- What an owner does to the Vehicle Table does not touch the Host Port. -/
theorem atOwner_onVt (i : Instr) (f : VehicleTable → VehicleTable) (s : State) :
    (atOwner i s).onVt f = atOwner i (s.onVt f) := by
  unfold atOwner
  rw [State.onVt_port]
  by_cases h : s.port.handed.contains i = true
  · rw [if_pos h, if_pos h]; rfl
  · rw [if_neg h, if_neg h]

/-- R191: on a part at rest an owner that changes no more than the Vehicle Table leaves that change and its reply. -/
theorem answer_onVt {i : Instr} {k t : Nat} {op : State → Handled} {s : State} {st : Status} {b : ReplyBody}
    {f : VehicleTable → VehicleTable} (hc : Calm s) (hr : reachesOwner i s = true)
    (ho : op (atOwner i s) = { reply := some (st, b), state := (atOwner i s).onVt f }) :
    finish (answer i k t op s) = .next (replyWith i k t st b (s.onVt f)) := by
  have hca : Calm ((atOwner i s).onVt f) := Calm.of_eq (calm_atOwner i s hc) rfl rfl rfl rfl rfl
  rw [answer_next i k t op s st b _ hr ho hca, atOwner_onVt]
  rfl

/-- R191: a request that is refused, or that only reports, leaves nothing but its reply. -/
theorem answer_unchanged {i : Instr} {k t : Nat} {op : State → Handled} {s : State} {st : Status} {b : ReplyBody}
    (hc : Calm s) (hr : reachesOwner i s = true)
    (ho : op (atOwner i s) = { reply := some (st, b), state := atOwner i s }) :
    finish (answer i k t op s) = .next (replyWith i k t st b s) :=
  answer_next i k t op s st b _ hr ho (calm_atOwner i s hc)

/-- R7: the checks of a named slot, by the slot and its record. -/
theorem slotRefusal_badField {k : Nat} {s : State} (h : 31 < k) : slotRefusal k s = some .badField := by
  simp [slotRefusal, h]

theorem slotRefusal_noSuch {k : Nat} {s : State} (h : k ≤ 31) (hs : (s.record k).state = .free) :
    slotRefusal k s = some .noSuch := by simp [slotRefusal, hs, Nat.not_lt.mpr h]

theorem slotRefusal_none {k : Nat} {s : State} (h : k ≤ 31) (hs : (s.record k).state ≠ .free) :
    slotRefusal k s = none := by simp [slotRefusal, hs, Nat.not_lt.mpr h]

theorem withSlot_refused {k : Nat} {s : State} {f : Record → Handled} {st : Status} (h : slotRefusal k s = some st) :
    withSlot k s f = refuse st s := by unfold withSlot; rw [h]

theorem withSlot_held {k : Nat} {s : State} {f : Record → Handled} (h : k ≤ 31) (hs : (s.record k).state ≠ .free) :
    withSlot k s f = f (s.record k) := by unfold withSlot; rw [slotRefusal_none h hs]

/-- A record in use lies in the table. -/
theorem lt_of_inUse {s : State} {k : Nat} (h : (s.record k).state ≠ .free) : k < s.vt.records.length :=
  LaneView.lt_of_state (v := s.laneView) h

/-- Settles O14: the slot's checks, then the record renewed and reported. -/
theorem getVehicleRenewsTheRecord : Obligations.GetVehicleRenewsTheRecord := by
  intro tag slot s hc hr
  refine ⟨fun h => ?_, fun h hf => ?_, fun h hf => ?_⟩
  · exact answer_unchanged hc hr (withSlot_refused (slotRefusal_badField h))
  · exact answer_unchanged hc hr (withSlot_refused (slotRefusal_noSuch h (by simpa using hf)))
  · refine answer_onVt hc hr ?_
    have hrec : (writeRec slot id (atOwner (.getVehicle tag slot) s)).record slot
        = { s.record slot with lastActivity := s.time.now } := by
      rw [record_writeRec, if_pos ⟨rfl, by rw [(atOwner_table _ s).1]; exact lt_of_inUse hf⟩]
      simp
    unfold getVehicle
    rw [withSlot_held h (by simpa using hf)]
    dsimp only
    rw [hrec]
    have hnow : (atOwner (.getVehicle tag slot) s).now = s.now := congrArg TimeBase.now (atOwner_now _ s)
    unfold acceptWith writeRec modRec
    rw [hnow]
    rfl

/-! ## LOAD_CLASS (R24) -/

/-- R24: what LOAD_CLASS refuses with BAD_FIELD. -/
theorem loadedClass_none {l : Nat} {f : Option RawClass}
    (h : ¬ ((l = 0 ∧ f = none) ∨ ∃ r, l = 1 ∧ f = some r ∧ ClassInRange r)) : loadedClass l f = none := by
  unfold loadedClass
  split
  · exact absurd (.inl ⟨rfl, rfl⟩) h
  · next c =>
    cases hc : classOf c with
    | none => rfl
    | some e => exact absurd (.inr ⟨c, rfl, rfl, ((classOf_eq_some c e).mp hc).1⟩) h
  · rfl

/-- Settles O20: the table of classes changes by the entry that the fields spell. -/
theorem loadClassReplacesTheEntry : Obligations.LoadClassReplacesTheEntry := by
  intro tag c l f s hc hr
  have loaded : ∀ e, c ≤ 7 → loadedClass l f = some e → exec (.loadClass tag c l f) s =
      .next { replyWith (.loadClass tag c l f) 0x08 tag .ok .none s with
        vt := { s.vt with classes := s.vt.classes.set c e } } := by
    intro e hcls he
    refine (answer_onVt (st := .ok) (b := .none) (f := fun v => { v with classes := v.classes.set c e }) hc hr ?_).trans ?_
    · unfold loadClass
      rw [if_neg (by omega), he]
      rfl
    · rw [replyWith, ← atOwner_onVt]
      simp only [replyWith, postReply, State.onPort, State.onVt, (atOwner_table _ s).1]
  refine ⟨fun r hcls hl hf hin => loaded _ hcls ?_, fun hcls hl hf => loaded _ hcls ?_, fun hbad => ?_⟩
  · rw [hl, hf]
    exact congrArg (Option.map some) ((classOf_eq_some r _).mpr ⟨hin, rfl⟩)
  · rw [hl, hf]; rfl
  · refine answer_unchanged hc hr ?_
    unfold loadClass
    split
    · rfl
    · next hcls =>
      rw [loadedClass_none (hbad.resolve_left hcls)]
      rfl

/-! ## BOOK_VEHICLE (R8) -/

theorem idOk_iff (t : Text) : idOk t = true ↔ 1 ≤ t.length ∧ t.length ≤ 16 ∧ ∀ x ∈ t, 32 ≤ x ∧ x ≤ 126 := by
  simp [idOk, printable_iff, and_assoc]

/-- R8: the fields of BOOK_VEHICLE are in their ranges. -/
theorem bookingOk_iff (id : Text) (c : Nat) (e : Option Nat) (pk : List Nat) : bookingOk id c e pk = true ↔
    1 ≤ id.length ∧ id.length ≤ 16 ∧ (∀ x ∈ id, 32 ≤ x ∧ x ≤ 126) ∧ c ≤ 7 ∧ (∀ n, e = some n → 1 ≤ n ∧ n ≤ 12)
      ∧ ∀ n ∈ pk, 1 ≤ n ∧ n ≤ 12 ∧ ∀ m, e = some m → n ≤ m := by
  unfold bookingOk
  simp only [Bool.and_eq_true, idOk_iff, decide_eq_true_eq, List.all_eq_true, Option.all_eq_true, and_assoc]

/-- R8: an id is taken when a record in use holds it. -/
theorem idTaken_iff (id : Text) (s : State) :
    idTaken id none s = true ↔ ∃ r ∈ s.vt.records, r.state ≠ .free ∧ r.id = id := by
  simp only [idTaken, List.any_eq_true, Bool.and_eq_true, bne_iff_ne, beq_iff_eq, Prod.exists,
    List.mem_zipIdx_iff_getElem?]
  constructor
  · rintro ⟨r, k, hk, ⟨h1, h2⟩, -⟩
    exact ⟨r, List.mem_of_getElem? hk, h1, h2⟩
  · rintro ⟨r, hr, h1, h2⟩
    obtain ⟨k, hk⟩ := List.mem_iff_getElem?.mp hr
    exact ⟨r, k, hk, ⟨h1, h2⟩, by simp⟩

/-- R6: every record in use is booked or dynamic. -/
theorem counts_add (s : State) :
    bookedCount s + dynamicCount s = s.vt.records.countP (fun r => r.state != .free) := by
  unfold bookedCount dynamicCount
  induction s.vt.records with
  | nil => rfl
  | cons r l ih =>
    have ho : r.origin = .booked ∨ r.origin = .dynamic := by cases r.origin <;> simp
    simp only [List.countP_cons]
    rcases ho with ho | ho <;> cases hs : r.state != .free <;> simp [ho] <;> omega

/-- R6: while the booked share has room under the law of R6, a slot is FREE. -/
theorem freeSlot_exists {s : State} (hlen : s.vt.records.length = 32) (hs : ShareLaw s)
    (hb : bookedCount s < 32 - s.vt.dynMax) : ∃ k, freeSlot s = some k := by
  unfold freeSlot
  by_contra hn
  have hall : ∀ r ∈ s.vt.records, (r.state != .free) = true := by
    have := Option.eq_none_iff_forall_ne_some.mpr (fun k hk => hn ⟨k, hk⟩)
    simpa [List.findIdx?_eq_none_iff] using this
  have hc := counts_add s
  rw [List.countP_eq_length.mpr hall, hlen] at hc
  have := hs.1
  omega

/-- R8: the slot found is the lowest FREE one. -/
theorem freeSlot_lowest {s : State} {k : Nat} (h : freeSlot s = some k) :
    (s.record k).state = .free ∧ ∀ j, j < k → (s.record j).state ≠ .free := by
  refine ⟨(LaneView.freeSlot_spec (v := s.laneView) h).2, fun j hj hf => ?_⟩
  obtain ⟨hk, -, hlow⟩ := List.findIdx?_eq_some_iff_getElem.mp h
  have := hlow j hj
  simp only [State.record, List.getD_eq_getElem?_getD, List.getElem?_eq_getElem (hj.trans hk), Option.getD_some] at hf
  simp [hf] at this

theorem atOwner_idTaken (i : Instr) (s : State) (id : Text) (o : Option Nat) :
    idTaken id o (atOwner i s) = idTaken id o s := by unfold idTaken; rw [(atOwner_table i s).1]

theorem atOwner_bookedCount (i : Instr) (s : State) : bookedCount (atOwner i s) = bookedCount s := by
  unfold bookedCount; rw [(atOwner_table i s).1]

theorem atOwner_freeSlot (i : Instr) (s : State) : freeSlot (atOwner i s) = freeSlot s := by
  unfold freeSlot; rw [(atOwner_table i s).1]

/-- Settles O22: the checks in their order, and the lowest FREE slot. -/
theorem bookVehicleTakesTheLowestFreeSlot : Obligations.BookVehicleTakesTheLowestFreeSlot := by
  intro tag id c e pk s hc hr
  have hd : (atOwner (.bookVehicle tag id c e pk) s).vt.dynMax = s.vt.dynMax := by rw [(atOwner_table _ s).1]
  refine ⟨bookingOk_iff id c e pk, idTaken_iff id s, freeSlot_exists, fun k => freeSlot_lowest, fun hbad => ?_,
    fun hok hid => ?_, fun hok hid hb => ?_, fun k hok hid hb hk => ?_⟩
  · refine answer_unchanged hc hr ?_
    unfold bookVehicle
    simp [hbad, refuse]
  · refine answer_unchanged hc hr ?_
    unfold bookVehicle
    simp [hok, atOwner_idTaken, hid, refuse]
  · refine answer_unchanged hc hr ?_
    unfold bookVehicle
    rw [atOwner_idTaken, atOwner_bookedCount, hd, if_pos hb, hid, hok]
    rfl
  · refine answer_onVt hc hr ?_
    unfold bookVehicle
    rw [atOwner_idTaken, atOwner_bookedCount, hd, hid, hok, if_neg (Nat.not_le.mpr hb), atOwner_freeSlot, hk]
    have hnow : (atOwner (.bookVehicle tag id c e pk) s).now = s.time.now := congrArg TimeBase.now (atOwner_now _ s)
    simp only [hnow]
    rfl

end Sys2Proof.Machine
end

section
/-! SUPPORT. What follows an event's own effect (R12, R65, R67, R181), where no write waits that could begin: stage by
stage, and what Guidance and a collection leave alone. -/

namespace Sys2Proof.Machine

/-! ## The brake station's own changes -/

/-- The brake station, the outputs, the Host Port and the results for Guidance may differ. -/
def BrakeOnly (s t : State) : Prop :=
  ∃ b o p l, t = { s with brake := b, sig := { s.sig with outputs := o }, port := p, work := { s.work with items := l } }

theorem BrakeOnly.refl (s : State) : BrakeOnly s s := ⟨s.brake, s.sig.outputs, s.port, s.work.items, rfl⟩

theorem BrakeOnly.trans {s t u : State} (h : BrakeOnly s t) (h' : BrakeOnly t u) : BrakeOnly s u := by
  obtain ⟨b, o, p, l, rfl⟩ := h
  obtain ⟨b', o', p', l', rfl⟩ := h'
  exact ⟨b', o', p', l', rfl⟩

theorem brakeOnly_onBrake (f : BrakeStation → BrakeStation) (s : State) : BrakeOnly s (s.onBrake f) :=
  ⟨f s.brake, s.sig.outputs, s.port, s.work.items, rfl⟩

theorem brakeOnly_sendNotice (n : Notice) (s : State) : BrakeOnly s (sendNotice n s) :=
  ⟨s.brake, s.sig.outputs, (sendNotice n s).port, s.work.items, rfl⟩

theorem brakeOnly_hand (i : GuideItem) (s : State) : BrakeOnly s (hand i s) :=
  ⟨s.brake, s.sig.outputs, s.port, (hand i s).work.items, rfl⟩

theorem brakeOnly_handVehicle (st : Station) (v : Option Nat) (s : State) : BrakeOnly s (handVehicle st v s) :=
  ⟨s.brake, s.sig.outputs, s.port, (handVehicle st v s).work.items, rfl⟩

theorem brakeOnly_enterState (st : BrakeState) (s : State) : BrakeOnly s (enterState st s) := by
  unfold enterState
  dsimp only
  split
  · exact brakeOnly_onBrake _ s
  · exact (brakeOnly_onBrake _ s).trans (brakeOnly_sendNotice _ _)

theorem brakeOnly_setVehicle (v : Option Nat) (s : State) : BrakeOnly s (setVehicle v s) := by
  unfold setVehicle
  split
  · exact .refl s
  · exact (brakeOnly_onBrake _ s).trans (brakeOnly_handVehicle _ _ _)

theorem brakeOnly_enterIdle (s : State) : BrakeOnly s (enterIdle s) :=
  (((brakeOnly_setVehicle none s).trans (brakeOnly_onBrake _ _)).trans (brakeOnly_enterState _ _)).trans
    (brakeOnly_hand _ _)

theorem brakeOnly_enterWaitWheels (s : State) : BrakeOnly s (enterWaitWheels s) := by
  have h := fun p => ((brakeOnly_setVehicle s.vt.queue.head? s).trans
    (brakeOnly_onBrake (fun b => { b with axle := none, presence := p }) _)).trans (brakeOnly_enterState .waitWheels _)
  unfold enterWaitWheels
  dsimp only
  split
  · exact (h _).trans (brakeOnly_hand _ _)
  · exact h _

theorem brakeOnly_takeHead (s : State) : BrakeOnly s (takeHead s) := by
  unfold takeHead
  split
  · exact brakeOnly_enterIdle s
  · exact brakeOnly_enterWaitWheels s

theorem brakeOnly_enterWaitClear (s : State) : BrakeOnly s (enterWaitClear s) :=
  (brakeOnly_onBrake _ s).trans (brakeOnly_enterState _ _)

theorem brakeOnly_dropAxle (s : State) : BrakeOnly s (dropAxle s) := brakeOnly_onBrake _ s

/-- R65: a change of head concerns the brake station alone. -/
theorem brakeOnly_headChanged (s : State) : BrakeOnly s (headChanged s) := by
  have hd := (brakeOnly_onBrake (fun b => { b with presence := none }) s).trans (brakeOnly_dropAxle _)
  unfold headChanged
  split
  · split
    · exact .refl s
    · exact brakeOnly_takeHead s
  · dsimp only
    split
    · exact hd.trans (brakeOnly_enterWaitClear _)
    · exact hd.trans (brakeOnly_takeHead _)
  · dsimp only
    split
    · exact hd.trans (brakeOnly_enterWaitClear _)
    · exact hd.trans (brakeOnly_takeHead _)
  case h_10 => exact brakeOnly_dropAxle s
  case h_11 => exact (brakeOnly_dropAxle s).trans (brakeOnly_setVehicle _ _)
  all_goals exact .refl s

/-! ## What Guidance and a collection leave of the two stations -/

@[simp] theorem guardCollection_stations (s : State) :
    (guardCollection s).entry = s.entry ∧ (guardCollection s).brake = s.brake := by
  unfold guardCollection
  split
  · exact ⟨rfl, rfl⟩
  · split <;> exact ⟨rfl, rfl⟩

theorem stations_of_eq {s t u : State} (h : t = u) (he : u.entry = s.entry) (hb : u.brake = s.brake) :
    t.entry = s.entry ∧ t.brake = s.brake := by rw [h]; exact ⟨he, hb⟩

@[simp] theorem enter_stations (st : Station) (n : Option Nat) (s : State) :
    (enter st n s).entry = s.entry ∧ (enter st n s).brake = s.brake :=
  stations_of_eq (enter_eq st n s) rfl rfl

@[simp] theorem modGuide_stations (st : Station) (f : StationGuide → StationGuide) (s : State) :
    (modGuide st f s).entry = s.entry ∧ (modGuide st f s).brake = s.brake := ⟨rfl, rfl⟩

@[simp] theorem runProgram_stations (st : Station) (p : Nat) (s : State) :
    (runProgram st p s).entry = s.entry ∧ (runProgram st p s).brake = s.brake := by simp [runProgram]

@[simp] theorem raiseFlag_stations (e : GEvent) (s : State) :
    (raiseFlag e s).entry = s.entry ∧ (raiseFlag e s).brake = s.brake := by
  unfold raiseFlag
  dsimp only
  split
  · exact ⟨rfl, rfl⟩
  · split <;> [skip; split] <;> simp

@[simp] theorem takeItem_stations (s : State) (i : GuideItem) :
    (takeItem s i).entry = s.entry ∧ (takeItem s i).brake = s.brake := by
  cases i with
  | vehicle st v => simp [takeItem, selectProgram]
  | event e => unfold takeItem takeEvent moveToEntry; dsimp only; split <;> simp
  | brakeSample =>
    unfold takeItem compareSample
    dsimp only
    split
    · exact ⟨rfl, rfl⟩
    · split <;> simp

@[simp] theorem settleGuidance_stations (s : State) :
    (settleGuidance s).entry = s.entry ∧ (settleGuidance s).brake = s.brake := by
  have hf : ∀ (l : List GuideItem) (u : State),
      (l.foldl takeItem u).entry = u.entry ∧ (l.foldl takeItem u).brake = u.brake := by
    intro l
    induction l with
    | nil => exact fun u => ⟨rfl, rfl⟩
    | cons i l ih => exact fun u => ⟨(ih _).1.trans (by simp), (ih _).2.trans (by simp)⟩
  exact hf _ _

/-! ## The stages -/

/-- R181: no write waits that could begin. -/
def WritesRest (s : State) : Prop := s.cal.writing.isSome ∨ s.cal.queue = []

theorem Calm.writesRest {s : State} (h : Calm s) : WritesRest s := h.2.1

theorem settleWrites_rest {s : State} (h : WritesRest s) : settleWrites s = s := pumpWrites_rest _ s h

theorem settleHead_still {s : State} (h : s.work.headMoved = false) : settleHead s = s := by
  unfold settleHead; rw [h]; rfl

theorem settleHead_brakeOnly (s : State) : ∃ b o p w,
    settleHead s = { s with brake := b, sig := { s.sig with outputs := o }, port := p, work := w }
    ∧ w.retry = s.work.retry ∧ w.rematch = s.work.rematch ∧ w.headMoved = false := by
  unfold settleHead
  split
  · obtain ⟨b, o, p, l, h⟩ := brakeOnly_headChanged (s.onWork fun w => { w with headMoved := false })
    exact ⟨b, o, p, _, h, rfl, rfl, rfl⟩
  · next h => exact ⟨s.brake, s.sig.outputs, s.port, s.work, rfl, rfl, rfl, by simpa using h⟩

/-- R12: with no station BLOCKED a binding tried again is none. -/
theorem settleRetry_unblocked {s : State} (h : s.entry.blocked = false) :
    settleRetry s = s.onWork fun w => { w with retry := false } := by
  unfold settleRetry
  split
  · unfold retryBinding
    rw [if_neg (by simp [h])]
  · next hr =>
    have : s.work.retry = false := by simpa using hr
    cases s with | mk _ _ _ _ _ _ _ _ _ _ _ _ _ _ w => cases w; simp_all [State.onWork]

/-- R67: with no axle waiting a match tried again is none. -/
theorem settleRematch_idle {s : State} (h : s.work.rematch = false ∨ s.brake.state ≠ .waitAxleRecord) :
    settleRematch s = s.onWork fun w => { w with rematch := false } := by
  unfold settleRematch
  split
  · next hm =>
    have hs : s.brake.state ≠ .waitAxleRecord := h.resolve_left (by simp [hm])
    unfold rematchAxle
    split
    · rw [if_neg (by simp [hs])]
    · rfl
  · next hr =>
    have : s.work.rematch = false := by simpa using hr
    cases s with | mk _ _ _ _ _ _ _ _ _ _ _ _ _ _ w => cases w; simp_all [State.onWork]

/-- With no axle waiting, what follows the retries leaves the Vehicle Table and the stations alone. -/
theorem settle_tail {s : State} (h : s.work.rematch = false ∨ s.brake.state ≠ .waitAxleRecord) :
    (settleGuidance (guardCollection (settleRematch s))).vt = s.vt
      ∧ (settleGuidance (guardCollection (settleRematch s))).entry = s.entry
      ∧ (settleGuidance (guardCollection (settleRematch s))).brake = s.brake := by
  simp [settleRematch_idle h]

/-- Where neither a binding nor an axle waits, the Vehicle Table stands as the event left it, a change of head or none. -/
theorem settle_vt {s : State} (hw : WritesRest s) (hb : s.entry.blocked = false) (hm : s.work.rematch = false) :
    (settle s).vt = s.vt := by
  obtain ⟨b, o, p, w, h1, -, hm1, hh1⟩ := settleHead_brakeOnly s
  have h2 : (settleRetry (settleHead s)) = (settleHead s).onWork fun w => { w with retry := false } :=
    settleRetry_unblocked (by rw [h1]; exact hb)
  have h3 : settleHead (settleRetry (settleHead s)) = settleRetry (settleHead s) :=
    settleHead_still (by rw [h2, h1]; exact hh1)
  unfold settle
  rw [settleWrites_rest hw, h3, (settle_tail (.inl (by rw [h2, h1]; exact hm1.trans hm))).1, h2, h1]
  rfl

/-- Where no head moved besides, the two stations stand as the event left them too. -/
theorem settle_stations {s : State} (hw : WritesRest s) (hh : s.work.headMoved = false) (hr : s.work.retry = false)
    (hm : s.work.rematch = false ∨ s.brake.state ≠ .waitAxleRecord) :
    (settle s).vt = s.vt ∧ (settle s).entry = s.entry ∧ (settle s).brake = s.brake := by
  have h1 : settleRetry s = s := by unfold settleRetry; rw [hr]; rfl
  unfold settle
  rw [settleWrites_rest hw, settleHead_still hh, h1, settleHead_still hh]
  exact settle_tail hm

/-- The same after changes of the brake station alone, on a part that owes nothing. -/
theorem settle_brakeOnly {s t : State} (hw : WritesRest s) (hh : s.work.headMoved = false) (hr : s.work.retry = false)
    (hm : s.work.rematch = false) (h : BrakeOnly s t) : (settle t).vt = s.vt ∧ (settle t).brake = t.brake := by
  obtain ⟨b, o, p, l, rfl⟩ := h
  obtain ⟨hvt, -, hbr⟩ := settle_stations (s := { s with
    brake := b, sig := { s.sig with outputs := o }, port := p, work := { s.work with items := l } }) hw hh hr (.inl hm)
  exact ⟨hvt, hbr⟩

end Sys2Proof.Machine
end

section
/-! SUPPORT. Records that leave: DISCARD_VEHICLE and the age expiry (R16, R17, R18), and the head at the exit barrier
(R20, R23). -/

namespace Sys2Proof.Machine

theorem record_of_vt {s t : State} (h : t.vt = s.vt) (k : Nat) : t.record k = s.record k := by
  unfold State.record; rw [h]

/-! ## Removal (R16) -/

/-- R16: a removal owes a binding tried again, and leaves the store and the entry station alone. -/
theorem removeRecord_owed (k : Nat) (c : Option RemovalCause) (s : State) : (removeRecord k c s).cal = s.cal
    ∧ (removeRecord k c s).entry = s.entry ∧ (removeRecord k c s).work.rematch = s.work.rematch := by
  unfold removeRecord
  dsimp only
  split <;> split <;> simp [noteRetry, sendNotice, modRec, clearSlotHolds, clearPrintHolds, handVehicle]

theorem record_removeRecord (k j : Nat) (c : Option RemovalCause) (s : State) :
    (removeRecord k c s).record j = if j = k then Record.free else s.record j := by
  have h : (removeRecord k c s).record j = (s.laneView.modRec k fun _ => Record.free).record j :=
    congrFun (congrArg LaneView.record (removeRecord_laneView k c s)) j
  rw [h, LaneView.record_modRec]
  by_cases hj : j = k
  · subst hj
    by_cases hl : j < s.vt.records.length
    · rw [if_pos ⟨rfl, hl⟩, if_pos rfl]
    · rw [if_neg (fun x => hl x.2), if_pos rfl]
      exact LaneView.record_of_le (Nat.not_lt.mp hl)
  · rw [if_neg (fun x => hj x.1), if_neg hj]; rfl

/-- R16: the table after a removal. -/
theorem removeRecord_removes {k : Nat} {c : Option RemovalCause} {s t : State} (h : t.vt = (removeRecord k c s).vt) :
    t.record k = Record.free ∧ (∀ j, j ≠ k → t.record j = s.record j) ∧ t.vt.armed ≠ some k
      ∧ t.vt.queue = s.vt.queue := by
  have ha : t.vt.armed = if s.vt.armed == some k then none else s.vt.armed :=
    h ▸ congrArg LaneView.armed (removeRecord_laneView k c s)
  refine ⟨(record_of_vt h k).trans ((record_removeRecord k k c s).trans (if_pos rfl)), fun j hj => ?_, ?_,
    h ▸ congrArg LaneView.queue (removeRecord_laneView k c s)⟩
  · exact (record_of_vt h j).trans ((record_removeRecord k j c s).trans (if_neg hj))
  · rw [ha]
    split
    · simp
    · next hne => simpa using hne

/-- A request that reaches its owner and is answered: the owner's effect, its reply, and what follows. -/
theorem answer_settles {i : Instr} {k t : Nat} {op : State → Handled} {s u : State} {st : Status} {b : ReplyBody}
    (hr : reachesOwner i s = true) (ho : op (atOwner i s) = { reply := some (st, b), state := u }) :
    finish (answer i k t op s) = .next (settle (postReply k t st b u)) := by
  unfold answer
  rw [if_pos hr, ho]
  rfl

/-- R16, R12: what follows a removal leaves the table alone while the entry station is not BLOCKED. -/
theorem settle_removal_vt {k : Nat} {c : Option RemovalCause} {s : State} (hc : Calm s) (hb : s.entry.blocked = false)
    (f : HostPort → HostPort) : (settle ((removeRecord k c s).onPort f)).vt = (removeRecord k c s).vt := by
  obtain ⟨hcal, hent, hwork⟩ := removeRecord_owed k c s
  have hw : WritesRest ((removeRecord k c s).onPort f) := by
    unfold WritesRest
    rw [State.onPort_cal, hcal]
    exact hc.writesRest
  rw [settle_vt hw, State.onPort_vt]
  · rw [State.onPort_entry, hent]; exact hb
  · rw [State.onPort_work, hwork, hc.1]; rfl

/-- Settles O24: a removal frees its record, and what follows it leaves the table alone. -/
theorem removalFreesOneRecord : Obligations.RemovalFreesOneRecord := by
  intro tag slot s hc hb hs
  refine ⟨fun hr hf hl hj => ?_, fun hr hbusy => ?_, fun hev hlim hage => ?_, fun hev => ?_⟩
  · have ho : discardVehicle slot (atOwner (.discardVehicle tag slot) s)
        = accept (removeRecord slot (some .discarded) (atOwner (.discardVehicle tag slot) s)) := by
      unfold discardVehicle
      rw [withSlot_held hs (by simpa using hf), if_neg (by simp [hl, hj])]
    have hvt := settle_removal_vt (k := slot) (c := some .discarded)
      (calm_atOwner (.discardVehicle tag slot) s hc) (by simpa using hb)
    obtain ⟨h1, h2, h3, h4⟩ := removeRecord_removes (hvt _)
    exact ⟨_, answer_settles hr ho, h1, fun k hk => (h2 k hk).trans (atOwner_record _ _ _), h3, h4.trans (by simp)⟩
  · refine answer_unchanged hc hr ?_
    have hne : (s.record slot).state ≠ .free := by
      rcases hbusy with h | h
      · rw [h]; decide
      · exact h.1
    unfold discardVehicle
    rw [withSlot_held hs (by simpa using hne), if_pos]
    · rfl
    · rcases hbusy with h | h
      · simp [h]
      · simp [h.2]
  · have ho : expireAge slot s = removeRecord slot (some .aged) s := by
      unfold expireAge
      have hage : aged s.vt.ageLimit (s.record slot) s = true := decide_eq_true hage
      simp [hev, hlim, hage]
    obtain ⟨h1, h2, -, h4⟩ := removeRecord_removes (settle_removal_vt (k := slot) (c := some .aged) hc hb id)
    exact ⟨_, congrArg finish ho, h1, h2, h4⟩
  · have ho : expireAge slot s = s := by unfold expireAge; simp [hev]
    exact (congrArg finish ho).trans (finish_calm s hc)

/-! ## The exit barrier (R20, R23) -/

/-- R23: the head's leaving owes the brake station and a waiting binding, and leaves the store and the entry station
alone. -/
theorem completeHead_owed (c : LeaveCause) (s : State) : (completeHead c s).cal = s.cal
    ∧ (completeHead c s).entry = s.entry ∧ (completeHead c s).work.rematch = s.work.rematch := by
  unfold completeHead
  split <;> exact ⟨rfl, rfl, rfl⟩

theorem record_completeHead {s : State} {h : Nat} {rest : List Nat} (c : LeaveCause) (hq : s.vt.queue = h :: rest)
    (j : Nat) : (completeHead c s).record j = if j = h ∧ h < s.vt.records.length then
      (s.record h).completed (classEntry s (s.record h).cls) s.now else s.record j := by
  have e : (completeHead c s).record j
      = (s.laneView.modRec h (fun r => r.completed (classEntry s r.cls) s.now)).record j :=
    congrFun (congrArg LaneView.record (completeHead_laneView c hq)) j
  rw [e, LaneView.record_modRec]
  rfl

/-- R20: the conditions of the head, with the barrier clear. -/
theorem leavingMet_cleared {s : State} {h : Nat} {rest : List Nat} (hq : s.vt.queue = h :: rest) :
    leavingMet (s.onVt fun v => { v with exitClear := true }) = ((s.record h).entryDone && testDone (s.record h)) := by
  unfold leavingMet
  simp only [State.onVt, hq]
  exact Bool.and_true _

/-- An edge taken is what its owner makes of it. -/
theorem onEdge_taken {f : LineFn} {b : Bool} {k : LaneTime → State → State} {s u : State} {t : LaneTime}
    (h : takeEdge f b s = some (t, u)) : onEdge f b k s = k t u := by unfold onEdge; rw [h]

/-- R37, R38: taking an edge leaves a part at rest at rest. -/
theorem calm_takeEdge {f : LineFn} {b : Bool} {s u : State} {t : LaneTime} (h : takeEdge f b s = some (t, u))
    (hc : Calm s) : Calm u := by
  rw [takeEdge_eq h]; exact Calm.of_eq hc rfl rfl rfl rfl rfl

theorem calm_withVt {s : State} (h : Calm s) (v : VehicleTable) : Calm { s with vt := v } :=
  Calm.of_eq h rfl rfl rfl rfl rfl

/-- R20, R23: the head leaves when the barrier clears, and what follows it leaves the table alone. -/
theorem exitCleared_leaves {u : State} {h : Nat} {rest : List Nat} (hw : WritesRest u) (hb : u.entry.blocked = false)
    (hm : u.work.rematch = false) (hq : u.vt.queue = h :: rest) (hed : (u.record h).entryDone = true)
    (htd : testDone (u.record h) = true) :
    (settle (exitCleared u)).vt.queue = rest ∧ (settle (exitCleared u)).vt.exitClear = false
      ∧ (settle (exitCleared u)).record h = (u.record h).completed (classEntry u (u.record h).cls) u.now
      ∧ ∀ k, k ≠ h → (settle (exitCleared u)).record k = u.record k := by
  have hcl : exitCleared u = completeHead .exit (u.onVt fun v => { v with exitClear := true }) := by
    have hl : leavingMet (u.onVt fun v => { v with exitClear := true }) = true := by
      rw [leavingMet_cleared hq, hed, htd]; rfl
    unfold exitCleared evaluateLeaving
    rw [hl, hq]
    rfl
  have hq' : (u.onVt fun v => { v with exitClear := true }).vt.queue = h :: rest := hq
  obtain ⟨hcal, hent, hwork⟩ := completeHead_owed .exit (u.onVt fun v => { v with exitClear := true })
  have hset : (settle (exitCleared u)).vt = (completeHead .exit (u.onVt fun v => { v with exitClear := true })).vt := by
    rw [hcl]
    exact settle_vt (by unfold WritesRest; rw [hcal]; exact hw) (by rw [hent]; exact hb) (by rw [hwork]; exact hm)
  have hrec := fun k => (record_of_vt hset k).trans (record_completeHead .exit hq' k)
  have hlt : h < u.vt.records.length := by
    by_contra hn
    rw [record_none u h (Nat.not_lt.mp hn)] at hed
    cases hed
  refine ⟨?_, ?_, (hrec h).trans (if_pos ⟨rfl, hlt⟩), fun k hk => (hrec k).trans (if_neg fun x => hk x.1)⟩
  · rw [hset]; exact congrArg LaneView.queue (completeHead_laneView .exit hq')
  · rw [hset]; unfold completeHead; rw [hq']; rfl

/-- Settles O36: the barrier's indication alone, or the head's leaving and what follows it. -/
theorem exitBarrierLetsATestedHeadLeave : Obligations.ExitBarrierLetsATestedHeadLeave := by
  intro s u t0 hc
  refine ⟨fun he => ?_, fun he hq => ?_, fun h rest he hq hcond => ?_, fun h rest he hq hb hed htd => ?_⟩
  all_goals
    have hcu := calm_takeEdge he hc
    have hvt := (takeEdge_table he).1
    have hr : ∀ k, u.record k = s.record k := record_of_vt hvt
  · refine (congrArg finish (onEdge_taken he)).trans ?_
    rw [← hvt]
    exact finish_calm _ (calm_withVt hcu _)
  · refine (congrArg finish (onEdge_taken he)).trans ?_
    have : exitCleared u = u := by unfold exitCleared; rw [hvt, hq]; rfl
    rw [this]
    exact finish_calm u hcu
  · refine (congrArg finish (onEdge_taken he)).trans ?_
    have hcl : exitCleared u = u.onVt fun v => { v with exitClear := true } := by
      have hl : leavingMet (u.onVt fun v => { v with exitClear := true }) = false := by
        rw [leavingMet_cleared (hvt ▸ hq), hr]
        rcases hcond with h | h <;> simp [h]
      unfold exitCleared evaluateLeaving
      rw [hl, hvt, hq]
      rfl
    rw [hcl, ← hvt]
    exact finish_calm _ (calm_withVt hcu _)
  · have hent : u.entry = s.entry := by rw [takeEdge_eq he]
    have hnow : u.now = s.time.now := by rw [takeEdge_eq he]; rfl
    have hclass : ∀ c, classEntry u c = classEntry s c := fun c => by unfold classEntry; rw [hvt]
    obtain ⟨h1, h2, h3, h4⟩ := exitCleared_leaves hcu.writesRest (hent ▸ hb) (by rw [hcu.1]; rfl) (hvt ▸ hq)
      ((hr h).symm ▸ hed) ((hr h).symm ▸ htd)
    rw [hr, hclass, hnow] at h3
    exact ⟨_, congrArg finish (onEdge_taken he), h1, h2, by rw [h3]; rfl, by rw [h3]; rfl, by rw [h3]; rfl,
      by rw [h3]; rfl, fun k hk => (h4 k hk).trans (hr k)⟩

end Sys2Proof.Machine
end

section
/-! SUPPORT. The presence expiry (R66 to R68). -/

namespace Sys2Proof.Machine

/-! ## The states the brake station enters -/

@[simp] theorem enterState_brake (st : BrakeState) (s : State) :
    (enterState st s).brake = { s.brake with state := st } := by
  unfold enterState; dsimp only; split <;> rfl

/-- R69: ZEROING begins with no sums. -/
theorem enterZeroing_passed {s : State} (h : zeroingRefusal s = none) : enterZeroing s =
    enterState .zeroing (s.onBrake fun b => { b with zeroSumL := 0, zeroSumR := 0, zeroCount := 0 }) := by
  unfold enterZeroing; rw [h]

theorem enterZeroing_refused {s : State} {c : BrakeCause} (h : zeroingRefusal s = some c) :
    enterZeroing s = enterFault c s := by unfold enterZeroing; rw [h]

/-- R80: entry into FAULT from a state that is no attempt aborts nothing. -/
theorem enterFault_idle {s : State} (c : BrakeCause) (hs : s.brake.state ≠ .fault) (ha : s.brake.state.attempt = false) :
    BrakeOnly s (enterFault c s) ∧ (enterFault c s).brake.state = .fault ∧ (enterFault c s).brake.cause = some c
      ∧ (enterFault c s).brake.axle = s.brake.axle := by
  have e : enterFault c s = noticeFault c true (raiseEvent .stationFault (enterState .fault
      ((setRun false s).onBrake fun b => { b with presence := none, spinUp := none, braking := none, stop := none,
                                                  clear := none, cause := some c }))) := by
    unfold enterFault
    simp [hs, ha]
  have hrun : BrakeOnly s (setRun false s) :=
    ⟨s.brake, { s.sig.outputs with runL := false, runR := false }, s.port, s.work.items, setRun_eq false s⟩
  rw [e]
  refine ⟨(((hrun.trans (brakeOnly_onBrake _ _)).trans (brakeOnly_enterState _ _)).trans (brakeOnly_hand _ _)).trans
    (brakeOnly_sendNotice _ _), ?_⟩
  simp [noticeFault, sendNotice, raiseEvent, hand, setRun]

/-! ## Matching (R67) -/

/-- R67: an axle appended at the rollers is not tested yet. -/
theorem testDone_appended (r : Record) (t : LaneTime) : testDone { r with
    axles := r.axles ++ [{ r.nextEntry with addedAtRollers := true }], lastActivity := t } = false := by
  simp [testDone, Record.nextEntry, Axle.fresh, Axle.finished]

/-- R68: an axle whose checks pass becomes the current axle in ZEROING. -/
theorem takeAxle_passed {s : State} {n : Nat} {ph : Phase} (h : zeroingRefusal s = none) :
    BrakeOnly s (takeAxle n ph s) ∧ (takeAxle n ph s).brake =
      { s.brake with state := .zeroing, axle := some n, phase := ph, zeroSumL := 0, zeroSumR := 0, zeroCount := 0 } := by
  have e : takeAxle n ph s = enterState .zeroing ((s.onBrake fun b => { b with axle := some n, phase := ph }).onBrake
      fun b => { b with zeroSumL := 0, zeroSumR := 0, zeroCount := 0 }) := enterZeroing_passed h
  rw [e]
  exact ⟨((brakeOnly_onBrake _ _).trans (brakeOnly_onBrake _ _)).trans (brakeOnly_enterState _ _), by simp⟩

/-- R68: an axle whose checks fail becomes the current axle in FAULT. -/
theorem takeAxle_refused {s : State} {n : Nat} {ph : Phase} {c : BrakeCause} (hs : s.brake.state = .waitWheels)
    (h : zeroingRefusal s = some c) : BrakeOnly s (takeAxle n ph s) ∧ (takeAxle n ph s).brake.state = .fault
      ∧ (takeAxle n ph s).brake.cause = some c ∧ (takeAxle n ph s).brake.axle = some n := by
  have e : takeAxle n ph s = enterFault c (s.onBrake fun b => { b with axle := some n, phase := ph }) :=
    enterZeroing_refused h
  rw [e]
  have hs' : (s.onBrake fun b => { b with axle := some n, phase := ph }).brake.state = .waitWheels := hs
  obtain ⟨hb, h1, h2, h3⟩ := enterFault_idle c (s := s.onBrake fun b => { b with axle := some n, phase := ph })
    (by rw [hs']; decide) (by rw [hs']; rfl)
  exact ⟨(brakeOnly_onBrake _ _).trans hb, h1, h2, h3⟩

/-- R66: the station as it matches an axle at its presence expiry. -/
def wheelsSeen (s : State) : State := raiseEvent .wheelsPresent (s.onBrake fun b => { b with presence := none })

theorem presenceExpired_due {s : State} {v : Nat} (hs : s.brake.state = .waitWheels) (hv : s.brake.vehicle = some v)
    (hd : s.due s.brake.presence = true) : presenceExpired s = matchAxle v (wheelsSeen s) := by
  unfold presenceExpired
  rw [hv]
  simp only [hs, hd]
  rfl

theorem wheelsSeen_brakeOnly (s : State) : BrakeOnly s (wheelsSeen s) :=
  (brakeOnly_onBrake _ s).trans (brakeOnly_hand _ _)

theorem matchAxle_found {v n : Nat} {s : State} (h : nextAxle (s.record v) = some n) :
    matchAxle v s = takeAxle n (s.axleOf v n).duePhase s := by unfold matchAxle; simp only [h]

theorem matchAxle_waits {v : Nat} {s : State} (h : nextAxle (s.record v) = none) (he : (s.record v).entryDone = false) :
    matchAxle v s = enterState .waitAxleRecord (dropAxle s) := by
  unfold matchAxle
  simp only [h, he]
  rfl

/-- R67, R3: a list of 12 takes no further axle. -/
theorem matchAxle_full {v : Nat} {s : State} (h : nextAxle (s.record v) = none) (he : (s.record v).entryDone = true)
    (hl : 12 ≤ (s.record v).axles.length) : matchAxle v s = enterWaitClear (dropAxle s) := by
  have ha : ∀ f, appendAxle v f s = (false, s) := fun f => if_neg (Nat.not_lt.mpr hl)
  unfold matchAxle
  simp only [h, he, ha]
  rfl

/-- R67: the record with an axle appended at the rollers. -/
def Record.addedAtRollers (r : Record) : Record :=
  { r with axles := r.axles ++ [{ r.nextEntry with addedAtRollers := true }] }

/-- R20: a head with an untested axle does not leave. -/
theorem leavingMet_untested {s : State} {v : Nat} (hq : s.vt.queue.head? = some v) (h : testDone (s.record v) = false) :
    leavingMet s = false := by
  unfold leavingMet
  rw [hq]
  simp [h]

theorem record_writeRec_same {k : Nat} {f : Record → Record} {s : State} (hk : k < s.vt.records.length) :
    (writeRec k f s).record k = { f (s.record k) with lastActivity := s.now } :=
  (record_writeRec k k f s).trans (if_pos ⟨rfl, hk⟩)

theorem record_writeRec_ne {k j : Nat} {f : Record → Record} {s : State} (hj : j ≠ k) :
    (writeRec k f s).record j = s.record j :=
  (record_writeRec k j f s).trans (if_neg fun x => hj x.1)

/-- R67, R3: the axle that is appended when none waits and the list has room. -/
theorem matchAxle_appends {v : Nat} {s : State} (hn : nextAxle (s.record v) = none) (he : (s.record v).entryDone = true)
    (hl : (s.record v).axles.length < 12) (hq : s.vt.queue.head? = some v) (hv : v < s.vt.records.length) :
    matchAxle v s =
      takeAxle ((s.record v).axles.length + 1) .service (writeRec v Record.addedAtRollers s) := by
  have ha : appendAxle v (fun a => { a with addedAtRollers := true }) s
      = (true, writeRec v Record.addedAtRollers s) := if_pos hl
  have hr := record_writeRec_same (f := Record.addedAtRollers) hv
  have hlv : leavingMet (writeRec v Record.addedAtRollers s) = false :=
    leavingMet_untested hq (by rw [hr]; exact testDone_appended _ _)
  have hev : evaluateLeaving (writeRec v Record.addedAtRollers s) = writeRec v Record.addedAtRollers s := by
    unfold evaluateLeaving; rw [hlv]; rfl
  have hlen : ((writeRec v Record.addedAtRollers s).record v).axles.length = (s.record v).axles.length + 1 := by
    rw [hr]; simp [Record.addedAtRollers]
  unfold matchAxle
  simp only [hn, he, ha, if_true, hev, hlen]

/-- Settles O40: each outcome of the match is a change of the brake station, after which nothing follows. -/
theorem presenceExpiryMatchesAnAxle : Obligations.PresenceExpiryMatchesAnAxle := by
  intro s v hc hs hv hd
  have matched : ∀ {t}, matchAxle v (wheelsSeen s) = t → exec .presenceExpiry s = .next (settle t) := fun h =>
    congrArg finish ((presenceExpired_due hs hv hd).trans h)
  have hw := wheelsSeen_brakeOnly s
  have settled : ∀ {t}, BrakeOnly (wheelsSeen s) t → (settle t).vt = s.vt ∧ (settle t).brake = t.brake := fun h =>
    settle_brakeOnly hc.writesRest (by rw [hc.1]; rfl) (by rw [hc.1]; rfl) (by rw [hc.1]; rfl) (hw.trans h)
  refine ⟨fun n hn hz => ?_, fun n c hn hz => ?_, fun hn he => ?_, fun hn he hl hq hlt hz => ?_, fun hn he hl => ?_⟩
  · obtain ⟨hb, hbr⟩ := takeAxle_passed (s := wheelsSeen s) (n := n) (ph := (s.axleOf v n).duePhase) hz
    obtain ⟨hvt, hset⟩ := settled hb
    rw [hbr] at hset
    exact ⟨_, matched (matchAxle_found hn), congrArg _ hset, congrArg _ hset, congrArg _ hset, congrArg _ hset,
      congrArg _ hset, hvt⟩
  · obtain ⟨hb, h1, h2, h3⟩ := takeAxle_refused (s := wheelsSeen s) (n := n) (ph := (s.axleOf v n).duePhase) hs hz
    obtain ⟨hvt, hset⟩ := settled hb
    exact ⟨_, matched (matchAxle_found hn), (congrArg _ hset).trans h1, (congrArg _ hset).trans h2,
      (congrArg _ hset).trans h3, hvt⟩
  · obtain ⟨hvt, hset⟩ := settled ((brakeOnly_dropAxle _).trans (brakeOnly_enterState .waitAxleRecord _))
    rw [enterState_brake] at hset
    exact ⟨_, matched (matchAxle_waits hn he), congrArg _ hset, congrArg _ hset, hvt⟩
  · obtain ⟨hb, hbr⟩ := takeAxle_passed (s := writeRec v Record.addedAtRollers (wheelsSeen s))
      (n := (s.record v).axles.length + 1) (ph := .service) hz
    obtain ⟨hvt, hset⟩ := settle_brakeOnly (s := writeRec v Record.addedAtRollers (wheelsSeen s)) hc.writesRest
      (congrArg Work.headMoved hc.1) (congrArg Work.retry hc.1) (congrArg Work.rematch hc.1) hb
    rw [hbr] at hset
    exact ⟨_, matched (matchAxle_appends hn he hl hq hlt), congrArg _ hset, congrArg _ hset, congrArg _ hset,
      (record_of_vt hvt v).trans (record_writeRec_same hlt),
      fun k hk => (record_of_vt hvt k).trans (record_writeRec_ne hk),
      (congrArg VehicleTable.queue hvt).trans rfl⟩
  · obtain ⟨hvt, hset⟩ := settled ((brakeOnly_dropAxle _).trans (brakeOnly_enterWaitClear _))
    have hbr : (enterWaitClear (dropAxle (wheelsSeen s))).brake.state = .waitClear
        ∧ (enterWaitClear (dropAxle (wheelsSeen s))).brake.axle = none := by simp [enterWaitClear, dropAxle]
    exact ⟨_, matched (matchAxle_full hn he hl), (congrArg _ hset).trans hbr.1, (congrArg _ hset).trans hbr.2, hvt⟩

end Sys2Proof.Machine
end

section
/-! SUPPORT. ARM_VEHICLE and BIND_VEHICLE (R9, R10), and the binding that an ARM_VEHICLE lets a BLOCKED entry station try
again (R12, R49). -/

namespace Sys2Proof.Machine

/-! ## What appends leave of the stations -/

@[simp] theorem completeHead_stations (c : LeaveCause) (s : State) :
    (completeHead c s).entry = s.entry ∧ (completeHead c s).brake = s.brake := by
  unfold completeHead; split <;> exact ⟨rfl, rfl⟩

@[simp] theorem evaluateLeaving_stations (s : State) :
    (evaluateLeaving s).entry = s.entry ∧ (evaluateLeaving s).brake = s.brake := by
  unfold evaluateLeaving; split <;> simp

@[simp] theorem noticeMeasured_stations (k n : Nat) (s : State) :
    (noticeMeasured k n s).entry = s.entry ∧ (noticeMeasured k n s).brake = s.brake := by
  unfold noticeMeasured; dsimp only; split <;> exact ⟨rfl, rfl⟩

@[simp] theorem writeRec_stations (k : Nat) (f : Record → Record) (s : State) :
    (writeRec k f s).entry = s.entry ∧ (writeRec k f s).brake = s.brake := ⟨rfl, rfl⟩

@[simp] theorem refuseAxle_stations (k : Nat) (s : State) :
    (refuseAxle k s).entry = s.entry ∧ (refuseAxle k s).brake = s.brake := by
  unfold refuseAxle addExcess; split <;> exact ⟨rfl, rfl⟩

/-- R55: an append that is taken. -/
theorem appendMeasured_taken {k : Nat} {f : Axle → Axle} {s : State} (h : (s.record k).axles.length < 12) :
    ∃ n, (appendMeasured k f s).2 = noteRematch (evaluateLeaving (noticeMeasured k n
      (writeRec k (fun r => { r with axles := r.axles ++ [f r.nextEntry] }) s))) := by
  unfold appendMeasured appendAxle
  rw [if_pos h]
  exact ⟨_, rfl⟩

/-- R55: an append beyond 12. -/
theorem appendMeasured_refused {k : Nat} {f : Axle → Axle} {s : State} (h : 12 ≤ (s.record k).axles.length) :
    (appendMeasured k f s).2 = refuseAxle k s := by
  unfold appendMeasured appendAxle
  rw [if_neg (Nat.not_lt.mpr h)]
  rfl

@[simp] theorem appendMeasured_stations (k : Nat) (f : Axle → Axle) (s : State) :
    (appendMeasured k f s).2.entry = s.entry ∧ (appendMeasured k f s).2.brake = s.brake := by
  rcases Nat.lt_or_ge (s.record k).axles.length 12 with h | h
  · obtain ⟨n, hn⟩ := appendMeasured_taken (f := f) h
    simp [hn, noteRematch]
  · simp [appendMeasured_refused h]

@[simp] theorem appendPassed_stations (k n : Nat) (s : State) :
    (appendPassed k n s).entry = s.entry ∧ (appendPassed k n s).brake = s.brake := by
  induction n generalizing s with
  | zero => exact ⟨rfl, rfl⟩
  | succ n ih => exact ⟨(ih _).1.trans (by simp), (ih _).2.trans (by simp)⟩

/-! ## The axles that passed (R49) -/

/-- R49: an entry that no measurement has touched. -/
def Axle.Unweighed (a : Axle) : Prop :=
  a.weightL = none ∧ a.weightR = none ∧ a.sideSlip = none ∧ a.unsettled = false ∧ a.overrange = false
    ∧ a.addedAtRollers = false

/-- R49: the table once a record without axles has been given `n` axles that passed. -/
structure Passed (slot n : Nat) (u t : State) : Prop where
  rest : t.vt = { u.vt with records := t.vt.records }
  length : t.vt.records.length = u.vt.records.length
  others : ∀ k, k ≠ slot → t.record k = u.record k
  own : ∃ l e a, t.record slot = { u.record slot with axles := l, axlesExceeded := e, lastActivity := a }
    ∧ l.length = min 12 n ∧ ∀ a ∈ l, a.Unweighed

theorem Passed.start {slot : Nat} {u : State} (h : (u.record slot).axles = []) : Passed slot 0 u u where
  rest := rfl
  length := rfl
  others _ _ := rfl
  own := ⟨[], (u.record slot).axlesExceeded, (u.record slot).lastActivity, by rw [← h], rfl, by simp⟩

theorem Passed.of_vt {slot n : Nat} {u t t' : State} (h : Passed slot n u t) (e : t'.vt = t.vt) : Passed slot n u t' where
  rest := by rw [e]; exact h.rest
  length := by rw [e]; exact h.length
  others k hk := (record_of_vt e k).trans (h.others k hk)
  own := by rw [record_of_vt e]; exact h.own

/-- R20: a head that did not leave before does not leave on account of them. -/
theorem Passed.leavingMet {slot n : Nat} {u t : State} (h : Passed slot n u t) (hl : leavingMet u = false)
    (hd : (u.record slot).entryDone = false) : leavingMet t = false := by
  obtain ⟨l, e, a, how, -, -⟩ := h.own
  have hq : t.vt.queue = u.vt.queue := (congrArg VehicleTable.queue h.rest).trans rfl
  have hx : t.vt.exitClear = u.vt.exitClear := (congrArg VehicleTable.exitClear h.rest).trans rfl
  unfold Machine.leavingMet at hl ⊢
  rw [hq, hx]
  cases hh : u.vt.queue.head? with
  | none => rfl
  | some k =>
    rw [hh] at hl
    dsimp only at hl ⊢
    by_cases hk : k = slot
    · subst hk
      have : (t.record k).entryDone = false := by rw [how]; exact hd
      simp [this]
    · rw [h.others k hk]; exact hl

/-- One more axle that passed: a write to the record that leaves everything but its list, its note and its time. -/
theorem Passed.write {slot n m : Nat} {u t : State} {f : Record → Record} (h : Passed slot n u t)
    (hs : slot < u.vt.records.length)
    (hf : ∃ l e, f (t.record slot) = { t.record slot with axles := l, axlesExceeded := e } ∧ l.length = min 12 m
      ∧ ∀ a ∈ l, a.Unweighed) : Passed slot m u (writeRec slot f t) where
  rest := by
    have : (writeRec slot f t).vt = { t.vt with records := (writeRec slot f t).vt.records } := rfl
    rw [this, h.rest]
  length := by
    have : (writeRec slot f t).vt.records.length = t.vt.records.length := by simp [writeRec, modRec, tableMod]
    exact this.trans h.length
  others k hk := (record_writeRec_ne hk).trans (h.others k hk)
  own := by
    obtain ⟨l, e, hfe, hlen, hun⟩ := hf
    obtain ⟨l0, e0, a0, how, -, -⟩ := h.own
    refine ⟨l, e, t.now, ?_, hlen, hun⟩
    rw [record_writeRec_same (h.length ▸ hs), hfe, how]

theorem Passed.step {slot n : Nat} {u t : State} (h : Passed slot n u t) (hs : slot < u.vt.records.length)
    (hl : Machine.leavingMet u = false) (hd : (u.record slot).entryDone = false) :
    Passed slot (n + 1) u (appendMeasured slot id t).2 := by
  obtain ⟨l, e, a, how, hlen, hun⟩ := h.own
  have hax : (t.record slot).axles = l := by rw [how]
  rcases Nat.lt_or_ge (t.record slot).axles.length 12 with hlt | hge
  · obtain ⟨m, hm⟩ := appendMeasured_taken (f := id) hlt
    have hw : Passed slot (n + 1) u (noticeMeasured slot m (writeRec slot (fun r =>
        { r with axles := r.axles ++ [id r.nextEntry] }) t)) := by
      refine (h.write (f := fun r => { r with axles := r.axles ++ [id r.nextEntry] }) hs
        ⟨l ++ [(t.record slot).nextEntry], (t.record slot).axlesExceeded, ?_, ?_, ?_⟩).of_vt (by simp)
      · simp [hax]
      · rw [hax] at hlt
        rw [List.length_append, hlen, List.length_singleton]
        omega
      · intro b hb
        rcases List.mem_append.mp hb with hb | hb
        · exact hun b hb
        · rw [List.mem_singleton.mp hb]
          exact ⟨rfl, rfl, rfl, rfl, rfl, rfl⟩
    have hev : ∀ {x : State}, Machine.leavingMet x = false → evaluateLeaving x = x := fun hx => by
      unfold evaluateLeaving; rw [hx]; rfl
    rw [hm, hev (hw.leavingMet hl hd)]
    exact hw.of_vt rfl
  · rw [appendMeasured_refused hge]
    refine (h.write (m := n + 1) (f := fun r => { r with axlesExceeded := true }) hs ⟨l, true, ?_, ?_, hun⟩).of_vt
      (addExcess_table _ _).1
    · simp [hax]
    · rw [hax] at hge; omega

/-- R49: the axles that passed, appended to a record without axles. -/
theorem passed_appendPassed {slot n : Nat} {u t : State} (k : Nat) (h : Passed slot n u t)
    (hs : slot < u.vt.records.length) (hl : leavingMet u = false) (hd : (u.record slot).entryDone = false) :
    Passed slot (n + k) u (appendPassed slot k t) := by
  induction k generalizing n t with
  | zero => exact h
  | succ k ih =>
    have := ih (h.step hs hl hd)
    rwa [Nat.add_assoc, Nat.add_comm 1 k] at this

end Sys2Proof.Machine
end

section
/-! SUPPORT. ARM_VEHICLE and BIND_VEHICLE (R9, R10, R12). -/

namespace Sys2Proof.Machine

/-! ## Binding (R12, R14, R48) -/

theorem bindRecord_vt (k : Nat) (s : State) : (bindRecord k s).vt =
    { s.vt with
        records := tableMod s.vt.records k (Record.entered ((s.vt.entryCount + 1) % 10000) s.now)
        entryCount := (s.vt.entryCount + 1) % 10000, queue := s.vt.queue ++ [k]
        armed := if s.vt.armed == some k then none else s.vt.armed } := by
  unfold bindRecord
  dsimp only
  split <;> rfl

theorem record_bindRecord (k j : Nat) (s : State) : (bindRecord k s).record j =
    if j = k ∧ k < s.vt.records.length then (s.record j).entered ((s.vt.entryCount + 1) % 10000) s.now
    else s.record j := by
  have h : (bindRecord k s).record j = (modRec k (Record.entered ((s.vt.entryCount + 1) % 10000) s.now) s).record j := by
    unfold State.record; rw [bindRecord_vt]; rfl
  rw [h, record_modRec]

/-- R14, R20: a record that enters the lane lets no head leave. -/
theorem leavingMet_bindRecord {k : Nat} {s : State} (hk : k < s.vt.records.length) (hl : leavingMet s = false) :
    leavingMet (bindRecord k s) = false := by
  have own : ((bindRecord k s).record k).entryDone = false := by rw [record_bindRecord, if_pos ⟨rfl, hk⟩]; rfl
  have hq : (bindRecord k s).vt.queue = s.vt.queue ++ [k] := by rw [bindRecord_vt]
  have hx : (bindRecord k s).vt.exitClear = s.vt.exitClear := by rw [bindRecord_vt]
  unfold leavingMet at hl ⊢
  rw [hq, hx]
  cases hs : s.vt.queue with
  | nil => simp [own]
  | cons h rest =>
    rw [hs] at hl
    by_cases hh : h = k
    · simp [hh, own]
    · have : (bindRecord k s).record h = s.record h := by rw [record_bindRecord, if_neg fun x => hh x.1]
      simpa [this] using hl

@[simp] theorem bindRecord_stations (k : Nat) (s : State) :
    (bindRecord k s).entry = s.entry ∧ (bindRecord k s).brake = s.brake := by
  unfold bindRecord
  dsimp only
  split <;> exact ⟨rfl, rfl⟩

theorem openTrace_stations (k : TraceKind) (n : Nat) (a : Option Nat) (s : State) :
    (openTrace k n a s).2.entry = s.entry ∧ (openTrace k n a s).2.brake = s.brake := by
  unfold openTrace; split <;> exact ⟨rfl, rfl⟩

/-- R48: binding sets the vehicle, clears BLOCKED and opens a trace. -/
theorem bindStation_stations (k : Nat) (s : State) : (∃ tr, (bindStation k s).entry =
    { s.entry with vehicle := some k, blocked := false, openTrace := tr }) ∧ (bindStation k s).brake = s.brake := by
  obtain ⟨he, hb⟩ := openTrace_stations .entry k none s
  refine ⟨⟨(openTrace .entry k none s).1, ?_⟩, hb⟩
  rw [← he]
  rfl

/-- R12: an armed record is given while the lane has room. -/
theorem askRecord_armed {s : State} {k : Nat} (hq : s.vt.queue.length < 3) (ha : s.vt.armed = some k) :
    askRecord s = { slot := some k, cause := .noRecord, state := bindRecord k s } := by
  unfold askRecord
  rw [if_neg (Nat.not_le.mpr hq), ha]

theorem askRecord_full {s : State} (hq : 3 ≤ s.vt.queue.length) :
    askRecord s = { slot := none, cause := .laneFull, state := s } := if_pos hq

/-- R12: with the lane full a BLOCKED station stays so. -/
theorem retryBinding_full {s : State} (hq : 3 ≤ s.vt.queue.length) : retryBinding s = s := by
  unfold retryBinding
  split
  · rw [askRecord_full hq]
  · rfl

/-- R12, R49: with an armed record and room in the lane a BLOCKED station is bound, its count of crossings kept, and the
record takes the axles that passed. -/
theorem retryBinding_binds {s : State} {k : Nat} (hb : s.entry.blocked = true) (hq : s.vt.queue.length < 3)
    (ha : s.vt.armed = some k) (hk : k < s.vt.records.length) (hx : (s.record k).axles = [])
    (hl : leavingMet s = false) :
    Passed k s.entry.passed (bindRecord k s) (retryBinding s) ∧ (retryBinding s).entry.vehicle = some k
      ∧ (retryBinding s).entry.blocked = false ∧ (retryBinding s).entry.crossings = s.entry.crossings
      ∧ (retryBinding s).brake = s.brake := by
  have hrec : (bindRecord k s).record k = (s.record k).entered ((s.vt.entryCount + 1) % 10000) s.now := by
    rw [record_bindRecord, if_pos ⟨rfl, hk⟩]
  have hlen : (bindRecord k s).vt.records.length = s.vt.records.length := by rw [bindRecord_vt]; simp [tableMod]
  have hp := passed_appendPassed s.entry.passed
    ((Passed.start (slot := k) (u := bindRecord k s) (by rw [hrec]; exact hx)).of_vt (bindStation_table k _).1)
    (hlen ▸ hk) (leavingMet_bindRecord hk hl) (by rw [hrec]; rfl)
  rw [Nat.zero_add] at hp
  obtain ⟨⟨tr, he⟩, hbr⟩ := bindStation_stations k (bindRecord k s)
  unfold retryBinding
  rw [if_pos hb, askRecord_armed hq ha]
  dsimp only
  split
  · exact ⟨hp.of_vt (onScale_table _ _).1, by simp [onScale, he], by simp [onScale, he], by simp [onScale, he],
      by simp [onScale, hbr]⟩
  · exact ⟨hp, by simp [he], by simp [he], by simp [he], by simp [hbr]⟩

/-! ## A change of head after it (R65) -/

@[simp] theorem setVehicle_state (v : Option Nat) (s : State) : (setVehicle v s).brake.state = s.brake.state := by
  unfold setVehicle; split <;> rfl

theorem takeHead_state (s : State) : (takeHead s).brake.state = .idle ∨ (takeHead s).brake.state = .waitWheels := by
  unfold takeHead
  split
  · exact .inl (by simp [enterIdle, reportFree, raiseEvent, hand])
  · refine .inr ?_
    unfold enterWaitWheels
    dsimp only
    split <;> simp [reportFree, raiseEvent, hand]

/-- R65: a change of head leaves no axle waiting that did not wait before. -/
theorem headChanged_waits {s : State} (h : s.brake.state ≠ .waitAxleRecord) :
    (headChanged s).brake.state ≠ .waitAxleRecord := by
  have taken : ∀ t : State, (takeHead t).brake.state ≠ .waitAxleRecord := fun t => by
    rcases takeHead_state t with h | h <;> rw [h] <;> decide
  unfold headChanged
  split
  · split
    · exact h
    · exact taken s
  · dsimp only
    split
    · simp [enterWaitClear]
    · exact taken _
  · exact absurd ‹_› h
  case h_11 => simpa [dropAxle] using h
  all_goals exact h

theorem settleHead_waits {s : State} (h : s.brake.state ≠ .waitAxleRecord) :
    (settleHead s).brake.state ≠ .waitAxleRecord := by
  unfold settleHead
  split
  · exact headChanged_waits h
  · exact h

/-! ## ARM_VEHICLE (R9) -/

theorem disarm_eq (s : State) : ∃ l, disarm s = s.onVt fun v => { v with records := l, armed := none } := by
  unfold disarm
  split
  · next h => exact ⟨s.vt.records, by rw [← h]; rfl⟩
  · next a h => exact ⟨tableMod s.vt.records a fun r => { r with state := .booked }, rfl⟩

theorem disarm_length (s : State) : (disarm s).vt.records.length = s.vt.records.length := by
  unfold disarm; split <;> simp [modRec, tableMod]

/-- R9: a record becomes the armed one, and a waiting binding is owed. -/
def armed (slot : Nat) (s : State) : State :=
  noteRetry (modRec slot (fun r => { r with state := .armed }) ((disarm s).onVt fun v => { v with armed := some slot }))

theorem armVehicle_accepted {slot : Nat} {s : State} (hk : slot ≤ 31)
    (hs : (s.record slot).state = .booked ∨ (s.record slot).state = .armed) :
    armVehicle (some slot) s = accept (armed slot s) := by
  have hf : (s.record slot).state ≠ .free := by rcases hs with h | h <;> rw [h] <;> decide
  unfold armVehicle
  dsimp only
  rw [withSlot_held hk hf, if_neg (by rcases hs with h | h <;> simp [h])]
  rfl

/-- R9: the table and the rest of the part after an arm. -/
theorem armed_spec (slot : Nat) (s : State) : (∃ l, (armed slot s).vt = { s.vt with records := l, armed := some slot })
    ∧ (armed slot s).cal = s.cal ∧ (armed slot s).entry = s.entry ∧ (armed slot s).brake = s.brake
    ∧ (armed slot s).work = { s.work with retry := true } := by
  obtain ⟨l, h⟩ := disarm_eq s
  unfold armed
  rw [h]
  exact ⟨⟨_, rfl⟩, rfl, rfl, rfl, rfl⟩

theorem armed_length (slot : Nat) (s : State) : (armed slot s).vt.records.length = s.vt.records.length := by
  have h : (armed slot s).vt.records.length = (disarm s).vt.records.length := by simp [armed, modRec, tableMod]
  exact h.trans (disarm_length s)

theorem record_armed (slot k : Nat) (s : State) : (armed slot s).record k =
    if k = slot ∧ slot < s.vt.records.length then { s.record k with state := .armed } else (disarm s).record k := by
  have h : (armed slot s).record k = (modRec slot (fun r => { r with state := .armed }) (disarm s)).record k := rfl
  rw [h, record_modRec, disarm_length]
  split
  · rw [record_disarm]
    split <;> rfl
  · rfl

theorem record_armed_same {slot : Nat} {s : State} (h : slot < s.vt.records.length) :
    (armed slot s).record slot = { s.record slot with state := .armed } :=
  (record_armed slot slot s).trans (if_pos ⟨rfl, h⟩)

theorem record_armed_ne {slot k : Nat} {s : State} (h : k ≠ slot) : (armed slot s).record k = (disarm s).record k :=
  (record_armed slot k s).trans (if_neg fun x => h x.1)

/-- R9, R20: an arm leaves the conditions of the head as they are. -/
theorem leavingMet_armed {slot : Nat} {s : State} (h : leavingMet s = false) : leavingMet (armed slot s) = false := by
  obtain ⟨⟨l, hvt⟩, -⟩ := armed_spec slot s
  have same : ∀ k, ((armed slot s).record k).entryDone = (s.record k).entryDone
      ∧ ((armed slot s).record k).axles = (s.record k).axles := fun k => by
    rw [record_armed, record_disarm]
    split
    · exact ⟨rfl, rfl⟩
    · split <;> exact ⟨rfl, rfl⟩
  unfold leavingMet testDone at h ⊢
  simp only [same]
  rw [hvt]
  exact h

/-- R9, R191: the part once an ARM_VEHICLE with a slot has been answered. -/
def armAnswered (tag slot : Nat) (s : State) : State := postReply 0x0B tag .ok .none (armed slot s)

theorem armAnswered_spec (tag slot : Nat) (s : State) : (armAnswered tag slot s).vt = (armed slot s).vt
    ∧ (armAnswered tag slot s).cal = s.cal ∧ (armAnswered tag slot s).entry = s.entry
    ∧ (armAnswered tag slot s).brake = s.brake ∧ (armAnswered tag slot s).work = { s.work with retry := true } :=
  ⟨rfl, (armed_spec slot s).2⟩

/-- R12: what an arm owes, with no station BLOCKED. -/
theorem settle_armed_unblocked {slot : Nat} {s : State} (hc : Calm s) (hb : s.entry.blocked = false) (tag : Nat) :
    (settle (armAnswered tag slot s)).vt = (armed slot s).vt := by
  obtain ⟨hvt, hcal, hent, -, hwork⟩ := armAnswered_spec tag slot s
  have hw : WritesRest (armAnswered tag slot s) := by unfold WritesRest; rw [hcal]; exact hc.writesRest
  exact (settle_vt hw (by rw [hent]; exact hb) (by rw [hwork, hc.1]; rfl)).trans hvt

/-- R12: the binding that an arm tries again. -/
theorem settle_armed {slot : Nat} {s : State} (hc : Calm s) (tag : Nat) : ∃ x : State,
    x.vt = (armed slot s).vt ∧ x.entry = s.entry ∧ x.brake = s.brake ∧ x.work.rematch = false ∧ x.work.headMoved = false
      ∧ settle (armAnswered tag slot s)
        = settleGuidance (guardCollection (settleRematch (settleHead (retryBinding x)))) := by
  obtain ⟨hvt, hcal, hent, hbr, hwork⟩ := armAnswered_spec tag slot s
  have hw : WritesRest (armAnswered tag slot s) := by unfold WritesRest; rw [hcal]; exact hc.writesRest
  have hh : (armAnswered tag slot s).work.headMoved = false := by rw [hwork, hc.1]; rfl
  have hr : (armAnswered tag slot s).work.retry = true := by rw [hwork]
  refine ⟨(armAnswered tag slot s).onWork fun w => { w with retry := false }, hvt, hent, hbr, ?_, hh, ?_⟩
  · exact (congrArg Work.rematch hwork).trans (congrArg Work.rematch hc.1)
  · unfold settle
    rw [settleWrites_rest hw, settleHead_still hh]
    unfold settleRetry
    rw [if_pos hr]

/-- R12, R49: with the lane full the station stays BLOCKED. -/
theorem settle_armed_full {slot : Nat} {s : State} (hc : Calm s) (hq : 3 ≤ s.vt.queue.length) (tag : Nat) :
    (settle (armAnswered tag slot s)).vt = (armed slot s).vt ∧ (settle (armAnswered tag slot s)).entry = s.entry := by
  obtain ⟨x, hvt, hent, -, hm, hh, hset⟩ := settle_armed (slot := slot) hc tag
  obtain ⟨⟨l, ha⟩, -⟩ := armed_spec slot s
  rw [hset, retryBinding_full (by rw [hvt, ha]; exact hq), settleHead_still hh]
  obtain ⟨h1, h2, -⟩ := settle_tail (.inl hm)
  exact ⟨h1.trans hvt, h2.trans hent⟩

/-- R12, R49: with room in the lane the station is bound to the record armed. -/
theorem settle_armed_binds {slot : Nat} {s : State} (hc : Calm s) (hb : s.entry.blocked = true)
    (hk : slot < s.vt.records.length) (hx : (s.record slot).axles = []) (hq : s.vt.queue.length < 3)
    (hl : leavingMet s = false) (hbr : s.brake.state ≠ .waitAxleRecord) (tag : Nat) :
    (settle (armAnswered tag slot s)).entry.vehicle = some slot
      ∧ (settle (armAnswered tag slot s)).entry.blocked = false
      ∧ (settle (armAnswered tag slot s)).entry.crossings = s.entry.crossings
      ∧ ∃ x : State, x.vt = (armed slot s).vt
        ∧ Passed slot s.entry.passed (bindRecord slot x) (settle (armAnswered tag slot s)) := by
  obtain ⟨x, hvt, hent, hxb, -, -, hset⟩ := settle_armed (slot := slot) hc tag
  obtain ⟨⟨l, ha⟩, -⟩ := armed_spec slot s
  have hrec : ∀ k, x.record k = (armed slot s).record k := record_of_vt hvt
  have hlx : leavingMet x = false := by
    have := leavingMet_armed (slot := slot) hl
    unfold leavingMet at this ⊢
    simp only [hrec]
    rwa [hvt]
  obtain ⟨hp, hv, hbl, hcr, hb2⟩ := retryBinding_binds (s := x) (k := slot) (by rw [hent]; exact hb)
    (by rw [hvt, ha]; exact hq) (by rw [hvt, ha]) (by rw [hvt, armed_length]; exact hk) (by rw [hrec, record_armed_same hk]; exact hx) hlx
  obtain ⟨h1, h2, -⟩ := settle_tail (s := settleHead (retryBinding x))
    (.inr (settleHead_waits (by rw [hb2, hxb]; exact hbr)))
  obtain ⟨b, o, p, w, hsh, -⟩ := settleHead_brakeOnly (retryBinding x)
  have he : (settle (armAnswered tag slot s)).entry = (retryBinding x).entry := by rw [hset, h2, hsh]
  have hvt2 : (settle (armAnswered tag slot s)).vt = (retryBinding x).vt := by rw [hset, h1, hsh]
  rw [he, ← hent]
  exact ⟨hv, hbl, hcr, x, hvt, hp.of_vt hvt2⟩

/-- R12: the arm's effect, answered and followed by what it owes. -/
theorem armVehicle_settles {tag slot : Nat} {s : State} (hr : reachesOwner (.armVehicle tag (some slot)) s = true)
    (hk : slot ≤ 31) (hs : (s.record slot).state = .booked ∨ (s.record slot).state = .armed) :
    exec (.armVehicle tag (some slot)) s = .next (settle (armAnswered tag slot
      (atOwner (.armVehicle tag (some slot)) s))) :=
  answer_settles hr (armVehicle_accepted hk (by simpa using hs))

/-- R9: a record that was not the armed one stays as it is when the armed one is given up. -/
theorem record_disarm_ne {s : State} {k : Nat} (h : s.vt.armed ≠ some k) : (disarm s).record k = s.record k :=
  (record_disarm s k).trans (if_neg fun x => h x.1)

theorem calm_disarm {s : State} (h : Calm s) : Calm (disarm s) := by
  obtain ⟨l, hd⟩ := disarm_eq s
  rw [hd]
  exact calm_withVt h _

/-- R10: BIND_VEHICLE past its checks. -/
theorem bindVehicle_accepted {slot : Nat} {id : Text} {c : Option Nat} {s : State} (hk : slot ≤ 31)
    (hf : (s.record slot).state ≠ .free) (hid : idOk id = true) (hcls : ∀ k, c = some k → k ≤ 7)
    (hor : (s.record slot).origin = .dynamic) (hcomp : c = none ∨ (s.record slot).state ≠ .complete)
    (hjob : (s.record slot).job = false) (htaken : idTaken id (some slot) s = false) :
    bindVehicle slot id c s = accept (writeRec slot (fun r => { r with id := id, cls := c.getD r.cls }) s) := by
  have hall : c.all (fun c => decide (c ≤ 7)) = true := by
    cases c with
    | none => rfl
    | some k => simpa using hcls k rfl
  have hst : (c.isSome && (s.record slot).state == .complete) = false := by
    rcases hcomp with h | h <;> simp [h]
  unfold bindVehicle
  rw [withSlot_held hk hf]
  simp only [hid, hall, hor, hst, hjob, htaken]
  rfl

/-- Settles O23: the armed reference and the records of an arm, the binding it tries again, and the fields of a bind. -/
theorem armAndBindChangeTheNamedRecord : Obligations.ArmAndBindChangeTheNamedRecord := by
  intro tag slot s hc hk hlen
  have hca := fun i => calm_atOwner i s hc
  have hvta : ∀ i, (atOwner i s).vt = s.vt := fun i => (atOwner_table i s).1
  have hlt : ∀ i, slot < (atOwner i s).vt.records.length := fun i => by rw [hvta, hlen]; omega
  have own : ∀ i, (armed slot (atOwner i s)).record slot = { s.record slot with state := .armed } := fun i => by
    rw [record_armed_same (hlt i), atOwner_record]
  have others : ∀ i k, k ≠ slot → s.vt.armed ≠ some k → (armed slot (atOwner i s)).record k = s.record k :=
    fun i k hne ha => by
      rw [record_armed_ne hne, record_disarm_ne (by rw [hvta]; exact ha), atOwner_record]
  have table : ∀ i, ∃ l, (armed slot (atOwner i s)).vt = { s.vt with records := l, armed := some slot } := fun i => by
    have := (armed_spec slot (atOwner i s)).1
    rwa [hvta] at this
  refine ⟨fun hb hr hs => ?_, fun hr => ?_, fun hb hr hs hax hq hl hbr => ?_, fun hb hr hs hq => ?_,
    fun id c hr hf hid hcls hor hcomp hjob htaken => ?_⟩
  · have hvt := settle_armed_unblocked (slot := slot) (hca (.armVehicle tag (some slot))) (by simpa using hb) tag
    obtain ⟨l, hl⟩ := table (.armVehicle tag (some slot))
    refine ⟨_, armVehicle_settles hr hk hs, by rw [hvt, hl], (record_of_vt hvt _).trans (own _),
      fun a ha hne => ?_, fun k hne ha => (record_of_vt hvt _).trans (others _ k hne ha)⟩
    rcases Nat.lt_or_ge a 32 with h | h
    · refine .inl ((record_of_vt hvt _).trans ?_)
      rw [record_armed_ne hne, record_disarm, hvta, if_pos ⟨ha, hlen.symm ▸ h⟩, atOwner_record]
    · exact .inr h
  · obtain ⟨l, hd⟩ := disarm_eq (atOwner (.armVehicle tag none) s)
    refine ⟨_, answer_next (.armVehicle tag none) 0x0B tag (armVehicle none) s .ok .none _ hr rfl (calm_disarm (hca _)),
      disarm_armed _, fun k ha => ?_, fun a ha h => ?_⟩
    · exact (record_disarm_ne (by rw [hvta]; exact ha)).trans (atOwner_record _ _ _)
    · have : (disarm (atOwner (.armVehicle tag none) s)).record a = { s.record a with state := .booked } := by
        rw [record_disarm, hvta, if_pos ⟨ha, hlen.symm ▸ h⟩, atOwner_record]
      exact congrArg Record.state this
  · obtain ⟨hv, hbl, hcr, x, hx, hp⟩ := settle_armed_binds (hca (.armVehicle tag (some slot))) (by simpa using hb)
      (hlt _) (by simpa using hax) (by rw [hvta]; exact hq) (by unfold leavingMet at hl ⊢; simpa [hvta] using hl)
      (by simpa using hbr) tag
    obtain ⟨l, ha⟩ := table (.armVehicle tag (some slot))
    rw [atOwner_entry] at hcr hp
    obtain ⟨axles, e, t, how, hlen', hun⟩ := hp.own
    have hxr : (x.record slot) = { s.record slot with state := .armed } := (record_of_vt hx _).trans (own _)
    have hbind : (bindRecord slot x).record slot
        = (Record.entered ((s.vt.entryCount + 1) % 10000) x.now { s.record slot with state := .armed }) := by
      rw [record_bindRecord, if_pos ⟨rfl, by rw [hx, armed_length]; exact hlt _⟩, hxr, hx, ha]
    have hrest := hp.rest
    rw [bindRecord_vt, hx, ha] at hrest
    rw [hbind] at how
    refine ⟨_, armVehicle_settles hr hk (.inl hs), hv, hbl, hcr, ?_, ?_, ?_, by rw [how]; rfl, by rw [how]; rfl,
      by rw [how]; rfl, by rw [how]; exact hlen', by rw [how]; exact hun, fun k hne hka => ?_⟩
    · rw [hrest]; simp
    · rw [hrest]
    · rw [hrest]
    · rw [hp.others k hne, record_bindRecord, if_neg (fun y => hne y.1), record_of_vt hx]
      exact others _ k hne hka
  · obtain ⟨hvt, hent⟩ :=
      settle_armed_full (slot := slot) (hca (.armVehicle tag (some slot))) (by rw [hvta]; exact hq) tag
    obtain ⟨l, hl⟩ := table (.armVehicle tag (some slot))
    refine ⟨_, armVehicle_settles hr hk (.inl hs), hent.trans (atOwner_entry _ _), ?_,
      (record_of_vt hvt _).trans (own _), ?_⟩
    · exact (congrArg VehicleTable.armed (hvt.trans hl)).trans rfl
    · exact (congrArg VehicleTable.queue (hvt.trans hl)).trans rfl
  · have hnow : (atOwner (.bindVehicle tag slot id c) s).now = s.now := congrArg TimeBase.now (atOwner_now _ s)
    refine answer_onVt (st := .ok) (b := .none) (f := fun v => { v with
      records := tableMod v.records slot
        (fun r => { r with id := id, cls := c.getD r.cls, lastActivity := s.now }) }) hc hr ?_
    rw [bindVehicle_accepted hk (by simpa using hf) hid hcls (by simpa using hor) (by simpa using hcomp)
      (by simpa using hjob) (by rw [atOwner_idTaken]; exact htaken)]
    unfold accept acceptWith writeRec modRec
    rw [hnow]

end Sys2Proof.Machine
end

section
/-! SUPPORT. Guidance entering its built-in programs at idle stations (R140). -/

namespace Sys2Proof.Machine

/-- R123, R140: the entry station's Guidance at rest in step 0, entered at a moment. -/
def entryAtRest (t : LaneTime) : StationGuide :=
  { program := 0, step := some 0, entryTime := t, timeout := some (later t 100), flags := []
    slot := some { frame := { board := 1, prompt := 2, red := .on, amber := .off, green := .off, showKind := .none,
                              values := [] }
                   since := t, sending := false }
    refresh := later t 1000 }

/-- R123, R140: the brake station's Guidance at rest in step 8, with no axle in hand. -/
def brakeAtRest (t : LaneTime) : StationGuide :=
  { program := 1, step := some 8, entryTime := t, timeout := some (later t 100), flags := []
    slot := some { frame := { board := 2, prompt := 9, red := .off, amber := .on, green := .off,
                              showKind := .axleNumber, values := [none] }
                   since := t, sending := false }
    refresh := later t 200 }

/-- R125, R140: program 0 selected while the entry station is not BLOCKED. -/
theorem runProgram_entry {s : State} (hb : s.entry.blocked = false) : runProgram .entry 0 s = { s with
    guide := { s.guide with entry := entryAtRest s.time.now }
    sig := { s.sig with outputs := { s.sig.outputs with entryRed := .on, entryGreen := .off } } } := by
  have ho : OnlyGuided .entry s (runProgram .entry 0 s) :=
    (onlyGuided_modGuide .entry _ s).trans (enter_onlyGuided .entry _ _)
  obtain ⟨hall, hent, -⟩ := ho
  obtain ⟨hbr, hreq, hout⟩ := hent rfl
  have htime : (runProgram .entry 0 s).time = s.time := by rw [hall]
  have hfl : standingFlags .entry (runProgram .entry 0 s) = [] := by simp [standingFlags, hb]
  obtain ⟨hg, hl, -⟩ := ((enter_guided .entry (some 0) (modGuide .entry (fun x => { x with program := 0 }) s)).2 0 _ rfl
    rfl).1 (fun e _ h => by
      have h' : e ∈ standingFlags .entry (runProgram .entry 0 s) := h
      rw [hfl] at h'
      cases h')
  have hg' : (runProgram .entry 0 s).guide.entry = entryAtRest s.time.now := by
    refine Eq.trans hg ?_
    change restedIn .entry 0 0 _ (runProgram .entry 0 s) = _
    unfold restedIn
    rw [hfl, htime]
    rfl
  have hl1 : (runProgram .entry 0 s).sig.outputs.entryRed = .on := hl.1
  have hl2 : (runProgram .entry 0 s).sig.outputs.entryGreen = .off := hl.2
  refine hall.trans ?_
  rw [hout, hg', hbr, hreq, hl1, hl2]

/-- R125, R140: program 1 selected while the brake station is IDLE without an axle. -/
theorem runProgram_brake {s : State} (hs : s.brake.state = .idle) (ha : s.brake.axle = none) :
    runProgram .brake 1 s = { s with
      guide := { s.guide with brake := brakeAtRest s.time.now }
      sig := { s.sig with
        outputs := { s.sig.outputs with brakeRed := .off, brakeAmber := .on, brakeGreen := .off } } } := by
  have ho : OnlyGuided .brake s (runProgram .brake 1 s) :=
    (onlyGuided_modGuide .brake _ s).trans (enter_onlyGuided .brake _ _)
  obtain ⟨hall, -, hbrk⟩ := ho
  obtain ⟨hent, hout⟩ := hbrk rfl
  have htime : (runProgram .brake 1 s).time = s.time := by rw [hall]
  have hfl : standingFlags .brake (runProgram .brake 1 s) = [] := by simp [standingFlags, hs]
  have hax : axleInHand (runProgram .brake 1 s) = none := by simp [axleInHand, ha, hs]
  obtain ⟨hg, hl, hreq⟩ := ((enter_guided .brake (some 8) (modGuide .brake (fun x => { x with program := 1 }) s)).2 8 _ rfl
    rfl).1 (fun e _ h => by
      have h' : e ∈ standingFlags .brake (runProgram .brake 1 s) := h
      rw [hfl] at h'
      cases h')
  have hg' : (runProgram .brake 1 s).guide.brake = brakeAtRest s.time.now := by
    refine Eq.trans hg ?_
    change restedIn .brake 1 8 _ (runProgram .brake 1 s) = _
    have hv : showValues .brake .axleNumber (runProgram .brake 1 s) = [none] := by simp [showValues, hax, shown]
    unfold restedIn stepFrame
    rw [hfl, htime]
    exact congrArg (fun v => ({ brakeAtRest s.time.now with
      slot := some { frame := { board := 2, prompt := 9, red := .off, amber := .on, green := .off,
                                showKind := .axleNumber, values := v }
                     since := s.time.now, sending := false } } : StationGuide)) hv
  have hl1 : (runProgram .brake 1 s).sig.outputs.brakeRed = .off := hl.1
  have hl2 : (runProgram .brake 1 s).sig.outputs.brakeAmber = .on := hl.2.1
  have hl3 : (runProgram .brake 1 s).sig.outputs.brakeGreen = .off := hl.2.2
  have hreq' : (runProgram .brake 1 s).guide.requests = s.guide.requests := hreq
  refine hall.trans ?_
  rw [hout, hg', hent, hreq', hl1, hl2, hl3]

/-- R140: Guidance after RESTART, with both stations idle. -/
theorem restartGuidance_eq {s : State} (hb : s.entry.blocked = false) (hs : s.brake.state = .idle)
    (ha : s.brake.axle = none) : restartGuidance s = { s with
      guide := { s.guide with entry := entryAtRest s.time.now, brake := brakeAtRest s.time.now }
      sig := { s.sig with outputs := { s.sig.outputs with
        entryRed := .on, entryGreen := .off, brakeRed := .off, brakeAmber := .on, brakeGreen := .off } } } := by
  unfold restartGuidance
  extract_lets clear
  have he := runProgram_entry (s := s.onGuide fun g => { g with entry := clear g.entry, brake := clear g.brake }) hb
  rw [he]
  exact runProgram_brake hs ha

end Sys2Proof.Machine
end

section
/-! SUPPORT. What the first steps of RESTART leave of the part (R26, R61, R88, R176). -/

namespace Sys2Proof.Machine

/-! ## What they leave alone -/

/-- What the first steps of RESTART leave of the part: its time, memory, settings and Guidance, the inputs of Signal
Acquisition, the notices already made; of results they owe no more than the brake station's loss of its vehicle. -/
structure Lulled (s t : State) : Prop where
  time : t.time = s.time
  eeprom : t.eeprom = s.eeprom
  cal : t.cal = s.cal
  guide : t.guide = s.guide
  sig : t.sig = { s.sig with outputs := t.sig.outputs }
  settings : settingsOf t = settingsOf s
  table : t.vt.entryCount = s.vt.entryCount ∧ t.vt.classes = s.vt.classes
  cert : t.cert = { s.cert with queue := t.cert.queue, strip := t.cert.strip, void := t.cert.void }
  notices : ∀ x ∈ s.port.notices, x ∈ t.port.notices
  owed : t.work.headMoved = s.work.headMoved ∧ t.work.rematch = s.work.rematch
  items : ∀ i ∈ t.work.items, i ∈ s.work.items ∨ i = .vehicle .brake none

theorem Lulled.refl (s : State) : Lulled s s :=
  ⟨rfl, rfl, rfl, rfl, rfl, rfl, ⟨rfl, rfl⟩, rfl, fun _ h => h, ⟨rfl, rfl⟩, fun _ h => .inl h⟩

theorem Lulled.trans {s t u : State} (h : Lulled s t) (k : Lulled t u) : Lulled s u where
  time := k.time.trans h.time
  eeprom := k.eeprom.trans h.eeprom
  cal := k.cal.trans h.cal
  guide := k.guide.trans h.guide
  sig := by rw [k.sig, h.sig]
  settings := k.settings.trans h.settings
  table := ⟨k.table.1.trans h.table.1, k.table.2.trans h.table.2⟩
  cert := by rw [k.cert, h.cert]
  notices x hx := k.notices x (h.notices x hx)
  owed := ⟨k.owed.1.trans h.owed.1, k.owed.2.trans h.owed.2⟩
  items i hi := (k.items i hi).elim (h.items i) .inr

theorem lulled_sendNotice (n : Notice) (s : State) : Lulled s (sendNotice n s) where
  __ := Lulled.refl s
  notices x hx := by
    unfold sendNotice
    simp only [State.onPort_port]
    split
    · exact List.mem_append_left _ hx
    · exact hx

/-- R26: the records, the queue, the armed reference and the exit indication may change. -/
theorem lulled_onVt (f : VehicleTable → VehicleTable) (h : ∀ v, (f v).entryCount = v.entryCount ∧ (f v).classes = v.classes
    ∧ (f v).dynMax = v.dynMax ∧ (f v).ageLimit = v.ageLimit ∧ (f v).defaultClass = v.defaultClass) (s : State) :
    Lulled s (s.onVt f) := by
  obtain ⟨h1, h2, h3, h4, h5⟩ := h s.vt
  exact { Lulled.refl s with
    table := ⟨h1, h2⟩
    settings := by simp only [settingsOf, State.onVt, h3, h4, h5]; rfl
    .. }

theorem lulled_modRec (k : Nat) (f : Record → Record) (s : State) : Lulled s (modRec k f s) :=
  lulled_onVt (fun v => { v with records := tableMod v.records k f }) (fun _ => ⟨rfl, rfl, rfl, rfl, rfl⟩) s

theorem lulled_onCert (f : CertUnit → CertUnit)
    (h : ∀ c, f c = { c with queue := (f c).queue, strip := (f c).strip, void := (f c).void }) (s : State) :
    Lulled s (s.onCert f) := by
  have hr : (f s.cert).resultAgeMax = s.cert.resultAgeMax := by rw [h s.cert]
  exact { Lulled.refl s with
    cert := h s.cert
    settings := by simp only [settingsOf, State.onCert, hr]; rfl
    .. }

/-! ## Traces -/

theorem sweep_settings (t : TraceStore) : t.sweep.hostHold = t.hostHold ∧ t.sweep.drainLevel = t.drainLevel := by
  have hg : ∀ (u : TraceStore) (d : Descriptor),
      (giveBack u d).hostHold = u.hostHold ∧ (giveBack u d).drainLevel = u.drainLevel := by
    intro u d
    unfold giveBack TraceStore.setFree
    split <;> exact ⟨rfl, rfl⟩
  have hf : ∀ (l : List Descriptor) (u : TraceStore),
      (l.foldl giveBack u).hostHold = u.hostHold ∧ (l.foldl giveBack u).drainLevel = u.drainLevel := by
    intro l
    induction l with
    | nil => exact fun u => ⟨rfl, rfl⟩
    | cons d l ih => exact fun u => ⟨(ih _).1.trans (hg u d).1, (ih _).2.trans (hg u d).2⟩
  exact hf _ _

theorem lulled_onTraces (f : TraceStore → TraceStore)
    (h : ∀ t, (f t).hostHold = t.hostHold ∧ (f t).drainLevel = t.drainLevel) (s : State) : Lulled s (s.onTraces f) := by
  obtain ⟨h1, h2⟩ := h s.traces
  exact { Lulled.refl s with settings := by simp only [settingsOf, State.onTraces, h1, h2], .. }

theorem lulled_clearPrintHolds (p : Descriptor → Bool) (s : State) : Lulled s (clearPrintHolds p s) :=
  lulled_onTraces (fun t => TraceStore.sweep { t with
    directory := t.directory.map (fun d => if p d then { d with printHold := false } else d) })
    (fun _ => sweep_settings _) s

theorem lulled_joinDrain (id : Nat) (s : State) : Lulled s (joinDrain id s) := by
  have h := lulled_onTraces (fun t => { t with drain := t.drain ++ [id] }) (fun _ => ⟨rfl, rfl⟩) s
  unfold joinDrain
  dsimp only
  split
  · exact h.trans (lulled_sendNotice _ _)
  · exact h

theorem lulled_abortTrace (o : Option Nat) (s : State) : Lulled s (abortTrace o s) := by
  unfold abortTrace closeTrace
  split
  · exact .refl s
  · split
    · exact .refl s
    · refine Lulled.trans ?_ (lulled_onTraces _ sweep_settings _)
      split
      · exact (lulled_onTraces (fun t => t.modify _ _) (fun _ => ⟨rfl, rfl⟩) s).trans (lulled_joinDrain _ _)
      · exact lulled_onTraces (fun t => t.modify _ _) (fun _ => ⟨rfl, rfl⟩) s

/-! ## Removal (R16) -/

theorem lulled_removeRecord (k : Nat) (s : State) : Lulled s (removeRecord k none s) := by
  have ha := lulled_onVt (fun v => { v with armed := if v.armed == some k then none else v.armed })
    (fun _ => ⟨rfl, rfl, rfl, rfl, rfl⟩) s
  have hb : ∀ u : State, Lulled u (handVehicle .brake none (u.onBrake fun b => { b with vehicle := none })) := fun u =>
    { Lulled.refl u with
      items := fun i hi => by
        simp only [handVehicle, State.onWork_work, State.onBrake_work, List.mem_append, List.mem_cons] at hi
        rcases hi with hi | hi | hi
        · exact .inl (List.takeWhile_subset _ hi)
        · exact .inr hi
        · exact .inl (List.dropWhile_subset _ hi)
      .. }
  have hc : ∀ u : State, Lulled u (noteRetry u) := fun u => { Lulled.refl u with owed := ⟨rfl, rfl⟩, .. }
  unfold removeRecord
  extract_lets r s1 s2 s3
  have h2 : Lulled s s2 := by
    unfold s2
    split
    · exact ha.trans (hb _)
    · exact ha
  exact ((h2.trans (lulled_clearPrintHolds _ _)).trans (lulled_modRec _ _ _)).trans (hc _)

theorem lulled_restartRecord (k : Nat) (s : State) : Lulled s (restartRecord k s) := by
  unfold restartRecord
  split
  · exact lulled_removeRecord k s
  · exact lulled_modRec k _ s

/-! ## The jobs (R176) -/

theorem lulled_closeJob (j : Job) (o : JobOutcome) (c : Option JobCause) (s : State) :
    Lulled s (closeJob j o c true s) := by
  unfold closeJob
  extract_lets s1 s2 s3 s4 s5
  have h1 : Lulled s s1 := lulled_onCert _ (fun _ => rfl) s
  have h5 : Lulled s s5 :=
    ((h1.trans (lulled_modRec _ _ _)).trans (lulled_clearPrintHolds _ _)).trans (lulled_sendNotice _ _)
  split
  · exact h5.trans (lulled_restartRecord _ _)
  · exact h5

theorem lulled_restartJob (s : State) (j : Job) : Lulled s (restartJob s j) := by
  have hv : Lulled s (oweVoid s) := lulled_onCert _ (fun _ => rfl) s
  unfold restartJob
  split
  · exact lulled_onCert _ (fun _ => rfl) s
  · split
    · exact hv.trans (lulled_closeJob _ _ _ _)
    · exact lulled_closeJob _ _ _ _
  all_goals exact lulled_closeJob _ _ _ _

theorem lulled_restartJobs (l : List Job) (s : State) : Lulled s (l.foldl restartJob s) := by
  induction l generalizing s with
  | nil => exact .refl s
  | cons j l ih => exact (lulled_restartJob s j).trans (ih _)

end Sys2Proof.Machine
end

section
/-! SUPPORT. The certificate jobs on RESTART (R176): the queue, the records and the notices. -/

namespace Sys2Proof.Machine

/-! ## A record restarted (R26) -/

/-- R26, R176: how RESTART may leave a record: a dynamic one as it is or removed, a booked one booked or as it is. -/
structure Record.Fared (r m : Record) : Prop where
  free : r.state = .free → m.state = .free
  dynamic : r.origin = .dynamic → m.origin = .dynamic ∨ m.state = .free
  booked : r.origin = .booked → r.state ≠ .free →
    m.origin = .booked ∧ m.state ≠ .free ∧ m.id = r.id ∧ m.cls = r.cls

theorem Record.Fared.refl (r : Record) : r.Fared r := ⟨fun h => h, .inl, fun ho hs => ⟨ho, hs, rfl, rfl⟩⟩

theorem Record.Fared.trans {r m n : Record} (h : r.Fared m) (k : m.Fared n) : r.Fared n where
  free hr := k.free (h.free hr)
  dynamic hr := (h.dynamic hr).elim k.dynamic fun hm => .inr (k.free hm)
  booked ho hs := by
    obtain ⟨h1, h2, h3, h4⟩ := h.booked ho hs
    obtain ⟨k1, k2, k3, k4⟩ := k.booked h1 h2
    exact ⟨k1, k2, k3.trans h3, k4.trans h4⟩

theorem Record.fared_restarted (r : Record) (t : LaneTime) : r.Fared (r.restarted t) := by
  unfold Record.restarted
  split
  · exact .refl r
  · split
    · exact .refl r
    · split
      · next hs _ ho =>
        have ho : r.origin = .dynamic := by simpa using ho
        exact ⟨fun h => absurd h (by simpa using hs), fun _ => .inr rfl, fun h => by rw [ho] at h; cases h⟩
      · next hs _ _ => exact ⟨fun h => absurd h (by simpa using hs), .inl, fun ho _ => ⟨ho, by simp, rfl, rfl⟩⟩

/-- R26: a record whose job link is clear leaves no trace of its axles, or none at all. -/
theorem Record.restarted_done {r : Record} {t : LaneTime} (h : (r.restarted t).job = false) :
    (r.origin = .dynamic → (r.restarted t).state = .free)
      ∧ (r.state ≠ .free → r.origin = .booked → (r.restarted t).state = .booked ∧ (r.restarted t).axles = []) := by
  unfold Record.restarted at h ⊢
  split
  · next hs =>
    have hs : r.state = .free := by simpa using hs
    exact ⟨fun _ => hs, fun hn => absurd hs hn⟩
  · next hs =>
    rw [if_neg hs] at h
    split
    · next hj => rw [if_pos hj] at h; rw [h] at hj; cases hj
    · split
      · next ho =>
        have ho : r.origin = .dynamic := by simpa using ho
        exact ⟨fun _ => rfl, fun _ hb => by rw [ho] at hb; cases hb⟩
      · next ho => exact ⟨fun hd => absurd hd (by simpa using ho), fun _ _ => ⟨rfl, rfl⟩⟩

theorem Record.restarted_job {r : Record} {t : LaneTime} (h : r.job = true) : r.restarted t = r := by
  unfold Record.restarted; rw [h]; split <;> rfl

theorem Record.restarted_unlinked {r : Record} {t : LaneTime} (h : r.job = false) : (r.restarted t).job = false := by
  unfold Record.restarted
  split
  · exact h
  · split
    · exact h
    · split
      · rfl
      · exact h

/-- R26: a COMPLETE record restarted at the end of its job; no other record is touched. -/
theorem record_restartRecord (k : Nat) (s : State) :
    (∀ i, i ≠ k → (restartRecord k s).record i = s.record i)
      ∧ (s.record k).Fared ((restartRecord k s).record k)
      ∧ ((s.record k).job = false → ((restartRecord k s).record k).job = false)
      ∧ (restartRecord k s).cert = s.cert ∧ (restartRecord k s).port = s.port := by
  unfold restartRecord
  split
  · next ho =>
    have ho : (s.record k).origin = .dynamic := by simpa using ho
    refine ⟨fun i hi => (record_removeRecord k i none s).trans (if_neg hi), ?_, fun _ => ?_, by simp, ?_⟩
    · rw [record_removeRecord, if_pos rfl]
      exact ⟨fun _ => rfl, fun _ => .inr rfl, fun hb => by rw [ho] at hb; cases hb⟩
    · rw [record_removeRecord, if_pos rfl]; rfl
    · unfold removeRecord
      dsimp only
      split <;> rfl
  · refine ⟨fun i hi => (record_modRec k i _ s).trans (if_neg fun x => hi x.1), ?_, fun hj => ?_, rfl, rfl⟩
    · rw [record_modRec]
      split
      · exact Record.fared_restarted _ _
      · exact .refl _
    · rw [record_modRec]
      split
      · exact Record.restarted_unlinked hj
      · exact hj

/-! ## A job ended by RESTART (R172, R176) -/

/-- R172: CERT_DONE of a job that RESTART ends. -/
def restartDone (j : Job) (s : State) : Notice :=
  .certDone j.slot (displayedId (s.record j.slot)) j.number .aborted (some .restart) j.pass s.time.now

theorem sendNotice_notices (n : Notice) (s : State) :
    (s.port.notices.length < 32 → ∃ k, (k, n) ∈ (sendNotice n s).port.notices)
      ∧ (sendNotice n s).port.notices.length ≤ s.port.notices.length + 1 := by
  unfold sendNotice
  simp only [State.onPort_port]
  constructor
  · intro h
    rw [if_pos h]
    exact ⟨_, List.mem_append_right _ List.mem_cons_self⟩
  · split
    · simp
    · omega

/-- R172, R176: the end of one job. -/
theorem closeJob_restart (j : Job) (s : State) :
    (∃ strip, (closeJob j .aborted (some .restart) true s).cert
        = { s.cert with queue := s.cert.queue.filter (fun h => h.slot != j.slot), strip := strip })
      ∧ (∀ k, k ≠ j.slot → (closeJob j .aborted (some .restart) true s).record k = s.record k)
      ∧ (s.record j.slot).Fared ((closeJob j .aborted (some .restart) true s).record j.slot)
      ∧ ((closeJob j .aborted (some .restart) true s).record j.slot).job = false
      ∧ (s.port.notices.length < 32 →
          ∃ k, (k, restartDone j s) ∈ (closeJob j .aborted (some .restart) true s).port.notices)
      ∧ (closeJob j .aborted (some .restart) true s).port.notices.length ≤ s.port.notices.length + 1 := by
  unfold closeJob
  extract_lets s1 s2 s3 s4 s5
  have hrec : ∀ k, s5.record k = if k = j.slot ∧ j.slot < s.vt.records.length then
      { s.record k with job := false, lastActivity := s.now } else s.record k := fun k =>
    record_writeRec j.slot k (fun r => { r with job := false }) s1
  have hne : ∀ k, k ≠ j.slot → s5.record k = s.record k := fun k hk => (hrec k).trans (if_neg fun x => hk x.1)
  have hown : (s.record j.slot).Fared (s5.record j.slot) ∧ (s5.record j.slot).job = false
      ∧ displayedId (s5.record j.slot) = displayedId (s.record j.slot) := by
    rw [hrec]
    split
    · exact ⟨⟨fun h => h, .inl, fun ho hs => ⟨ho, hs, rfl, rfl⟩⟩, rfl, rfl⟩
    · next hl =>
      have : s.record j.slot = Record.free := record_none s _ (by omega)
      exact ⟨.refl _, by rw [this]; rfl, rfl⟩
  have hport := sendNotice_notices (restartDone j s) s4
  obtain ⟨hfar, hjob, hid⟩ := hown
  have hs5 : s5 = sendNotice (restartDone j s) s4 := by unfold restartDone; rw [← hid]; rfl
  split
  · obtain ⟨r1, r2, r3, r4, r5⟩ := record_restartRecord j.slot s5
    refine ⟨⟨_, r4.trans rfl⟩, fun k hk => (r1 k hk).trans (hne k hk), hfar.trans r2, r3 hjob, ?_, ?_⟩
    · rw [r5, hs5]; exact hport.1
    · rw [r5, hs5]; exact hport.2
  · refine ⟨⟨_, rfl⟩, hne, hfar, hjob, ?_, ?_⟩
    · rw [hs5]; exact hport.1
    · rw [hs5]; exact hport.2

/-- R176: a job in NUMBERING stays, with abort pending. -/
theorem restartJob_numbering {j : Job} (s : State) (h : j.state = .numbering) : restartJob s j =
    s.onCert fun c => { c with queue := c.queue.map (fun h =>
      if h.slot == j.slot then { h with abortPending := true } else h) } := by
  unfold restartJob; rw [h]

/-- R176: every other job ends, and a started pass owes a void. -/
theorem restartJob_ended {j : Job} (s : State) (h : j.state ≠ .numbering) : ∃ u : State,
    restartJob s j = closeJob j .aborted (some .restart) true u ∧ u.vt = s.vt ∧ u.time = s.time ∧ u.port = s.port
      ∧ u.cert = { s.cert with
          void := if j.state = .printing ∧ j.started = true then .owed else s.cert.void } := by
  unfold restartJob
  cases hs : j.state with
  | numbering => exact absurd hs h
  | printing =>
    cases hst : j.started with
    | false => exact ⟨s, rfl, rfl, rfl, rfl, by simp⟩
    | true => exact ⟨oweVoid s, rfl, rfl, rfl, rfl, by simp [oweVoid]⟩
  | queued => exact ⟨s, rfl, rfl, rfl, rfl, by simp⟩
  | held => exact ⟨s, rfl, rfl, rfl, rfl, by simp⟩

/-- R176: what RESTART makes of the jobs of a list. -/
structure JobsRestarted (l : List Job) (s t : State) : Prop where
  void : t.cert.void = if ∃ j ∈ l, j.state = .printing ∧ j.started = true then .owed else s.cert.void
  others : ∀ k, k ∉ l.map Job.slot → t.record k = s.record k
  fared : ∀ k, (s.record k).Fared (t.record k)
  queue : ∀ p, s.cert.queue = p ++ l → ((p ++ l).map Job.slot).Nodup →
    t.cert.queue = p ++ (l.filter (fun j => decide (j.state = .numbering))).map (fun j => { j with abortPending := true })
  kept : (l.map Job.slot).Nodup → ∀ j ∈ l, j.state = .numbering → t.record j.slot = s.record j.slot
  ended : (l.map Job.slot).Nodup → ∀ j ∈ l, j.state ≠ .numbering → (t.record j.slot).job = false
    ∧ (s.port.notices.length + l.length ≤ 32 → ∃ k, (k, restartDone j s) ∈ t.port.notices)

theorem jobsRestarted_nil (s : State) : JobsRestarted [] s s :=
  ⟨by simp, fun _ _ => rfl, fun _ => .refl _, fun p h _ => by simpa using h, fun _ _ h => (by cases h),
    fun _ _ h => (by cases h)⟩

/-- A job's slot in the queue: the jobs before and behind it are for other slots. -/
theorem slots_apart {p l : List Job} {j : Job} (h : ((p ++ j :: l).map Job.slot).Nodup) :
    ∀ i ∈ p ++ l, i.slot ≠ j.slot := by
  simp only [List.map_append, List.map_cons] at h
  have hm : j.slot ∉ p.map Job.slot ++ l.map Job.slot := (List.nodup_middle.mp h |> List.nodup_cons.mp).1
  intro i hi he
  rw [← List.map_append] at hm
  exact hm (he ▸ List.mem_map_of_mem hi)

/-- The slot of a list's first job, in a list of apart slots, is none of the others'. -/
theorem slot_notMem {l : List Job} {j : Job} (h : ((j :: l).map Job.slot).Nodup) : j.slot ∉ l.map Job.slot :=
  (List.nodup_cons.mp h).1

theorem jobsRestarted_numbering {j : Job} {l : List Job} {s t : State} (hj : j.state = .numbering)
    (h : JobsRestarted l (restartJob s j) t) : JobsRestarted (j :: l) s t := by
  rw [restartJob_numbering s hj] at h
  have hne : ¬ (j.state = .printing ∧ j.started = true) := by simp [hj]
  refine ⟨?_, fun k hk => h.others k fun hm => hk (List.mem_cons_of_mem _ hm), h.fared, fun p hq hnd => ?_,
    fun hnd i hi his => ?_, fun hnd i hi his => ?_⟩
  · rw [h.void]
    simp only [List.exists_mem_cons_iff, hne, false_or]
    rfl
  · have hap := slots_apart hnd
    have hmap : (p ++ j :: l).map (fun i => if i.slot == j.slot then { i with abortPending := true } else i)
        = (p ++ [{ j with abortPending := true }]) ++ l := by
      have keep : ∀ q : List Job, (∀ i ∈ q, i.slot ≠ j.slot) →
          q.map (fun i => if i.slot == j.slot then { i with abortPending := true } else i) = q := fun q hq =>
        (List.map_congr_left fun i hi => if_neg (by simpa using hq i hi)).trans (List.map_id q)
      rw [List.map_append, List.map_cons, keep p fun i hi => hap i (List.mem_append_left _ hi),
        keep l fun i hi => hap i (List.mem_append_right _ hi)]
      simp
    have := h.queue (p ++ [{ j with abortPending := true }]) (by rw [← hmap, ← hq]; rfl) (by simpa using hnd)
    rw [this]
    simp [hj]
  · rcases List.mem_cons.mp hi with rfl | hi
    · exact h.others _ (slot_notMem hnd)
    · exact h.kept (List.nodup_cons.mp hnd).2 i hi his
  · rcases List.mem_cons.mp hi with rfl | hi
    · exact absurd hj his
    · obtain ⟨h1, h2⟩ := h.ended (List.nodup_cons.mp hnd).2 i hi his
      refine ⟨h1, fun hlen => h2 ?_⟩
      simp only [List.length_cons] at hlen
      exact (Nat.add_le_add_left (Nat.le_succ _) _).trans hlen

theorem jobsRestarted_ended {j : Job} {l : List Job} {s t : State} (hj : j.state ≠ .numbering)
    (hl : Lulled (restartJob s j) t) (h : JobsRestarted l (restartJob s j) t) : JobsRestarted (j :: l) s t := by
  obtain ⟨u, hu, hvt, htime, hport, hcert⟩ := restartJob_ended s hj
  obtain ⟨⟨strip, hc⟩, hothers, hfared, hjob, hnotice, hlen⟩ := closeJob_restart j u
  rw [← hu] at hc hothers hfared hjob hnotice hlen
  have hrec : ∀ k, u.record k = s.record k := record_of_vt hvt
  have hdone : restartDone j u = restartDone j s := by unfold restartDone; rw [hrec, htime]
  have htime' : (restartJob s j).time = s.time := (lulled_restartJob s j).time
  rw [hport] at hnotice hlen
  rw [hdone] at hnotice
  rw [hrec] at hfared
  refine ⟨?_, fun k hk => ?_, fun k => ?_, fun p hq hnd => ?_, fun hnd i hi his => ?_, fun hnd i hi his => ?_⟩
  · rw [h.void, hc, hcert]
    simp only [List.exists_mem_cons_iff]
    by_cases hp : j.state = .printing ∧ j.started = true <;>
      by_cases hx : ∃ i ∈ l, i.state = .printing ∧ i.started = true <;> simp [hp, hx]
  · have hk' : k ≠ j.slot ∧ k ∉ l.map Job.slot := by simpa using hk
    rw [h.others k hk'.2, hothers k hk'.1, hrec]
  · refine Record.Fared.trans ?_ (h.fared k)
    by_cases hk : k = j.slot
    · rw [hk]; exact hfared
    · rw [hothers k hk, hrec]; exact .refl _
  · have hap := slots_apart hnd
    have hq' : (restartJob s j).cert.queue = p ++ l := by
      rw [hc, hcert, hq]
      have keep : ∀ q : List Job, (∀ i ∈ q, i.slot ≠ j.slot) → q.filter (fun h => h.slot != j.slot) = q := fun q hq =>
        List.filter_eq_self.mpr fun i hi => by simpa using hq i hi
      simp only [List.filter_append, List.filter_cons, keep p fun i hi => hap i (List.mem_append_left _ hi),
        keep l fun i hi => hap i (List.mem_append_right _ hi)]
      simp
    rw [h.queue p hq' ?_]
    · simp [hj]
    · simp only [List.map_append, List.map_cons] at hnd ⊢
      exact (List.nodup_cons.mp (List.nodup_middle.mp hnd)).2
  · rcases List.mem_cons.mp hi with rfl | hi
    · exact absurd his hj
    · have hne : i.slot ≠ j.slot := fun he => slot_notMem hnd (he ▸ List.mem_map_of_mem hi)
      rw [h.kept (List.nodup_cons.mp hnd).2 i hi his, hothers _ hne, hrec]
  · rcases List.mem_cons.mp hi with rfl | hi
    · have ho := h.others _ (slot_notMem hnd)
      refine ⟨by rw [ho]; exact hjob, fun hlt => ?_⟩
      obtain ⟨k, hk⟩ := hnotice (by simp only [List.length_cons] at hlt; omega)
      exact ⟨k, hl.notices _ hk⟩
    · have hne : i.slot ≠ j.slot := fun he => slot_notMem hnd (he ▸ List.mem_map_of_mem hi)
      obtain ⟨h1, h2⟩ := h.ended (List.nodup_cons.mp hnd).2 i hi his
      refine ⟨h1, fun hlt => ?_⟩
      obtain ⟨k, hk⟩ := h2 (by simp only [List.length_cons] at hlt; omega)
      have : restartDone i (restartJob s j) = restartDone i s := by
        unfold restartDone; rw [hothers _ hne, hrec, htime']
      exact ⟨k, this ▸ hk⟩

/-- R176: the jobs of a list, one after the other. -/
theorem jobsRestarted_foldl (l : List Job) (s : State) : JobsRestarted l s (l.foldl restartJob s) := by
  induction l generalizing s with
  | nil => exact jobsRestarted_nil s
  | cons j l ih =>
    by_cases hj : j.state = .numbering
    · exact jobsRestarted_numbering hj (ih _)
    · exact jobsRestarted_ended hj (lulled_restartJobs l _) (ih _)

end Sys2Proof.Machine
end

section
/-! SUPPORT. RESTART as a whole (R26, R36, R39, R61, R88, R121, R140, R176, R193, R197). -/

namespace Sys2Proof.Machine

/-! ## The stations and the lane (R26, R61, R88) -/

theorem lulled_onEntry (f : EntryStation → EntryStation)
    (h : ∀ e, (f e).axleOn = e.axleOn ∧ (f e).settleBand = e.settleBand) (s : State) : Lulled s (s.onEntry f) := by
  obtain ⟨h1, h2⟩ := h s.entry
  exact { Lulled.refl s with settings := by simp only [settingsOf, State.onEntry, h1, h2]; rfl, .. }

theorem lulled_onBrake (f : BrakeStation → BrakeStation)
    (h : ∀ b, (f b).slipLimit = b.slipLimit ∧ (f b).imbFloor = b.imbFloor) (s : State) : Lulled s (s.onBrake f) := by
  obtain ⟨h1, h2⟩ := h s.brake
  exact { Lulled.refl s with settings := by simp only [settingsOf, State.onBrake, h1, h2]; rfl, .. }

theorem lulled_onPedal (f : PedalLink → PedalLink) (h : ∀ p, (f p).idMask = p.idMask ∧ (f p).idMatch = p.idMatch
    ∧ (f p).latency = p.latency ∧ (f p).window = p.window) (s : State) : Lulled s (s.onPedal f) := by
  obtain ⟨h1, h2, h3, h4⟩ := h s.pedal
  exact { Lulled.refl s with settings := by simp only [settingsOf, State.onPedal, h1, h2, h3, h4]; rfl, .. }

theorem lulled_setRun (on : Bool) (s : State) : Lulled s (setRun on s) := { Lulled.refl s with sig := rfl, .. }

theorem lulled_restartEntry (s : State) : Lulled s (restartEntry s) :=
  ((lulled_abortTrace s.entry.openTrace s).trans
    (lulled_onEntry EntryStation.idled (fun _ => ⟨rfl, rfl⟩) _)).trans (lulled_sendNotice _ _)

theorem lulled_restartBrake (s : State) : Lulled s (restartBrake s) := by
  unfold restartBrake
  extract_lets s1 s2
  have h1 : Lulled s s1 := (lulled_setRun false s).trans (lulled_abortTrace _ _)
  have h2 : Lulled s1 s2 := by
    unfold s2
    apply lulled_onBrake
    exact fun _ => ⟨rfl, rfl⟩
  exact (h1.trans h2).trans (lulled_sendNotice _ _)

theorem lulled_emptyLane (s : State) : Lulled s (emptyLane s) :=
  lulled_onVt (fun v => { v with queue := [], exitClear := false, armed := none })
    (fun _ => ⟨rfl, rfl, rfl, rfl, rfl⟩) s

theorem lulled_restartRecords (s : State) : Lulled s (restartRecords s) :=
  lulled_onVt (fun v => { v with records := v.records.map (fun r => r.restarted s.now) })
    (fun _ => ⟨rfl, rfl, rfl, rfl, rfl⟩) s

/-- R26, R157: the part after the steps of RESTART that concern the jobs, the stations, the lane and the records. -/
def laneRestarted (s : State) : State :=
  restartRecords (clearPrintHolds (fun _ => true) (emptyLane (restartBrake (restartEntry (restartJobs s)))))

theorem lulled_laneRestarted (s : State) : Lulled (restartJobs s) (laneRestarted s) :=
  ((((lulled_restartEntry _).trans (lulled_restartBrake _)).trans (lulled_emptyLane _)).trans
    (lulled_clearPrintHolds _ _)).trans (lulled_restartRecords _)

/-- R26: the table of a restarted lane, and the Certificate Unit as the jobs left it. -/
theorem laneRestarted_table (s : State) : (laneRestarted s).cert = (restartJobs s).cert
    ∧ (laneRestarted s).vt.queue = [] ∧ (laneRestarted s).vt.armed = none ∧ (laneRestarted s).vt.exitClear = false
    ∧ ∀ k, ∃ t, (laneRestarted s).record k = ((restartJobs s).record k).restarted t := by
  obtain ⟨hv1, hc1⟩ := restartEntry_table (restartJobs s)
  obtain ⟨hv2, hc2⟩ := restartBrake_table (restartEntry (restartJobs s))
  refine ⟨hc2.trans hc1, rfl, rfl, rfl, fun k => ⟨(emptyLane (restartBrake (restartEntry (restartJobs s)))).now, ?_⟩⟩
  rw [← record_of_vt (hv2.trans hv1) k]
  exact record_restarted (restartBrake (restartEntry (restartJobs s))).laneView _ k

/-- R61, R88: both stations are IDLE after it. -/
theorem laneRestarted_stations (s : State) :
    (∃ e, (laneRestarted s).entry = EntryStation.idled e)
    ∧ (laneRestarted s).brake.state = .idle ∧ (laneRestarted s).brake.vehicle = none
      ∧ (laneRestarted s).brake.axle = none ∧ (laneRestarted s).brake.openTrace = none := by
  have he : (laneRestarted s).entry = (restartEntry (restartJobs s)).entry := by
    have : (laneRestarted s).entry = (abortTrace (restartEntry (restartJobs s)).brake.openTrace
      (setRun false (restartEntry (restartJobs s)))).entry := rfl
    rw [this, abortTrace_eq]
    rfl
  exact ⟨⟨_, he.trans rfl⟩, rfl, rfl, rfl, rfl⟩

/-! ## The link, Guidance and the Host Port (R121, R140, R193) -/

/-- R121: the link on RESTART. -/
theorem restartPedal_spec (s : State) : Lulled s (restartPedal s) ∧ (restartPedal s).pedal.state = .absent
    ∧ (restartPedal s).pedal.ring = [] ∧ ∃ pd p, restartPedal s = { s with pedal := pd, port := p } := by
  unfold restartPedal enterAbsent
  have h1 := lulled_onPedal (fun p => { p with framed := false, frame := none }) (fun _ => ⟨rfl, rfl, rfl, rfl⟩) s
  have h3 := fun u => lulled_onPedal (fun p => { p with ring := [] }) (fun _ => ⟨rfl, rfl, rfl, rfl⟩) u
  split
  · next ha => exact ⟨h1.trans (h3 _), by simpa using ha, rfl, _, s.port, rfl⟩
  · refine ⟨((h1.trans (lulled_onPedal PedalLink.absented (fun _ => ⟨rfl, rfl, rfl, rfl⟩) _)).trans
      (lulled_sendNotice _ _)).trans (h3 _), rfl, rfl, _, _, rfl⟩

/-! ## What follows RESTART -/

/-- R125, R126: taking the loss of its vehicle again leaves the brake station's Guidance at rest as it is. -/
theorem takeItem_atRest {s : State} (hs : s.brake.state = .idle) (ha : s.brake.axle = none)
    (hg : s.guide.brake = brakeAtRest s.time.now) (hl : LampsShow .brake .off .on .off s) :
    takeItem s (.vehicle .brake none) = s := by
  obtain ⟨h1, h2, h3⟩ := hl
  have ho : ({ s.sig.outputs with brakeRed := .off, brakeAmber := .on, brakeGreen := .off } : Outputs) = s.sig.outputs := by
    cases h : s.sig.outputs
    simp_all
  refine (runProgram_brake hs ha).trans ?_
  rw [← hg, ho]

/-- R12, R126, R184: what follows RESTART of a part at rest is nothing but the end of its owed work. -/
theorem settle_restarted {s : State} (hw : WritesRest s) (hh : s.work.headMoved = false) (hm : s.work.rematch = false)
    (hi : ∀ i ∈ s.work.items, i = .vehicle .brake none) (he : entryName s.entry = .idle) (hb : s.entry.blocked = false)
    (hs : s.brake.state = .idle) (ha : s.brake.axle = none) (hg : s.guide.brake = brakeAtRest s.time.now)
    (hl : LampsShow .brake .off .on .off s) : settle s = s.onWork fun _ => Work.none := by
  have items : ∀ (l : List GuideItem), (∀ i ∈ l, i = .vehicle .brake none) →
      l.foldl takeItem (s.onWork fun _ => Work.none) = s.onWork fun _ => Work.none := by
    intro l hl'
    induction l with
    | nil => rfl
    | cons i l ih =>
      rw [List.foldl_cons, hl' i List.mem_cons_self, takeItem_atRest (s := s.onWork fun _ => Work.none) hs ha hg hl]
      exact ih fun i hi => hl' i (List.mem_cons_of_mem _ hi)
  have guard : ∀ f, guardCollection (s.onWork f) = s.onWork f := fun f => by
    unfold guardCollection
    split
    · rfl
    · rw [if_neg]
      unfold channelBusy
      split
      · next st _ => cases st <;> simp [stationIdle, he, hs]
      · simp
  unfold settle
  rw [settleWrites_rest hw, settleHead_still hh, settleRetry_unblocked hb,
    settleHead_still (s := s.onWork fun w => { w with retry := false }) hh,
    settleRematch_idle (s := s.onWork fun w => { w with retry := false }) (.inl hm)]
  have := guard fun w => { w with retry := false, rematch := false }
  refine (congrArg settleGuidance this).trans ?_
  exact items s.work.items hi

/-! ## RESTART -/

/-- R36, R121: the restarted lane with Signal Acquisition and the link restarted. -/
def restingPart (s : State) : State := restartPedal (restartSignals (laneRestarted s))

/-- R36, R41: Signal Acquisition on RESTART. -/
def Signals.restarted (g : Signals) : Signals :=
  { g with outputs := Outputs.off, driveL := g.driveL.restart, driveR := g.driveR.restart, senseL := g.senseL.restart
           senseR := g.senseR.restart }

theorem restingPart_eq (s : State) : ∃ pd p, restingPart s =
      { laneRestarted s with sig := (laneRestarted s).sig.restarted, pedal := pd, port := p }
    ∧ pd.state = .absent ∧ pd.ring = [] ∧ settingsOf (restingPart s) = settingsOf (laneRestarted s)
    ∧ ∀ n ∈ (laneRestarted s).port.notices, n ∈ p.notices := by
  obtain ⟨hl, h1, h2, pd, p, heq⟩ := restartPedal_spec (restartSignals (laneRestarted s))
  refine ⟨pd, p, heq, ?_, ?_, hl.settings.trans rfl, fun n hn => ?_⟩
  · rw [heq] at h1; exact h1
  · rw [heq] at h2; exact h2
  · have := hl.notices n hn
    rw [heq] at this
    exact this

/-- R36, R39, R140: RESTART as the change it makes of the restarted lane. -/
theorem restartPart_eq (s : State) : restartPart s = restartPort { restingPart s with
    guide := { (restingPart s).guide with
      entry := entryAtRest (restingPart s).time.now, brake := brakeAtRest (restingPart s).time.now }
    sig := { (restingPart s).sig with outputs := { (restingPart s).sig.outputs with
      entryRed := .on, entryGreen := .off, brakeRed := .off, brakeAmber := .on, brakeGreen := .off } } } := by
  obtain ⟨⟨e, he⟩, hs, -, ha, -⟩ := laneRestarted_stations s
  obtain ⟨pd, p, heq, -⟩ := restingPart_eq s
  have h : restartPart s = restartPort (restartGuidance (restingPart s)) := rfl
  rw [h, restartGuidance_eq] <;> rw [heq]
  · exact congrArg EntryStation.blocked he
  · exact hs
  · exact ha

/-- RESTART of a part at rest: its effect, its reply, and nothing that follows. -/
theorem settle_restartPart {s : State} (hc : Calm s) (tag : Nat) :
    settle (postReply 0x02 tag .ok .none (restartPart s))
      = (postReply 0x02 tag .ok .none (restartPart s)).onWork fun _ => Work.none := by
  have hl : Lulled s (laneRestarted s) := (lulled_restartJobs _ s).trans (lulled_laneRestarted s)
  obtain ⟨⟨e, he⟩, hs, -, ha, -⟩ := laneRestarted_stations s
  obtain ⟨pd, p, heq, -⟩ := restingPart_eq s
  rw [restartPart_eq, heq]
  refine settle_restarted ?_ ?_ ?_ ?_ ?_ ?_ hs ha rfl ⟨rfl, rfl, rfl⟩
  · have : WritesRest (laneRestarted s) := by unfold WritesRest; rw [hl.cal]; exact hc.writesRest
    exact this
  · exact hl.owed.1.trans (congrArg Work.headMoved hc.1)
  · exact hl.owed.2.trans (congrArg Work.rematch hc.1)
  · intro i hi
    refine (hl.items i hi).resolve_left fun h => ?_
    rw [hc.1] at h
    cases h
  · exact congrArg entryName he
  · exact congrArg EntryStation.blocked he

/-- R26: how a record stands whose job link is clear after RESTART. -/
theorem Record.Fared.restarted {r m : Record} {t : LaneTime} (h : r.Fared m) (hj : (m.restarted t).job = false) :
    (r.origin = .dynamic → (m.restarted t).state = .free)
      ∧ (r.origin = .booked → r.state ≠ .free → (m.restarted t).state = .booked ∧ (m.restarted t).axles = []
          ∧ (m.restarted t).id = r.id ∧ (m.restarted t).cls = r.cls) := by
  have hf := Record.fared_restarted m t
  obtain ⟨hd, hb⟩ := Record.restarted_done hj
  refine ⟨fun ho => (h.dynamic ho).elim hd hf.free, fun ho hs => ?_⟩
  obtain ⟨h1, h2, h3, h4⟩ := h.booked ho hs
  obtain ⟨-, -, h5, h6⟩ := hf.booked h1 h2
  obtain ⟨h7, h8⟩ := hb h2 h1
  exact ⟨h7, h8, h5.trans h3, h6.trans h4⟩

theorem atOwner_notices (i : Instr) (s : State) : (atOwner i s).port.notices = s.port.notices := by
  unfold atOwner; split <;> rfl

/-- Settles O29: the restarted lane, what its jobs, records and settings were, and Guidance at rest in its built-in
programs. -/
theorem restartEmptiesTheLane : Obligations.RestartEmptiesTheLane := by
  intro tag s hc hr
  have hca := calm_atOwner (.restart tag) s hc
  have hb := atOwner_eq (.restart tag) s
  generalize hbs : atOwner (.restart tag) s = b at hb hca
  have hx : exec (.restart tag) s = .next ((postReply 0x02 tag .ok .none (restartPart b)).onWork fun _ => Work.none) := by
    rw [← settle_restartPart hca, ← hbs]
    exact answer_settles hr rfl
  have hl : Lulled b (laneRestarted b) := (lulled_restartJobs _ b).trans (lulled_laneRestarted b)
  have hjobs : JobsRestarted b.cert.queue b (restartJobs b) := jobsRestarted_foldl b.cert.queue b
  obtain ⟨hcert, hq, harm, hex, hrec⟩ := laneRestarted_table b
  obtain ⟨⟨e, he⟩, hs, hv, ha, ht⟩ := laneRestarted_stations b
  obtain ⟨pd, p, heq, hp1, hp2, hset, hnot⟩ := restingPart_eq b
  have hvt : b.vt = s.vt := by rw [hb]
  have hcb : b.cert = s.cert := by rw [hb]
  have htime : b.time = s.time := by rw [hb]
  have hrb : ∀ k, b.record k = s.record k := record_of_vt hvt
  have hports : b.port.notices = s.port.notices := by rw [← hbs]; exact atOwner_notices _ s
  rw [restartPart_eq, heq] at hx
  rw [heq] at hset
  have hla : Lulled (restartJobs b) (laneRestarted b) := lulled_laneRestarted b
  clear heq
  generalize laneRestarted b = l at *
  generalize restartJobs b = a at *
  refine ⟨_, hx, hq, harm, hex, ?_, ?_, ?_, ?_, ?_, ?_, ?_, hs, hv, ha, ht, rfl, rfl, hp1, hp2, rfl, rfl, rfl, ?_, ?_, ?_,
    fun k hk => ?_, ?_, ?_, ?_, ?_, fun hnd => ⟨?_, fun j hj => ⟨fun hjs hjj => ?_, fun hjs => ⟨?_, fun hlen => ?_⟩⟩⟩⟩
  · exact hl.table.1.trans (by rw [hvt])
  · exact hl.table.2.trans (by rw [hvt])
  · exact (hset.trans hl.settings).trans (by rw [hb]; rfl)
  · exact congrArg EntryStation.vehicle he
  · exact congrArg EntryStation.blocked he
  · exact congrArg EntryStation.openTrace he
  · exact congrArg EntryStation.quiet he
  · exact hl.time.trans htime
  · exact hl.eeprom.trans (by rw [hb])
  · exact hl.cal.trans (by rw [hb])
  · obtain ⟨t, hkt⟩ := hrec k
    have hkl : ((a.record k).restarted t).job = false := by rw [← hkt]; exact hk
    obtain ⟨h1, h2⟩ := (hjobs.fared k).restarted hkl
    rw [hrb, ← hkt] at h1 h2
    exact ⟨h1, h2⟩
  · have hsig : l.sig = { s.sig with outputs := l.sig.outputs } := by rw [hl.sig, hb]
    refine (congrArg (fun g : Signals => { g.restarted with outputs := { Outputs.off with
      entryRed := .on, entryGreen := .off, brakeRed := .off, brakeAmber := .on, brakeGreen := .off } }) hsig).trans rfl
  · change ({ l.guide with entry := entryAtRest l.time.now, brake := brakeAtRest l.time.now } : Guidance) = _
    rw [hl.guide, hl.time, htime, hb]
    rfl
  · refine hl.cert.trans ?_
    rw [hcb]
    rfl
  · exact (congrArg CertUnit.void hcert).trans (hjobs.void.trans (by rw [hcb]))
  · refine (congrArg CertUnit.queue hcert).trans ((hjobs.queue [] rfl ?_).trans ?_)
    · rw [hcb]; exact hnd
    · rw [hcb]; rfl
  · obtain ⟨t, hkt⟩ := hrec j.slot
    have hkept := hjobs.kept (hcb ▸ hnd) j (hcb ▸ hj) hjs
    rw [hrb] at hkept
    have : l.record j.slot = s.record j.slot := by
      rw [hkt, hkept]; exact Record.restarted_job hjj
    exact this
  · obtain ⟨t, hkt⟩ := hrec j.slot
    have : (l.record j.slot).job = false := by
      rw [hkt]; exact Record.restarted_unlinked (hjobs.ended (hcb ▸ hnd) j (hcb ▸ hj) hjs).1
    exact this
  · obtain ⟨k, hk⟩ := (hjobs.ended (hcb ▸ hnd) j (hcb ▸ hj) hjs).2 (by rw [hcb, hports]; exact hlen)
    have hdone : restartDone j b = .certDone j.slot (displayedId (s.record j.slot)) j.number .aborted (some .restart)
        j.pass s.time.now := by unfold restartDone; rw [hrb, htime]
    rw [hdone] at hk
    exact ⟨k, hnot _ (hla.notices _ hk)⟩

end Sys2Proof.Machine
end

section
/-! SUPPORT. The lane time base, the pulse counters and the windows (R27, R29, R30, R35, R36): what their events leave
on a part at rest. -/

namespace Sys2Proof.Machine

/-! ## Effects on one block of a part at rest -/

theorem finish_onTime {s : State} (h : Calm s) (f : TimeBase → TimeBase) : finish (s.onTime f) = .next (s.onTime f) :=
  finish_calm _ (Calm.of_eq h rfl rfl rfl rfl rfl)

/-- A collection is held to its channel's function, so a change of Signal Acquisition that keeps the functions is all
that an event leaves. -/
theorem finish_onSig {s : State} {f : Signals → Signals} (h : Calm s)
    (hf : (f s.sig).channels.map Channel.fn = s.sig.channels.map Channel.fn) :
    finish (s.onSig f) = .next (s.onSig f) :=
  finish_calm _ (Calm.of_eq h rfl rfl hf rfl rfl)

/-! ## Lane time and the wall-clock reference (R27, R29) -/

theorem TimeBase.advance_early {b : TimeBase} (h : (b.now - b.refLane).toNat < 2 ^ 30) : b.advance = b := if_pos h

theorem TimeBase.advance_pastEnd {b : TimeBase} (h : 2 ^ 30 ≤ (b.now - b.refLane).toNat)
    (hm : lastMs < b.refMs + 2 ^ 30) : b.advance = { b with clockSet := false } := by
  unfold TimeBase.advance
  rw [if_neg (Nat.not_lt.mpr h), if_pos hm]

theorem TimeBase.advance_due {b : TimeBase} (h : 2 ^ 30 ≤ (b.now - b.refLane).toNat)
    (hm : b.refMs + 2 ^ 30 ≤ lastMs) :
    b.advance = { b with refLane := b.refLane + BitVec.ofNat 32 (2 ^ 30), refMs := b.refMs + 2 ^ 30 } := by
  unfold TimeBase.advance
  rw [if_neg (Nat.not_lt.mpr h), if_neg (Nat.not_lt.mpr hm)]

/-- Settles O5: the two clock commands change the time base alone, and the reference by the three cases of R29. -/
theorem laneTimeAndTheReferenceMoveForward : Obligations.LaneTimeAndTheReferenceMoveForward := by
  intro s hc
  have hadv : exec .clockReferenceAdvance s = .next { s with time := s.time.advance } := finish_onTime hc _
  refine ⟨finish_onTime hc _, fun h hm => ?_, fun h hm => ?_, fun h => ?_⟩
  · rw [hadv, TimeBase.advance_due h hm]
    rfl
  · rw [hadv, TimeBase.advance_pastEnd h hm]
  · rw [hadv, TimeBase.advance_early h]

/-! ## Pulse counters (R35) -/

@[simp] theorem Signals.modPulse_channels (g : Signals) (i : PulseInput) (f : Pulse → Pulse) :
    (g.modPulse i f).channels = g.channels := by cases i <;> rfl

/-- Settles O7: an edge adds to the residue until it fills the prescaler in force, and then counts one unit. -/
theorem pulseEdgeCountsThroughThePrescaler : Obligations.PulseEdgeCountsThroughThePrescaler := by
  intro i s hc
  refine ⟨Pulse.edge, finish_onSig hc (by simp), fun p => ⟨fun h => ?_, fun h => ?_⟩⟩
  · exact if_neg (Nat.not_le.mpr h)
  · exact if_pos h

/-! ## Windows (R30, R35, R36) -/

theorem collectSum_idle {s : State} (h : s.cal.collection = none) : collectSum s = s := by unfold collectSum; rw [h]

/-- R30: a due window end closes the window, and does no more while no collection runs. -/
theorem exec_windowEnd {s : State} (hc : Calm s) (hk : s.cal.collection = none) (ht : s.time.now.toNat % 10 = 0)
    (hn : 0 < s.sig.convs) : exec .windowEnd s = .next (closeWindow s) := by
  have hdue : windowDue s = true := by simp [windowDue, State.now, ht, hn]
  have hexec : exec .windowEnd s = finish (if windowDue s then collectSum (closeWindow s) else s) := rfl
  rw [hexec, if_pos hdue, collectSum_idle (s := closeWindow s) hk]
  refine finish_onSig hc ?_
  show (s.sig.channels.map (Channel.close s.sig.convs)).map Channel.fn = s.sig.channels.map Channel.fn
  rw [List.map_map]
  rfl

/-- R30, R31: the reading of a function is that of the first channel that holds it. -/
theorem readingOf_first {f : ChannelFn} {cs : List Channel} {i : Nat} {c : Channel} (hi : cs[i]? = some c)
    (hf : c.fn = f) (hb : ∀ (j : Nat) (e : Channel), j < i → cs[j]? = some e → e.fn ≠ f) :
    readingOf f cs = some { channel := i, sum := c.lastSum, faulted := c.lastFaulted } := by
  obtain ⟨hlt, hget⟩ := List.getElem?_eq_some_iff.mp hi
  have hfind : cs.findIdx? (fun c => c.fn == f) = some i := by
    refine List.findIdx?_eq_some_iff_getElem.mpr ⟨hlt, by simp [hget, hf], fun j hj => ?_⟩
    have := hb j _ hj (List.getElem?_eq_getElem (hj.trans hlt))
    simpa using this
  unfold readingOf
  rw [hfind, Option.bind_some, hi]
  rfl

/-- R30: after a window end the reading of a function carries the window's sum of its first channel. -/
theorem readingOf_closed {f : ChannelFn} {cs : List Channel} {i : Nat} {c : Channel} (n : Nat) (hi : cs[i]? = some c)
    (hf : c.fn = f) (hb : ∀ (j : Nat) (e : Channel), j < i → cs[j]? = some e → e.fn ≠ f) :
    readingOf f (cs.map (Channel.close n))
      = some { channel := i, sum := windowSum n c.total, faulted := c.faulted } := by
  refine readingOf_first (c := c.close n) (by simp [hi]) hf fun j e hj he => ?_
  rw [List.getElem?_map] at he
  obtain ⟨e', he', rfl⟩ := Option.map_eq_some_iff.mp he
  exact hb j e' hj he'

/-- Settles O8: the state after the event is the closed window delivered to both stations. -/
theorem windowEndClosesSumsAndTotals : Obligations.WindowEndClosesSumsAndTotals := by
  intro s hc hk ht hn
  refine ⟨closeWindow s, (s.sig.close s.time.now).delivery s.time.now, exec_windowEnd hc hk ht hn, rfl, rfl, rfl, rfl,
    rfl, rfl, rfl, fun f i c hi hf hb => readingOf_closed _ hi hf hb, rfl, rfl, ?_⟩
  have hclose : ∀ p : Pulse, p.close.total = 0 ∧ p.close.lastTotal = p.total ∧ p.close.inForce = p.prescale
      ∧ p.close.residue = (if p.inForce = p.prescale then p.residue else 0) := fun p => ⟨rfl, rfl, rfl, rfl⟩
  intro p hp
  simp only [List.mem_cons, List.not_mem_nil, or_false] at hp
  rcases hp with rfl | rfl | rfl | rfl <;> exact hclose _

end Sys2Proof.Machine
end

section
/-! SUPPORT. A conversion (R30, R33): what it does to each channel, and the FAULT notices of a change of sensor state. -/

namespace Sys2Proof.Machine

/-! ## One channel -/

theorem atRail_eq_true {v : Nat} (h : v = 0 ∨ v = 4095) : atRail v = true := by
  rcases h with rfl | rfl <;> rfl

theorem atRail_eq_false {v : Nat} (h0 : 0 < v) (h1 : v < 4095) : atRail v = false := by
  simp [atRail, h0.ne', h1]

theorem Channel.sense_sound_rail {c : Channel} {v : Nat} (hc : c.faulted = false) (hv : atRail v = true) :
    c.sense v = { c with railRun := c.railRun + 1, goodRun := 0, faulted := decide (8 ≤ c.railRun + 1) } := by
  simp [Channel.sense, hc, hv]

theorem Channel.sense_sound_good {c : Channel} {v : Nat} (hc : c.faulted = false) (hv : atRail v = false) :
    c.sense v = { c with railRun := 0 } := by simp [Channel.sense, hc, hv]

theorem Channel.sense_faulted_rail {c : Channel} {v : Nat} (hc : c.faulted = true) (hv : atRail v = true) :
    c.sense v = { c with goodRun := 0 } := by simp [Channel.sense, hc, hv]

theorem Channel.sense_faulted_good {c : Channel} {v : Nat} (hc : c.faulted = true) (hv : atRail v = false)
    (hr : c.goodRun + 1 < 400) : c.sense v = { c with goodRun := c.goodRun + 1 } := by
  simp [Channel.sense, hc, hv, Nat.lt_of_succ_lt_succ hr]

theorem Channel.sense_faulted_clears {c : Channel} {v : Nat} (hc : c.faulted = true) (hv : atRail v = false)
    (hr : 400 ≤ c.goodRun + 1) : c.sense v = { c with faulted := false, railRun := 0, goodRun := 0 } := by
  simp [Channel.sense, hc, hv, hr]

/-- R33: the sensor state moves the runs and the fault mark of a channel alone. -/
theorem Channel.sense_eq (c : Channel) (v : Nat) : c.sense v =
    { c with railRun := (c.sense v).railRun, goodRun := (c.sense v).goodRun, faulted := (c.sense v).faulted } := by
  unfold Channel.sense
  split <;> split
  · rfl
  · split <;> rfl
  · rfl
  · rfl

@[simp] theorem Channel.convert_fn (c : Channel) (v : Nat) : (c.convert v).fn = c.fn := by
  unfold Channel.convert; rw [Channel.sense_eq]

@[simp] theorem Channel.convert_lastSum (c : Channel) (v : Nat) : (c.convert v).lastSum = c.lastSum := by
  unfold Channel.convert; rw [Channel.sense_eq]

@[simp] theorem Channel.convert_total (c : Channel) (v : Nat) : (c.convert v).total = c.total + v := by
  unfold Channel.convert; rw [Channel.sense_eq]

@[simp] theorem Channel.convert_runs (c : Channel) (v : Nat) : (c.convert v).railRun = (c.sense v).railRun
    ∧ (c.convert v).goodRun = (c.sense v).goodRun ∧ (c.convert v).faulted = (c.sense v).faulted := ⟨rfl, rfl, rfl⟩

/-! ## All channels -/

theorem convertAll_eq_zipWith {cs : List Channel} {vs : List Nat} (h : vs.length = cs.length) :
    convertAll cs vs = List.zipWith Channel.convert cs vs := by
  induction cs generalizing vs with
  | nil => cases vs <;> rfl
  | cons c cs ih =>
    cases vs with
    | nil => cases h
    | cons v vs => exact congrArg (c.convert v :: ·) (ih (Nat.succ.inj h))

theorem convertAll_getElem? {cs : List Channel} {vs : List Nat} {n v : Nat} {c : Channel} (h : vs.length = cs.length)
    (hc : cs[n]? = some c) (hv : vs[n]? = some v) : (convertAll cs vs)[n]? = some (c.convert v) := by
  simp [convertAll_eq_zipWith h, List.getElem?_zipWith, hc, hv]

theorem convertAll_length {cs : List Channel} {vs : List Nat} (h : vs.length = cs.length) :
    (convertAll cs vs).length = cs.length := by simp [convertAll_eq_zipWith h, h]

theorem convertAll_fn (cs : List Channel) (vs : List Nat) : (convertAll cs vs).map Channel.fn = cs.map Channel.fn := by
  induction cs generalizing vs with
  | nil => cases vs <;> rfl
  | cons c cs ih =>
    cases vs with
    | nil => rfl
    | cons v vs => simp [convertAll, ih]

/-! ## The notices (R33, R192) -/

/-- `t` is `s` with notices behind those of `s`, their number and their overflow mark. -/
def NoticedSince (s t : State) : Prop :=
  ∃ new last ovf, t = { s with port := { s.port with
    notices := s.port.notices ++ new, lastNotice := last, overflow := ovf } }

theorem NoticedSince.refl (s : State) : NoticedSince s s := ⟨[], s.port.lastNotice, s.port.overflow, by simp⟩

theorem NoticedSince.trans {s t u : State} (h : NoticedSince s t) (k : NoticedSince t u) : NoticedSince s u := by
  obtain ⟨new, last, ovf, rfl⟩ := h
  obtain ⟨new', last', ovf', rfl⟩ := k
  exact ⟨new ++ new', last', ovf', by simp⟩

theorem NoticedSince.mem {s t : State} (h : NoticedSince s t) {x : Nat × Notice} (hx : x ∈ s.port.notices) :
    x ∈ t.port.notices := by
  obtain ⟨new, last, ovf, rfl⟩ := h
  exact List.mem_append_left _ hx

theorem noticedSince_sendNotice (n : Notice) (s : State) : NoticedSince s (sendNotice n s) := by
  rw [sendNotice_eq, sendNotice_port]
  split
  · exact ⟨_, _, _, rfl⟩
  · exact ⟨[], _, _, by rw [List.append_nil]⟩

theorem noticeSensor_changed {a b : Channel} (n : Nat) (s : State) (h : a.faulted ≠ b.faulted) (hf : a.fn ≠ .unused) :
    noticeSensor a b n s = sendNotice (.sensorFault n a.fn b.faulted s.now) s := by
  unfold noticeSensor
  rw [if_pos (by simp [h, hf])]

theorem noticeSensor_still {a b : Channel} (n : Nat) (s : State) (h : a.faulted = b.faulted ∨ a.fn = .unused) :
    noticeSensor a b n s = s := by
  unfold noticeSensor
  rw [if_neg (by rcases h with h | h <;> simp [h])]

/-- R33: a channel's notice changes nothing but the notices, and takes at most one place among them. -/
theorem noticeSensor_spec (a b : Channel) (n : Nat) (s : State) : NoticedSince s (noticeSensor a b n s)
    ∧ (noticeSensor a b n s).port.notices.length ≤ s.port.notices.length + 1 := by
  unfold noticeSensor
  split
  · exact ⟨noticedSince_sendNotice _ s, (sendNotice_notices _ s).2⟩
  · exact ⟨.refl s, Nat.le_succ _⟩

theorem NoticedSince.now {s t : State} (h : NoticedSince s t) : t.now = s.now := by
  obtain ⟨new, last, ovf, rfl⟩ := h; rfl

theorem noticedSince_noticeSensors (n : Nat) (as bs : List Channel) (s : State) :
    NoticedSince s (noticeSensors n as bs s) := by
  induction as generalizing n bs s with
  | nil => exact .refl s
  | cons a as ih =>
    cases bs with
    | nil => exact .refl s
    | cons b bs => exact (noticeSensor_spec a b n s).1.trans (ih _ _ _)

/-- R33: with room for one notice a channel, each change of a channel that holds a function is told. -/
theorem noticeSensors_told {n i : Nat} {as bs : List Channel} {a b : Channel} {s : State} (ha : as[i]? = some a)
    (hb : bs[i]? = some b) (hne : a.faulted ≠ b.faulted) (hf : a.fn ≠ .unused)
    (hroom : s.port.notices.length + as.length ≤ 32) :
    ∃ k, (k, .sensorFault (n + i) a.fn b.faulted s.now) ∈ (noticeSensors n as bs s).port.notices := by
  induction as generalizing n i bs s with
  | nil => cases ha
  | cons a' as ih =>
    cases bs with
    | nil => cases hb
    | cons b' bs =>
      obtain ⟨hsince, hlen⟩ := noticeSensor_spec a' b' n s
      rw [List.length_cons] at hroom
      cases i with
      | zero =>
        cases ha
        cases hb
        obtain ⟨k, hk⟩ := (sendNotice_notices (.sensorFault n a.fn b.faulted s.now) s).1 (by omega)
        rw [← noticeSensor_changed n s hne hf] at hk
        exact ⟨k, (noticedSince_noticeSensors _ as bs _).mem hk⟩
      | succ i =>
        have := ih (n := n + 1) (s := noticeSensor a' b' n s) ha hb (by omega)
        rw [hsince.now, show n + 1 + i = n + (i + 1) by omega] at this
        exact this

/-- R33: where no channel that holds a function changes its sensor state, no notice is sent. -/
theorem noticeSensors_still {n : Nat} {as bs : List Channel} {s : State}
    (h : ∀ (i : Nat) (a b : Channel), as[i]? = some a → bs[i]? = some b → a.faulted = b.faulted ∨ a.fn = .unused) :
    noticeSensors n as bs s = s := by
  induction as generalizing n bs with
  | nil => rfl
  | cons a as ih =>
    cases bs with
    | nil => rfl
    | cons b bs =>
      have h0 := noticeSensor_still n s (h 0 a b rfl rfl)
      exact (congrArg (noticeSensors (n + 1) as bs) h0).trans (ih fun i x y hx hy => h (i + 1) x y hx hy)

/-! ## The conversion -/

/-- The part with every channel converted, its notices not yet sent. -/
def converted (vs : List Nat) (s : State) : State :=
  s.onSig fun g => { g with channels := convertAll g.channels vs, convs := g.convs + 1 }

/-- R30: while the window has room, a conversion is that of every channel with the notices of the changes. -/
theorem takeConversion_eq {vs : List Nat} {s : State} (h : s.sig.convs < 4) : takeConversion vs s =
    noticeSensors 0 s.sig.channels (convertAll s.sig.channels vs) (converted vs s) :=
  if_neg (Nat.not_le.mpr h)

/-- R33: the notices are all that follows the conversion of the channels. -/
theorem noticedSince_takeConversion {vs : List Nat} {s : State} (h : s.sig.convs < 4) :
    NoticedSince (converted vs s) (takeConversion vs s) :=
  takeConversion_eq h ▸ noticedSince_noticeSensors _ _ _ _

theorem exec_conversion {vs : List Nat} {s : State} (hc : Calm s) (h : s.sig.convs < 4) :
    exec (.conversion vs) s = .next (takeConversion vs s) := by
  obtain ⟨new, last, ovf, ht⟩ := noticedSince_takeConversion (vs := vs) h
  refine finish_calm _ ?_
  rw [ht]
  exact Calm.of_eq hc rfl rfl (convertAll_fn _ _) rfl rfl

/-- Settles O6: the channels convert one by one, and the notices of the changes follow. -/
theorem conversionAddsToTheSumsAndMovesTheSensorState :
    Obligations.ConversionAddsToTheSumsAndMovesTheSensorState := by
  intro vs s hc hlen hconvs
  obtain ⟨new, last, ovf, ht⟩ := noticedSince_takeConversion (vs := vs) hconvs
  have hchan : (takeConversion vs s).sig.channels = convertAll s.sig.channels vs := by rw [ht]; rfl
  refine ⟨takeConversion vs s, exec_conversion hc hconvs, by rw [ht]; rfl, by rw [hchan, convertAll_length hlen],
    ⟨new, by rw [ht]; rfl⟩, ?_, ?_, ?_⟩
  · intro n c d hn hd hne hf hroom
    rw [hchan] at hd
    have := noticeSensors_told (n := 0) (s := converted vs s) hn hd hne hf hroom
    rw [Nat.zero_add] at this
    rw [takeConversion_eq hconvs]
    exact this
  · rw [hchan]
    intro h
    rw [takeConversion_eq hconvs, noticeSensors_still h]
    rfl
  · intro n c v hn hv
    rw [hchan]
    refine ⟨c.convert v, convertAll_getElem? hlen hn hv, by simp, by simp, by simp, ?_, ?_, ?_, ?_⟩
    · intro hf hr
      simp [Channel.sense_sound_rail hf (atRail_eq_true hr)]
    · intro hf h0 h1
      simp [Channel.sense_sound_good hf (atRail_eq_false h0 h1), hf]
    · intro hf hr
      simp [Channel.sense_faulted_rail hf (atRail_eq_true hr), hf]
    · intro hf h0 h1
      split
      · next hr => simp [Channel.sense_faulted_good hf (atRail_eq_false h0 h1) hr, hf]
      · next hr => simp [Channel.sense_faulted_clears hf (atRail_eq_false h0 h1) (Nat.not_lt.mp hr)]

end Sys2Proof.Machine
end

section
/-! SUPPORT. A sample of the lane lines (R38), and SET_CLOCK and SET_LIVE (R28, R193), on a part at rest. -/

namespace Sys2Proof.Machine

/-! ## A line sample (R38) -/

theorem Line.sample_other {l : Line} (h : l.fn.isInput = false) (b : Bool) (now : LaneTime) :
    l.sample b now = (l, false) := by simp [Line.sample, h]

theorem Line.sample_steady {l : Line} {b : Bool} (h : l.fn.isInput = true) (hr : l.reads b = l.debounced)
    (now : LaneTime) : l.sample b now = ({ l with change := none }, false) := by simp [Line.sample, h, hr]

theorem Line.sample_stood {l : Line} {b : Bool} {now : LaneTime} (h : l.fn.isInput = true)
    (hr : l.reads b ≠ l.debounced) (ht : l.debounce ≤ (now - l.change.getD now).toNat) :
    l.sample b now = ({ l with debounced := !l.debounced, change := none }, true) := by
  unfold Line.sample
  rw [if_neg (by simp [h]), if_neg (by simpa using hr)]
  exact if_pos ht

theorem Line.sample_pending {l : Line} {b : Bool} {now : LaneTime} (h : l.fn.isInput = true)
    (hr : l.reads b ≠ l.debounced) (ht : ¬ l.debounce ≤ (now - l.change.getD now).toNat) :
    l.sample b now = ({ l with change := some (l.change.getD now) }, false) := by
  unfold Line.sample
  rw [if_neg (by simp [h]), if_neg (by simpa using hr)]
  exact if_neg ht

/-- R38: a sample keeps a line's settings. -/
theorem Line.sample_settings (l : Line) (b : Bool) (now : LaneTime) : (l.sample b now).1.fn = l.fn
    ∧ (l.sample b now).1.level = l.level ∧ (l.sample b now).1.debounce = l.debounce := by
  unfold Line.sample
  dsimp only
  split
  · exact ⟨rfl, rfl, rfl⟩
  · split
    · exact ⟨rfl, rfl, rfl⟩
    · split <;> exact ⟨rfl, rfl, rfl⟩

/-- R38: a changed line gives its edge before the edges of the lines behind it. -/
theorem sampleLines_cons (n : Nat) (levels : BitVec 24) (now : LaneTime) (l : Line) (ls : List Line) :
    sampleLines n levels now (l :: ls) =
      ((l.sample (levels.getLsbD n) now).1 :: (sampleLines (n + 1) levels now ls).1,
        (if (l.sample (levels.getLsbD n) now).2 then
          [{ fn := (l.sample (levels.getLsbD n) now).1.fn
             active := (l.sample (levels.getLsbD n) now).1.debounced, stamp := now }]
        else []) ++ (sampleLines (n + 1) levels now ls).2) := rfl

/-- R38: line `n + k` takes its own level, and a change of its debounced state is an edge. -/
theorem sampleLines_getElem? {n k : Nat} {levels : BitVec 24} {now : LaneTime} {ls : List Line} {l : Line}
    (h : ls[k]? = some l) :
    (sampleLines n levels now ls).1[k]? = some (l.sample (levels.getLsbD (n + k)) now).1
      ∧ ((l.sample (levels.getLsbD (n + k)) now).2 = true →
          { fn := (l.sample (levels.getLsbD (n + k)) now).1.fn
            active := (l.sample (levels.getLsbD (n + k)) now).1.debounced, stamp := now }
            ∈ (sampleLines n levels now ls).2) := by
  induction ls generalizing n k with
  | nil => cases h
  | cons x ls ih =>
    rw [sampleLines_cons]
    cases k with
    | zero =>
      cases h
      refine ⟨rfl, fun hx => List.mem_append_left _ ?_⟩
      rw [Nat.add_zero] at hx ⊢
      rw [if_pos hx]
      exact List.mem_singleton_self _
    | succ k =>
      have := ih (n := n + 1) h
      rw [show n + 1 + k = n + (k + 1) by omega] at this
      exact ⟨this.1, fun hx => List.mem_append_right _ (this.2 hx)⟩

/-- Settles O9: each line takes its level of the sample by the cases of R38. -/
theorem lineSampleDebouncesEveryInput : Obligations.LineSampleDebouncesEveryInput := by
  intro levels s hc
  refine ⟨takeLineSample levels s, finish_onSig hc rfl, rfl, fun n l hn => ?_⟩
  obtain ⟨hget, hedge⟩ := sampleLines_getElem? (n := 0) (levels := levels) (now := s.time.now) hn
  rw [Nat.zero_add] at hget hedge
  obtain ⟨hfn, hlevel, hdeb⟩ := l.sample_settings (levels.getLsbD n) s.time.now
  refine ⟨_, hget, hfn, hlevel, hdeb, fun hi => ?_, fun hi hr => ?_, fun hi hr => ?_⟩
  · rw [Line.sample_other hi]
  · rw [Line.sample_steady hi hr]
    exact ⟨rfl, rfl⟩
  · split
    · next ht =>
      rw [Line.sample_stood hi hr ht] at hedge ⊢
      exact ⟨rfl, rfl, List.mem_append_right _ (hedge rfl)⟩
    · next ht =>
      rw [Line.sample_pending hi hr ht]
      exact ⟨rfl, rfl⟩

/-! ## SET_CLOCK and SET_LIVE (R28, R193) -/

theorem calm_onPort {s : State} (h : Calm s) (f : HostPort → HostPort) : Calm (s.onPort f) :=
  Calm.of_eq h rfl rfl rfl rfl rfl

theorem setClock_taken {y mo d h mi sec : Nat} (hd : DateInRange y mo d h mi sec) (s : State) :
    setClock y mo d h mi sec s = accept (s.onTime fun b =>
      { b with refLane := b.now, refMs := msOfDate y mo d h mi sec, clockSet := true }) :=
  if_pos ((dateOk_iff ..).mpr hd)

theorem setClock_refused {y mo d h mi sec : Nat} (hd : ¬ DateInRange y mo d h mi sec) (s : State) :
    setClock y mo d h mi sec s = refuse .badField s :=
  if_neg (mt (dateOk_iff ..).mp hd)

theorem setLive_refused {st d : Nat} (h : 100 < d ∨ 1 < st) (s : State) : setLive st d s = refuse .badField s := by
  unfold setLive
  split
  · rfl
  · next hd =>
    have hst : ofCode stations st = none := List.getElem?_eq_none (h.resolve_left hd)
    rw [hst]

theorem setLive_taken {st d : Nat} (h : ¬ (100 < d ∨ 1 < st)) (s : State) : setLive st d s = accept (s.onPort fun p =>
    if st = 0 then { p with entryDivider := d, entryLiveCount := 0 }
    else { p with brakeDivider := d, brakeLiveCount := 0 }) := by
  obtain ⟨hd, hst⟩ := not_or.mp h
  have : st = 0 ∨ st = 1 := by omega
  unfold setLive
  rw [if_neg hd]
  rcases this with rfl | rfl <;> rfl

/-- Settles O16: both requests by their checks, and the value that each takes. -/
theorem clockAndLiveRequestsTakeTheirValues : Obligations.ClockAndLiveRequestsTakeTheirValues := by
  intro s hc
  refine ⟨fun tag y mo d h mi sec hr hd => ?_, fun tag y mo d h mi sec hr hd => ?_, fun tag st d hr => ?_⟩
  · refine (answer_next _ 0x03 tag _ s .ok .none _ hr (setClock_taken hd _) ?_).trans ?_
    · exact Calm.of_eq (calm_atOwner _ s hc) rfl rfl rfl rfl rfl
    · rw [replyWith]
      simp only [postReply, State.onPort, State.onTime, atOwner_now]
  · exact answer_unchanged hc hr (setClock_refused hd _)
  · split
    · next h => exact answer_unchanged hc hr (setLive_refused h _)
    · next h =>
      have hcalm := calm_onPort (calm_atOwner (.setLive tag st d) s hc)
      refine (answer_next _ 0x13 tag _ s .ok .none _ hr (setLive_taken h _) (hcalm _)).trans ?_
      by_cases h0 : st = 0
      · simp only [if_pos h0]; rfl
      · simp only [if_neg h0]; rfl

end Sys2Proof.Machine
end

section
/-! SUPPORT. SET_CHANNELS on a part at rest (R32, R184): the channel table that an accepted request leaves, and the
collection that it may abandon. -/

namespace Sys2Proof.Machine

/-! ## SET_CHANNELS (R32, R184) -/

/-- R32: an accepted SET_CHANNELS makes the assignments read. -/
theorem setChannelTable_accepted {as : List (Nat × Nat)} {s : State} (hf : ChannelsFieldsOk as s)
    (hi : ChannelsIdleOk as s) : ∃ bs, readAll assignmentOf as = some bs ∧ setChannelTable as s
      = accept (s.onSig fun g => { g with channels := assignChannels bs g.channels }) := by
  have hok := (setChannelTable_cases as s).2.2 hf hi
  unfold setChannelTable at hok ⊢
  cases hb : readAll assignmentOf as with
  | none => rw [hb] at hok; cases hok
  | some bs =>
    refine ⟨bs, rfl, ?_⟩
    rw [hb] at hok
    dsimp only at hok ⊢
    split at hok
    · cases hok
    · split at hok
      · cases hok
      · split at hok
        · cases hok
        · next h1 h2 h3 => rw [if_neg h1, if_neg h2, if_neg h3]

/-- R32: assignments change the functions of the channels alone. -/
theorem assignChannels_getElem? (as : List (Nat × ChannelFn)) {cs : List Channel} {n : Nat} {c : Channel}
    (h : cs[n]? = some c) : ∃ d, (assignChannels as cs)[n]? = some d ∧ { d with fn := c.fn } = c := by
  induction as generalizing cs c with
  | nil => exact ⟨c, h, rfl⟩
  | cons a as ih =>
    have hmod : (tableMod cs a.1 fun c => { c with fn := a.2 })[n]?
        = some (if a.1 = n then { c with fn := a.2 } else c) := by
      unfold tableMod
      rw [List.getElem?_modify, h]
      rfl
    obtain ⟨d, hd, he⟩ := ih hmod
    refine ⟨d, hd, ?_⟩
    split at he
    · exact congrArg (fun x : Channel => { x with fn := c.fn }) he
    · exact he

theorem collectionMoved_self (s : State) : collectionMoved s s = false := by
  unfold collectionMoved; simp

theorem setChannels_refused {as : List (Nat × Nat)} {s : State} {st : Status}
    (h : setChannelTable as s = refuse st s) : setChannels as s = refuse st s := by
  unfold setChannels
  rw [h]
  exact if_neg (by simp [refuse, collectionMoved_self])

@[simp] theorem abandonCollection_sig (s : State) : (abandonCollection s).sig = s.sig := by
  unfold abandonCollection; split <;> rfl

/-- R184: with its collection abandoned a part that owes nothing else is at rest. -/
theorem calm_abandonCollection {s : State} (hw : s.work = Work.none) (hq : WritesRest s) :
    Calm (abandonCollection s) := by
  unfold abandonCollection
  split
  · next h => exact ⟨hw, hq, fun c hc => by rw [h] at hc; cases hc⟩
  · exact ⟨hw, hq, fun c hc => by cases hc⟩

/-- R184: a channel is as busy as before when neither its function nor the stations changed. -/
theorem channelBusy_onSig {n : Nat} {s : State} {f : Signals → Signals}
    (h : ((f s.sig).channels.getD n Channel.reset).fn = (s.sig.channels.getD n Channel.reset).fn) :
    channelBusy n (s.onSig f) = channelBusy n s := by
  unfold channelBusy
  rw [State.onSig_sig, h]
  rfl

/-- R32, R184: an accepted SET_CHANNELS leaves the part at rest, with the assignments made; a collection whose channel
changed its function is abandoned. -/
theorem setChannels_accepted {as : List (Nat × Nat)} {s : State} (hc : Calm s) (hf : ChannelsFieldsOk as s)
    (hi : ChannelsIdleOk as s) : ∃ bs u, readAll assignmentOf as = some bs ∧ setChannels as s = accept u ∧ Calm u
      ∧ u.sig.channels = assignChannels bs s.sig.channels := by
  obtain ⟨bs, hb, ht⟩ := setChannelTable_accepted hf hi
  have hset : setChannels as s = if collectionMoved s (setChannelTable as s).state then
      { setChannelTable as s with state := abandonCollection (setChannelTable as s).state }
      else setChannelTable as s := rfl
  rw [ht] at hset
  by_cases hm : collectionMoved s (s.onSig fun g => { g with channels := assignChannels bs g.channels }) = true
  · exact ⟨bs, _, hb, hset.trans (if_pos hm), calm_abandonCollection hc.1 hc.writesRest, by simp⟩
  · refine ⟨bs, _, hb, hset.trans (if_neg hm), ⟨hc.1, hc.writesRest, fun c hcol => ?_⟩, rfl⟩
    have hcol' : s.cal.collection = some c := hcol
    have hfn : (s.sig.channels.getD c.channel Channel.reset).fn
        = ((assignChannels bs s.sig.channels).getD c.channel Channel.reset).fn := by
      simpa [collectionMoved, hcol'] using hm
    rw [channelBusy_onSig hfn.symm]
    exact hc.2.2 c hcol'

/-- R32: after the assignments read, each named channel holds its function and the others keep theirs. -/
theorem assignChannels_read {as : List (Nat × Nat)} {bs : List (Nat × ChannelFn)} {cs : List Channel} {n : Nat}
    {c : Channel} (hb : readAll assignmentOf as = some bs) (hnd : (as.map Prod.fst).Nodup) (hn : cs[n]? = some c) :
    ∃ d, (assignChannels bs cs)[n]? = some d ∧ { d with fn := c.fn } = c
      ∧ (∀ f, (n, f) ∈ as → ofCode channelFns f = some d.fn) ∧ ((∀ f, (n, f) ∉ as) → d.fn = c.fn) := by
  obtain ⟨hfst, hrange, hmem⟩ := readAll_assignments hb
  obtain ⟨d, hd, hkeep⟩ := assignChannels_getElem? bs hn
  have hfn : ∀ f, (n, f) ∈ bs ∨ ((∀ g, (n, g) ∉ bs) ∧ (cs.map Channel.fn)[n]? = some f) → d.fn = f := by
    intro f hf
    have := (assignChannels_fn (hfst ▸ hnd) cs n f (List.getElem?_eq_some_iff.mp hn).1).mpr hf
    rw [List.getElem?_map, hd] at this
    exact Option.some.inj this
  refine ⟨d, hd, hkeep, fun f hf => ?_,
    fun hno => hfn _ (.inr ⟨fun g hg => ?_, by rw [List.getElem?_map, hn]; rfl⟩)⟩
  · have hlt : f < channelFns.length := Nat.lt_succ_of_le (hrange _ hf).2
    have hcode : ofCode channelFns f = some channelFns[f] := List.getElem?_eq_getElem hlt
    rw [hcode, hfn _ (.inl ((hmem n _).mpr ⟨f, hf, hcode⟩))]
  · obtain ⟨k, hk, -⟩ := (hmem n g).mp hg
    exact hno k hk

/-- Settles O18: refused by the checks of R32, or the assignments made. -/
theorem setChannelsChangesOnlyTheNamedFunctions : Obligations.SetChannelsChangesOnlyTheNamedFunctions := by
  intro tag as s hc hr
  have hat := atOwner_eq (.setChannels tag as) s
  have hfields : ChannelsFieldsOk as (atOwner (.setChannels tag as) s) ↔ ChannelsFieldsOk as s := by rw [hat]; rfl
  have hidle : ChannelsIdleOk as (atOwner (.setChannels tag as) s) ↔ ChannelsIdleOk as s := by rw [hat]; rfl
  obtain ⟨hbad, hbusy, -⟩ := setChannelTable_cases as (atOwner (.setChannels tag as) s)
  rw [hfields] at hbad hbusy
  rw [hidle] at hbusy
  refine ⟨fun hf => ?_, fun hf hi => ?_, fun hf hi => ?_⟩
  · exact answer_unchanged hc hr (setChannels_refused (hbad hf))
  · exact answer_unchanged hc hr (setChannels_refused (hbusy hf hi))
  · obtain ⟨bs, u, hb, hset, hcalm, hchan⟩ :=
      setChannels_accepted (calm_atOwner _ s hc) (hfields.mpr hf) (hidle.mpr hi)
    refine ⟨_, answer_next _ 0x06 tag _ s .ok .none u hr hset hcalm,
      List.mem_append_right _ (List.mem_singleton_self _), fun n c hn => ?_⟩
    have hchan' : u.sig.channels = assignChannels bs s.sig.channels := by rw [hchan, hat]
    obtain ⟨-, -, hnd, -⟩ := hf
    rw [postReply_eq, hchan']
    exact assignChannels_read hb hnd hn

end Sys2Proof.Machine
end

section
/-! SUPPORT. SET_LINES on a part at rest (R39, R40): the lines that an accepted request restarts, the edges it gives, and
what the restarted lines drive. -/

namespace Sys2Proof.Machine

/-! ## The entries as they are read -/

/-- R199: what an entry is read as holds its line, function, level and debounce time. -/
theorem lineOf_fields {e : RawLine} {b : Nat × LineFn × Level × Nat} (h : lineOf e = some b) : b.1 = e.line
    ∧ ofCode lineFns e.fn = some b.2.1 ∧ ofCode levels e.level = some b.2.2.1 ∧ b.2.2.2 = e.debounce := by
  obtain ⟨-, hline, hfn⟩ := lineOf_eq_some h
  refine ⟨hline, hfn, ?_⟩
  unfold lineOf at h
  rw [hfn] at h
  cases hl : ofCode levels e.level with
  | none => rw [hl] at h; cases h
  | some l =>
    rw [hl] at h
    dsimp only at h
    split at h
    · have hb := Option.some.inj h
      exact ⟨congrArg (fun x => some x.2.2.1) hb, (congrArg (fun x => x.2.2.2) hb).symm⟩
    · cases h

/-- Each entry of a list that was read has its value among those read. -/
theorem readAll_mem {α β : Type} {f : α → Option β} {l : List α} {m : List β} (h : readAll f l = some m) {a : α}
    (ha : a ∈ l) : ∃ b ∈ m, f a = some b := by
  have : f a ∈ m.map some := readAll_eq_some h ▸ List.mem_map_of_mem ha
  obtain ⟨b, hb, he⟩ := List.mem_map.mp this
  exact ⟨b, hb, he.symm⟩

/-! ## Lines restarted (R40) -/

/-- R40: the entries' lines restarted in order. -/
def restartLines (now : LaneTime) (bs : List (Nat × LineFn × Level × Nat)) (g : Signals) : Signals :=
  bs.foldl (fun g e => restartLine now e g) g

theorem restartLines_cons (now : LaneTime) (b : Nat × LineFn × Level × Nat) (bs : List (Nat × LineFn × Level × Nat))
    (g : Signals) : restartLines now (b :: bs) g = restartLines now bs (restartLine now b g) := rfl

/-- R40: the line that an entry gives: inactive, with no pending change. -/
def restartedLine (b : Nat × LineFn × Level × Nat) : Line :=
  { fn := b.2.1, level := b.2.2.1, debounce := b.2.2.2, debounced := false, change := none }

theorem restartLine_same {now : LaneTime} {b : Nat × LineFn × Level × Nat} {g : Signals} {l : Line}
    (h : g.lines[b.1]? = some l) : (restartLine now b g).lines[b.1]? = some (restartedLine b)
      ∧ (l.fn.isInput = true → l.debounced = true →
          { fn := l.fn, active := false, stamp := now } ∈ (restartLine now b g).edges) := by
  have hold : g.lines.getD b.1 Line.reset = l := by rw [List.getD_eq_getElem?_getD, h]; rfl
  obtain ⟨hlt, -⟩ := List.getElem?_eq_some_iff.mp h
  unfold restartLine
  dsimp only
  rw [hold]
  refine ⟨List.getElem?_set_self hlt, fun hi hd => ?_⟩
  rw [if_pos (by simp [hi, hd])]
  exact List.mem_append_right _ (List.mem_singleton_self _)

theorem restartLine_ne {now : LaneTime} {b : Nat × LineFn × Level × Nat} {n : Nat} (h : b.1 ≠ n) (g : Signals) :
    (restartLine now b g).lines[n]? = g.lines[n]? := List.getElem?_set_ne h

theorem restartLine_edges (now : LaneTime) (b : Nat × LineFn × Level × Nat) (g : Signals) :
    g.edges ⊆ (restartLine now b g).edges := by
  unfold restartLine
  dsimp only
  split
  · exact List.subset_append_left _ _
  · exact List.Subset.refl _

theorem restartLines_edges (now : LaneTime) (bs : List (Nat × LineFn × Level × Nat)) (g : Signals) :
    g.edges ⊆ (restartLines now bs g).edges := by
  induction bs generalizing g with
  | nil => exact List.Subset.refl _
  | cons b bs ih => exact List.Subset.trans (restartLine_edges now b g) (ih _)

/-- R40: the other lines keep what they hold. -/
theorem restartLines_other {now : LaneTime} {bs : List (Nat × LineFn × Level × Nat)} {n : Nat}
    (h : ∀ b ∈ bs, b.1 ≠ n) (g : Signals) : (restartLines now bs g).lines[n]? = g.lines[n]? := by
  induction bs generalizing g with
  | nil => rfl
  | cons b bs ih =>
    rw [restartLines_cons, ih fun x hx => h x (List.mem_cons_of_mem _ hx), restartLine_ne (h b List.mem_cons_self)]

/-- R40: an entry restarts its line, and an active input function that stood there gives an inactive edge. -/
theorem restartLines_named {now : LaneTime} {bs : List (Nat × LineFn × Level × Nat)}
    {b : Nat × LineFn × Level × Nat} {g : Signals} {l : Line} (hnd : (bs.map Prod.fst).Nodup) (hb : b ∈ bs)
    (hl : g.lines[b.1]? = some l) : (restartLines now bs g).lines[b.1]? = some (restartedLine b)
      ∧ (l.fn.isInput = true → l.debounced = true →
          { fn := l.fn, active := false, stamp := now } ∈ (restartLines now bs g).edges) := by
  induction bs generalizing g with
  | nil => cases hb
  | cons a bs ih =>
    rw [List.map_cons, List.nodup_cons] at hnd
    obtain ⟨hna, hnd⟩ := hnd
    rw [restartLines_cons]
    rcases List.mem_cons.mp hb with rfl | hb
    · obtain ⟨hline, hedge⟩ := restartLine_same (now := now) hl
      have hne : ∀ x ∈ bs, x.1 ≠ b.1 := fun x hx he => hna (List.mem_map.mpr ⟨x, hx, he⟩)
      exact ⟨(restartLines_other hne _).trans hline, fun hi hd => restartLines_edges now bs _ (hedge hi hd)⟩
    · have hne : a.1 ≠ b.1 := fun he => hna (List.mem_map.mpr ⟨b, hb, he.symm⟩)
      exact ih hnd hb ((restartLine_ne hne g).trans hl)

/-- R40: SET_LINES changes the lines and the edges on their way alone. -/
theorem restartLines_eq (now : LaneTime) (bs : List (Nat × LineFn × Level × Nat)) (g : Signals) :
    restartLines now bs g
      = { g with lines := (restartLines now bs g).lines, edges := (restartLines now bs g).edges } := by
  induction bs generalizing g with
  | nil => rfl
  | cons b bs ih => rw [restartLines_cons, ih (restartLine now b g)]; rfl

/-! ## The request -/

/-- R40: an accepted SET_LINES restarts the lines of the entries read. -/
theorem setLines_accepted {es : List RawLine} {s : State} (hf : LinesFieldsOk es s)
    (he : stationIdle .entry s = true) (hb : stationIdle .brake s = true) :
    ∃ bs, readAll lineOf es = some bs ∧ setLines es s = accept (s.onSig (restartLines s.now bs)) := by
  have hok := (setLines_cases es s).2.2 hf he hb
  unfold setLines at hok ⊢
  cases hr : readAll lineOf es with
  | none => rw [hr] at hok; cases hok
  | some bs =>
    refine ⟨bs, rfl, ?_⟩
    rw [hr] at hok
    dsimp only at hok ⊢
    split at hok
    · cases hok
    · split at hok
      · cases hok
      · split at hok
        · cases hok
        · next h1 h2 h3 => rw [if_neg h1, if_neg h2, if_neg h3]; rfl

/-- R39: what an output function shows is told by the output functions' states and lane time. -/
theorem outputLit_of_eq {s t : State} (ho : t.sig.outputs = s.sig.outputs) (ht : t.time = s.time) (f : LineFn) :
    outputLit f t = outputLit f s := by
  unfold outputLit State.now
  rw [ho, ht]

/-- R40: a line without a function drives nothing. -/
theorem Line.driven_none {l : Line} (h : l.fn = .none) (s : State) : l.driven s = none := by
  unfold Line.driven; rw [h]; rfl

/-- Settles O19: refused by the checks of R40, or the lines named restarted. -/
theorem setLinesRestartsTheNamedLines : Obligations.SetLinesRestartsTheNamedLines := by
  intro tag es s hc hr
  have hat := atOwner_eq (.setLines tag es) s
  have hfields : LinesFieldsOk es (atOwner (.setLines tag es) s) ↔ LinesFieldsOk es s := by rw [hat]; rfl
  have hidle : ∀ st, stationIdle st (atOwner (.setLines tag es) s) = stationIdle st s := by rw [hat]; exact fun _ => rfl
  obtain ⟨hbad, hbusy, -⟩ := setLines_cases es (atOwner (.setLines tag es) s)
  rw [hfields] at hbad hbusy
  rw [hidle, hidle] at hbusy
  refine ⟨fun hf => answer_unchanged hc hr (hbad hf), fun hf hi => answer_unchanged hc hr (hbusy hf hi),
    fun hf he hb => ?_⟩
  obtain ⟨bs, hread, hset⟩ := setLines_accepted (hfields.mpr hf) ((hidle _).trans he) ((hidle _).trans hb)
  have hnow : (atOwner (.setLines tag es) s).now = s.time.now := congrArg TimeBase.now (atOwner_now _ s)
  have hsig : (atOwner (.setLines tag es) s).sig = s.sig := by rw [hat]
  rw [hnow] at hset
  have hcalm : Calm ((atOwner (.setLines tag es) s).onSig (restartLines s.time.now bs)) :=
    Calm.of_eq (calm_atOwner _ s hc) rfl rfl (by rw [State.onSig_sig, restartLines_eq]) rfl rfl
  refine ⟨_, answer_next _ 0x07 tag _ s .ok .none _ hr hset hcalm,
    List.mem_append_right _ (List.mem_singleton_self _), fun n l hn => ?_⟩
  obtain ⟨hfst, -, -⟩ := readAll_lines hread
  obtain ⟨-, -, hnd, -⟩ := hf
  rw [← hfst] at hnd
  have hlen : n < (restartLines s.time.now bs s.sig).lines.length :=
    (restartLines_length bs s.time.now s.sig).symm ▸ (List.getElem?_eq_some_iff.mp hn).1
  have hm := List.getElem?_eq_getElem hlen
  rw [postReply_eq, State.onSig_sig, hsig]
  refine ⟨_, hm, fun e hmem hline => ?_, fun hno => ?_⟩
  · obtain ⟨b, hbs, hb⟩ := readAll_mem hread hmem
    obtain ⟨hb1, hfn, hlevel, hdeb⟩ := lineOf_fields hb
    have hbn : b.1 = n := hb1.trans hline
    subst hbn
    obtain ⟨hget, hedge⟩ := restartLines_named (now := s.time.now) hnd hbs hn
    rw [Option.some.inj (hm.symm.trans hget)]
    refine ⟨hfn, hlevel, rfl, rfl, fun _ => hdeb, hedge, fun x hx => Line.driven_eq ?_, fun h => Line.driven_none h _⟩
    refine (outputLit_of_eq ?_ ?_ _).trans hx
    · rw [restartLines_eq]
    · rw [hat]; rfl
  · have hother : ∀ b ∈ bs, b.1 ≠ n := by
      intro b hb h
      have : n ∈ es.map RawLine.line := hfst ▸ List.mem_map.mpr ⟨b, hb, h⟩
      obtain ⟨e, he, h⟩ := List.mem_map.mp this
      exact hno e he h
    exact Option.some.inj (hm.symm.trans ((restartLines_other hother _).trans hn))

end Sys2Proof.Machine
end

section
/-! SUPPORT. What follows an event (R12, R65, R67, R126, R184), as frames: Guidance and the end of a collection, then
everything that can follow while no binding waits. -/

namespace Sys2Proof.Machine

/-! ## Guidance and a collection's end -/

/-- Guidance and the lamps may differ. -/
def GuideOnly (s t : State) : Prop := ∃ g o, t = { s with guide := g, sig := { s.sig with outputs := o } }

theorem GuideOnly.refl (s : State) : GuideOnly s s := ⟨s.guide, s.sig.outputs, rfl⟩

theorem GuideOnly.trans {s t u : State} (h : GuideOnly s t) (h' : GuideOnly t u) : GuideOnly s u := by
  obtain ⟨g, o, rfl⟩ := h
  obtain ⟨g', o', rfl⟩ := h'
  exact ⟨g', o', rfl⟩

theorem guideOnly_enter (st : Station) (n : Option Nat) (s : State) : GuideOnly s (enter st n s) :=
  ⟨_, _, enter_eq st n s⟩

theorem guideOnly_modGuide (st : Station) (f : StationGuide → StationGuide) (s : State) :
    GuideOnly s (modGuide st f s) := ⟨(modGuide st f s).guide, s.sig.outputs, rfl⟩

theorem guideOnly_runProgram (st : Station) (p : Nat) (s : State) : GuideOnly s (runProgram st p s) :=
  (guideOnly_modGuide _ _ s).trans (guideOnly_enter _ _ _)

theorem guideOnly_raiseFlag (e : GEvent) (s : State) : GuideOnly s (raiseFlag e s) := by
  unfold raiseFlag
  dsimp only
  split
  · exact .refl s
  · split
    · exact .refl s
    · split
      · exact (guideOnly_modGuide _ _ s).trans (guideOnly_enter _ _ _)
      · exact guideOnly_modGuide _ _ s

/-- R126: a result that Guidance takes changes Guidance and the lamps alone. -/
theorem guideOnly_takeItem (s : State) (i : GuideItem) : GuideOnly s (takeItem s i) := by
  cases i with
  | vehicle st v => exact guideOnly_runProgram _ _ s
  | event e =>
    show GuideOnly s (takeEvent e s)
    unfold takeEvent
    split
    · exact (guideOnly_runProgram _ _ s).trans (guideOnly_raiseFlag e _)
    · exact guideOnly_raiseFlag e s
  | brakeSample =>
    show GuideOnly s (compareSample s)
    unfold compareSample
    split
    · exact .refl s
    · split
      · exact guideOnly_enter _ _ s
      · exact .refl s

theorem guideOnly_settleGuidance (s : State) : GuideOnly (s.onWork fun _ => Work.none) (settleGuidance s) := by
  have hf : ∀ (l : List GuideItem) (u : State), GuideOnly u (l.foldl takeItem u) := by
    intro l
    induction l with
    | nil => exact .refl
    | cons i l ih => exact fun u => (guideOnly_takeItem u i).trans (ih _)
  exact hf _ _

/-- R184: a collection abandoned ends with its reply. -/
theorem guardCollection_eq (s : State) : ∃ c r, guardCollection s =
    { s with cal := { s.cal with collection := c }, port := { s.port with replies := r } } := by
  unfold guardCollection
  split
  · exact ⟨_, _, rfl⟩
  · split
    · exact ⟨_, _, rfl⟩
    · exact ⟨_, _, rfl⟩

/-- R126, R184: `u` is `t` once Guidance has taken its results and a collection may have ended. -/
def Rested (t u : State) : Prop :=
  ∃ g o c r, u = { t with
    guide := g, sig := { t.sig with outputs := o }, cal := { t.cal with collection := c }
    port := { t.port with replies := r }, work := Work.none }

theorem rested_tail (s : State) : Rested s (settleGuidance (guardCollection s)) := by
  obtain ⟨c, r, hc⟩ := guardCollection_eq s
  obtain ⟨g, o, hg⟩ := guideOnly_settleGuidance (guardCollection s)
  rw [hg, hc]
  exact ⟨g, o, c, r, rfl⟩

/-- Where nothing but results for Guidance is owed, nothing more follows. -/
theorem settle_rested {s : State} (hw : WritesRest s) (hh : s.work.headMoved = false) (hr : s.work.retry = false)
    (hm : s.work.rematch = false) : Rested s (settle s) := by
  have hretry : settleRetry s = s := by unfold settleRetry; rw [hr]; rfl
  have hmatch : settleRematch s = s := by unfold settleRematch; rw [hm]; rfl
  unfold settle
  rw [settleWrites_rest hw, settleHead_still hh, hretry, settleHead_still hh, hmatch]
  exact rested_tail s

namespace Rested

variable {t u : State}

theorem time (h : Rested t u) : u.time = t.time := by obtain ⟨g, o, c, r, rfl⟩ := h; rfl
theorem vt (h : Rested t u) : u.vt = t.vt := by obtain ⟨g, o, c, r, rfl⟩ := h; rfl
theorem entry (h : Rested t u) : u.entry = t.entry := by obtain ⟨g, o, c, r, rfl⟩ := h; rfl
theorem brake (h : Rested t u) : u.brake = t.brake := by obtain ⟨g, o, c, r, rfl⟩ := h; rfl
theorem traces (h : Rested t u) : u.traces = t.traces := by obtain ⟨g, o, c, r, rfl⟩ := h; rfl
theorem inbox (h : Rested t u) : u.sig.entryInbox = t.sig.entryInbox := by obtain ⟨g, o, c, r, rfl⟩ := h; rfl
theorem notices (h : Rested t u) : u.port.notices = t.port.notices := by obtain ⟨g, o, c, r, rfl⟩ := h; rfl
theorem writesRest (h : Rested t u) (hw : WritesRest t) : WritesRest u := by obtain ⟨g, o, c, r, rfl⟩ := h; exact hw

end Rested

/-! ## Events of the entry station that owe Guidance alone -/

/-- The entry station, the traces, the Host Port and the results for Guidance may differ. -/
def EntryOnly (s t : State) : Prop :=
  ∃ e tr p l, t = { s with entry := e, traces := tr, port := p, work := { s.work with items := l } }

theorem EntryOnly.refl (s : State) : EntryOnly s s := ⟨s.entry, s.traces, s.port, s.work.items, rfl⟩

theorem EntryOnly.trans {s t u : State} (h : EntryOnly s t) (h' : EntryOnly t u) : EntryOnly s u := by
  obtain ⟨e, tr, p, l, rfl⟩ := h
  obtain ⟨e', tr', p', l', rfl⟩ := h'
  exact ⟨e', tr', p', l', rfl⟩

theorem EntryOnly.vt {s t : State} (h : EntryOnly s t) : t.vt = s.vt := by obtain ⟨e, tr, p, l, rfl⟩ := h; rfl
theorem EntryOnly.brake {s t : State} (h : EntryOnly s t) : t.brake = s.brake := by
  obtain ⟨e, tr, p, l, rfl⟩ := h; rfl
theorem EntryOnly.sig {s t : State} (h : EntryOnly s t) : t.sig = s.sig := by obtain ⟨e, tr, p, l, rfl⟩ := h; rfl
theorem EntryOnly.time {s t : State} (h : EntryOnly s t) : t.time = s.time := by obtain ⟨e, tr, p, l, rfl⟩ := h; rfl
theorem EntryOnly.cal {s t : State} (h : EntryOnly s t) : t.cal = s.cal := by obtain ⟨e, tr, p, l, rfl⟩ := h; rfl

theorem entryOnly_onEntry (f : EntryStation → EntryStation) (s : State) : EntryOnly s (s.onEntry f) :=
  ⟨f s.entry, s.traces, s.port, s.work.items, rfl⟩

theorem entryOnly_onTraces (f : TraceStore → TraceStore) (s : State) : EntryOnly s (s.onTraces f) :=
  ⟨s.entry, f s.traces, s.port, s.work.items, rfl⟩

theorem entryOnly_onPort (f : HostPort → HostPort) (s : State) : EntryOnly s (s.onPort f) :=
  ⟨s.entry, s.traces, f s.port, s.work.items, rfl⟩

theorem entryOnly_raiseEvent (e : GEvent) (s : State) : EntryOnly s (raiseEvent e s) :=
  ⟨s.entry, s.traces, s.port, (raiseEvent e s).work.items, rfl⟩

theorem entryOnly_handVehicle (st : Station) (v : Option Nat) (s : State) : EntryOnly s (handVehicle st v s) :=
  ⟨s.entry, s.traces, s.port, (handVehicle st v s).work.items, rfl⟩

theorem entryOnly_sendNotice (n : Notice) (s : State) : EntryOnly s (sendNotice n s) := entryOnly_onPort _ s

theorem entryOnly_noticeEntry (c : Option BlockCause) (s : State) : EntryOnly s (noticeEntry c s) :=
  entryOnly_sendNotice _ s

theorem entryOnly_noticeDeparture (n : EntryName) (s : State) : EntryOnly s (noticeDeparture n s) := by
  unfold noticeDeparture
  split
  · exact entryOnly_noticeEntry _ s
  · exact .refl s

theorem entryOnly_checkFinishing (s : State) : EntryOnly s (checkFinishing s) := by
  unfold checkFinishing
  split
  · exact (entryOnly_onEntry _ s).trans (entryOnly_noticeEntry _ _)
  · exact .refl s

theorem entryOnly_openTrace (k : TraceKind) (n : Nat) (a : Option Nat) (s : State) :
    EntryOnly s (openTrace k n a s).2 := by
  unfold openTrace
  split
  · exact ⟨s.entry, _, s.port, s.work.items, rfl⟩
  · exact .refl s

theorem entryOnly_bindStation (k : Nat) (s : State) : EntryOnly s (bindStation k s) :=
  ((((entryOnly_openTrace .entry k none s).trans (entryOnly_onEntry _ _)).trans (entryOnly_handVehicle _ _ _)).trans
    (entryOnly_raiseEvent _ _)).trans (entryOnly_noticeEntry _ _)

theorem entryOnly_appendSample (tr : Option Nat) (x : TraceSample) (t : LaneTime) (s : State) :
    EntryOnly s (appendSample tr x t s) := by
  unfold appendSample
  split
  · exact .refl s
  · exact entryOnly_onTraces _ s

theorem entryOnly_addExcess (tr : Option Nat) (s : State) : EntryOnly s (addExcess tr s) := by
  unfold addExcess
  split
  · exact .refl s
  · exact entryOnly_onTraces _ s

/-- On a part at rest, nothing follows such an event but Guidance. -/
theorem EntryOnly.settles {s t : State} (h : EntryOnly s t) (hc : Calm s) : Rested t (settle t) := by
  obtain ⟨hwork, hw, -⟩ := hc
  obtain ⟨e, tr, p, l, rfl⟩ := h
  exact settle_rested hw (congrArg Work.headMoved hwork) (congrArg Work.retry hwork) (congrArg Work.rematch hwork)

/-! ## What follows while no binding waits -/

/-- R20, R67: how what follows an event may leave a record: one with an untested axle stays as it is; none loses its
entry_done or its place in the table. -/
structure Record.Later (r m : Record) : Prop where
  untested : testDone r = false → m = r
  entryDone : m.entryDone = r.entryDone
  inUse : r.state ≠ .free → m.state ≠ .free

theorem Record.Later.refl (r : Record) : r.Later r := ⟨fun _ => rfl, rfl, fun h => h⟩

theorem Record.Later.trans {r m n : Record} (h : r.Later m) (k : m.Later n) : r.Later n where
  untested hr := by
    have hm := h.untested hr
    exact (k.untested (hm ▸ hr)).trans hm
  entryDone := k.entryDone.trans h.entryDone
  inUse hr := k.inUse (h.inUse hr)

/-- What follows an event while no binding waits leaves lane time, the entry station and the traces alone. -/
structure Followed (s t : State) : Prop where
  time : t.time = s.time
  entry : t.entry = s.entry
  traces : t.traces = s.traces
  writes : WritesRest s → WritesRest t
  records : ∀ k, (s.record k).Later (t.record k)

theorem Followed.refl (s : State) : Followed s s := ⟨rfl, rfl, rfl, id, fun _ => .refl _⟩

theorem Followed.trans {s t u : State} (h : Followed s t) (k : Followed t u) : Followed s u where
  time := k.time.trans h.time
  entry := k.entry.trans h.entry
  traces := k.traces.trans h.traces
  writes hw := k.writes (h.writes hw)
  records n := (h.records n).trans (k.records n)

theorem Followed.record {s t : State} (h : Followed s t) {k : Nat} (hk : testDone (s.record k) = false) :
    t.record k = s.record k := (h.records k).untested hk

/-- What leaves the Vehicle Table, lane time, the entry station, the traces and the store alone follows an event. -/
theorem Followed.of_eq {s t : State} (hvt : t.vt = s.vt) (ht : t.time = s.time) (he : t.entry = s.entry)
    (htr : t.traces = s.traces) (hc : t.cal = s.cal) : Followed s t where
  time := ht
  entry := he
  traces := htr
  writes hw := by unfold WritesRest; rw [hc]; exact hw
  records k := by rw [record_of_vt hvt]; exact .refl _

theorem followed_onWork (f : Work → Work) (s : State) : Followed s (s.onWork f) := .of_eq rfl rfl rfl rfl rfl

theorem BrakeOnly.followed {s t : State} (h : BrakeOnly s t) : Followed s t := by
  obtain ⟨b, o, p, l, rfl⟩ := h
  exact .of_eq rfl rfl rfl rfl rfl

theorem Rested.followed {s t : State} (h : Rested s t) : Followed s t where
  time := h.time
  entry := h.entry
  traces := h.traces
  writes := h.writesRest
  records k := by rw [record_of_vt h.vt]; exact .refl _

theorem completeHead_frame (c : LeaveCause) (s : State) :
    (completeHead c s).time = s.time ∧ (completeHead c s).traces = s.traces := by
  unfold completeHead; split <;> exact ⟨rfl, rfl⟩

theorem leavingMet_iff {s : State} : leavingMet s = true ↔ ∃ h, s.vt.queue.head? = some h
    ∧ (s.record h).entryDone = true ∧ testDone (s.record h) = true ∧ s.vt.exitClear = true := by
  unfold leavingMet
  cases s.vt.queue.head? <;> simp [and_assoc]

/-- R20: only a head that is tested throughout leaves. -/
theorem followed_evaluateLeaving (s : State) : Followed s (evaluateLeaving s) := by
  unfold evaluateLeaving
  split
  · next hm =>
    obtain ⟨h, hh, -, htd, -⟩ := leavingMet_iff.mp hm
    obtain ⟨hcal, hent, -⟩ := completeHead_owed .exit s
    obtain ⟨htime, htr⟩ := completeHead_frame .exit s
    obtain ⟨rest, hq⟩ := List.head?_eq_some_iff.mp hh
    refine ⟨htime, hent, htr, fun hw => ?_, fun k => ?_⟩
    · unfold WritesRest; rw [hcal]; exact hw
    · rw [record_completeHead .exit hq]
      split
      · next hk =>
        rw [hk.1]
        exact ⟨fun hf => absurd (htd.symm.trans hf) (by decide), rfl, fun _ => by simp [Record.completed]⟩
      · exact .refl _
  · exact .refl s

theorem testDone_of_nextAxle_none {r : Record} (h : nextAxle r = none) : testDone r = true := by
  simpa [nextAxle, testDone, List.findIdx?_eq_none_iff, or_iff_not_imp_left] using h

theorem brakeOnly_takeAxle {s : State} (n : Nat) (ph : Phase) (hs : s.brake.state = .waitAxleRecord) :
    BrakeOnly s (takeAxle n ph s) := by
  cases h : zeroingRefusal s with
  | none => exact (takeAxle_passed h).1
  | some c =>
    have e : takeAxle n ph s = enterFault c (s.onBrake fun b => { b with axle := some n, phase := ph }) :=
      enterZeroing_refused h
    have hs' : (s.onBrake fun b => { b with axle := some n, phase := ph }).brake.state = .waitAxleRecord := hs
    rw [e]
    exact (brakeOnly_onBrake _ s).trans (enterFault_idle c (by rw [hs']; decide) (by rw [hs']; rfl)).1

theorem followed_writeRec {k : Nat} {f : Record → Record} {s : State}
    (h : (s.record k).Later { f (s.record k) with lastActivity := s.time.now }) : Followed s (writeRec k f s) where
  time := rfl
  entry := rfl
  traces := rfl
  writes := id
  records j := by
    rw [record_writeRec]
    split
    · next hj => rw [hj.1]; exact h
    · exact .refl _

/-- R67: a match takes an axle, or appends one to a record whose axles are all tested. -/
theorem followed_matchAxle {v : Nat} {s : State} (hs : s.brake.state = .waitAxleRecord) :
    Followed s (matchAxle v s) := by
  cases hn : nextAxle (s.record v) with
  | some n => rw [matchAxle_found hn]; exact (brakeOnly_takeAxle _ _ hs).followed
  | none =>
    cases he : (s.record v).entryDone with
    | false =>
      rw [matchAxle_waits hn he]
      exact ((brakeOnly_dropAxle s).trans (brakeOnly_enterState _ _)).followed
    | true =>
      rcases Nat.lt_or_ge (s.record v).axles.length 12 with hl | hl
      · have ha : appendAxle v (fun a => { a with addedAtRollers := true }) s
            = (true, writeRec v Record.addedAtRollers s) := if_pos hl
        have hw : Followed s (writeRec v Record.addedAtRollers s) := followed_writeRec
          ⟨fun hf => absurd ((testDone_of_nextAxle_none hn).symm.trans hf) (by decide), rfl, id⟩
        have hst : (evaluateLeaving (writeRec v Record.addedAtRollers s)).brake.state = .waitAxleRecord := by
          simpa using hs
        unfold matchAxle
        simp only [hn, he, ha, if_true]
        exact (hw.trans (followed_evaluateLeaving _)).trans (brakeOnly_takeAxle _ _ hst).followed
      · rw [matchAxle_full hn he hl]
        exact ((brakeOnly_dropAxle s).trans (brakeOnly_enterWaitClear _)).followed

theorem followed_settleRematch (s : State) : Followed s (settleRematch s) := by
  unfold settleRematch
  split
  · refine (followed_onWork (fun w => { w with rematch := false }) s).trans ?_
    unfold rematchAxle
    split
    · split
      · next hc =>
        simp only [Bool.and_eq_true, beq_iff_eq] at hc
        exact followed_matchAxle hc.1
      · exact .refl _
    · exact .refl _
  · exact .refl s

theorem followed_settleHead (s : State) : Followed s (settleHead s) := by
  unfold settleHead
  split
  · exact (followed_onWork _ s).trans (brakeOnly_headChanged _).followed
  · exact .refl s

/-- Everything that follows an event while the entry station is not BLOCKED. -/
theorem settle_followed {s : State} (hw : WritesRest s) (hb : s.entry.blocked = false) : Followed s (settle s) := by
  have hhead := followed_settleHead s
  have hretry : Followed s (settleRetry (settleHead s)) := by
    rw [settleRetry_unblocked (by rw [hhead.entry]; exact hb)]
    exact hhead.trans (followed_onWork _ _)
  unfold settle
  rw [settleWrites_rest hw]
  exact ((hretry.trans (followed_settleHead _)).trans (followed_settleRematch _)).trans (rested_tail _).followed

end Sys2Proof.Machine
end

section
/-! SUPPORT. The Host Port under the operations of the stations, and under what follows an event: notices are added
behind those that wait (R192), and no live frame is placed (R193). -/

namespace Sys2Proof.Machine

/-- The notices that wait stay, and the live frame and the entry station's count of window ends are as before. -/
structure HostPort.Kept (p q : HostPort) : Prop where
  notices : ∀ x ∈ p.notices, x ∈ q.notices
  live : q.live = p.live
  count : q.entryLiveCount = p.entryLiveCount

theorem HostPort.Kept.refl (p : HostPort) : p.Kept p := ⟨fun _ h => h, rfl, rfl⟩

theorem HostPort.Kept.of_eq {p q : HostPort} (e : q = p) : p.Kept q := e ▸ .refl p

theorem HostPort.Kept.trans {p q r : HostPort} (h : p.Kept q) (k : q.Kept r) : p.Kept r where
  notices x hx := k.notices x (h.notices x hx)
  live := k.live.trans h.live
  count := k.count.trans h.count

theorem portKept_sendNotice (n : Notice) (s : State) : s.port.Kept (sendNotice n s).port where
  notices x hx := by
    obtain ⟨new, last, ovf, h⟩ := noticedSince_sendNotice n s
    rw [h]
    exact List.mem_append_left _ hx
  live := rfl
  count := rfl

theorem Rested.portKept {s t : State} (h : Rested s t) : s.port.Kept t.port := by
  obtain ⟨g, o, c, r, rfl⟩ := h
  exact ⟨fun _ hx => hx, rfl, rfl⟩

/-! ## The Vehicle Table -/

theorem portKept_completeHead (c : LeaveCause) (s : State) : s.port.Kept (completeHead c s).port := by
  unfold completeHead
  split
  · exact .refl _
  · exact portKept_sendNotice _ (modRec _ _ (s.onVt _))

theorem portKept_evaluateLeaving (s : State) : s.port.Kept (evaluateLeaving s).port := by
  unfold evaluateLeaving
  split
  · exact portKept_completeHead _ s
  · exact .refl _

theorem portKept_bindRecord (k : Nat) (s : State) : s.port.Kept (bindRecord k s).port := by
  unfold bindRecord
  extract_lets n s1 s2 r s3
  have h : s.port.Kept s3.port := portKept_sendNotice _ s2
  split <;> exact h

theorem portKept_learnRecord (s : State) : s.port.Kept (learnRecord s).2.port := by
  unfold learnRecord
  split
  · exact .refl _
  · exact portKept_bindRecord _ (modRec _ _ s)

/-- R16: a removal with a cause is told. -/
theorem removeRecord_port (k : Nat) (c : RemovalCause) (s : State) : (removeRecord k (some c) s).port =
    (sendNotice (.vehicleRemoved k (displayedId (s.record k)) c) s).port := by
  unfold removeRecord
  dsimp only
  split <;> rfl

theorem portKept_removeRecord (k : Nat) (c : RemovalCause) (s : State) : s.port.Kept (removeRecord k (some c) s).port :=
  removeRecord_port k c s ▸ portKept_sendNotice _ s

theorem portKept_askRecord (s : State) : s.port.Kept (askRecord s).state.port := by
  unfold askRecord
  split
  · exact .refl _
  · split
    · exact portKept_bindRecord _ s
    · split
      · exact portKept_learnRecord s
      · split
        · exact (portKept_removeRecord _ _ s).trans (portKept_learnRecord _)
        · exact .refl _

/-! ## The entry station -/

theorem portKept_noticeEntry (c : Option BlockCause) (s : State) : s.port.Kept (noticeEntry c s).port :=
  portKept_sendNotice _ s

theorem portKept_noticeDeparture (n : EntryName) (s : State) : s.port.Kept (noticeDeparture n s).port := by
  unfold noticeDeparture
  split
  · exact portKept_noticeEntry _ s
  · exact .refl _

theorem portKept_checkFinishing (s : State) : s.port.Kept (checkFinishing s).port := by
  unfold checkFinishing
  split
  · exact portKept_noticeEntry _ (s.onEntry _)
  · exact .refl _

theorem openTrace_port (k : TraceKind) (n : Nat) (a : Option Nat) (s : State) : (openTrace k n a s).2.port = s.port := by
  unfold openTrace; split <;> rfl

theorem portKept_bindStation (k : Nat) (s : State) : s.port.Kept (bindStation k s).port :=
  (HostPort.Kept.of_eq (openTrace_port .entry k none s)).trans
    (portKept_noticeEntry none (raiseEvent .vehicleAtBarrier (handVehicle .entry (some k)
      ((openTrace .entry k none s).2.onEntry _))))

theorem portKept_noticeMeasured (k n : Nat) (s : State) : s.port.Kept (noticeMeasured k n s).port := by
  unfold noticeMeasured
  dsimp only
  split
  · exact .refl _
  · exact portKept_sendNotice _ s

theorem addExcess_port (tr : Option Nat) (s : State) : (addExcess tr s).port = s.port := by
  unfold addExcess; split <;> rfl

theorem refuseAxle_port (k : Nat) (s : State) : (refuseAxle k s).port = s.port := addExcess_port _ _

theorem portKept_appendMeasured (k : Nat) (f : Axle → Axle) (s : State) : s.port.Kept (appendMeasured k f s).2.port := by
  rcases Nat.lt_or_ge (s.record k).axles.length 12 with h | h
  · obtain ⟨n, hn⟩ := appendMeasured_taken (f := f) h
    rw [hn]
    exact (portKept_noticeMeasured k n (writeRec k _ s)).trans (portKept_evaluateLeaving _)
  · rw [appendMeasured_refused h]
    exact HostPort.Kept.of_eq (refuseAxle_port k s)

theorem portKept_appendPassed (k n : Nat) (s : State) : s.port.Kept (appendPassed k n s).port := by
  induction n generalizing s with
  | zero => exact .refl _
  | succ n ih => exact (portKept_appendMeasured k id s).trans (ih _)

theorem portKept_retryBinding (s : State) : s.port.Kept (retryBinding s).port := by
  unfold retryBinding
  split
  · dsimp only
    split
    · exact .refl _
    · next k _ =>
      have h := ((portKept_askRecord s).trans (portKept_bindStation k _)).trans (portKept_appendPassed k s.entry.passed _)
      split <;> exact h
  · exact .refl _

/-! ## The brake station -/

theorem portKept_enterState (st : BrakeState) (s : State) : s.port.Kept (enterState st s).port := by
  unfold enterState
  dsimp only
  split
  · exact .refl _
  · exact portKept_sendNotice _ (s.onBrake _)

theorem setVehicle_port (v : Option Nat) (s : State) : (setVehicle v s).port = s.port := by
  unfold setVehicle; split <;> rfl

theorem portKept_takeHead (s : State) : s.port.Kept (takeHead s).port := by
  have h : ∀ v st f, s.port.Kept (enterState st ((setVehicle v s).onBrake f)).port := fun v st f =>
    (HostPort.Kept.of_eq (setVehicle_port v s)).trans (portKept_enterState st ((setVehicle v s).onBrake f))
  unfold takeHead
  split
  · exact h _ _ _
  · unfold enterWaitWheels
    dsimp only
    split
    · exact h _ _ _
    · exact h _ _ _

theorem portKept_enterWaitClear (s : State) : s.port.Kept (enterWaitClear s).port :=
  portKept_enterState .waitClear (s.onBrake _)

theorem portKept_headChanged (s : State) : s.port.Kept (headChanged s).port := by
  have told : s.port.Kept (State.port
      (let s1 := dropAxle (s.onBrake fun b => { b with presence := none })
       if inputActive .wheelL s || inputActive .wheelR s then enterWaitClear s1 else takeHead s1)) := by
    dsimp only
    split
    · exact portKept_enterWaitClear (dropAxle (s.onBrake _))
    · exact portKept_takeHead (dropAxle (s.onBrake _))
  unfold headChanged
  split
  · split
    · exact .refl _
    · exact portKept_takeHead s
  · exact told
  · exact told
  case h_11 => exact HostPort.Kept.of_eq (setVehicle_port _ (dropAxle s))
  all_goals exact HostPort.Kept.of_eq rfl

theorem portKept_enterFault {s : State} (c : BrakeCause) (ha : s.brake.state.attempt = false) :
    s.port.Kept (enterFault c s).port := by
  unfold enterFault
  rw [ha]
  split
  · exact .refl _
  · exact (portKept_enterState .fault ((setRun false s).onBrake _)).trans
      (portKept_sendNotice _ (raiseEvent .stationFault _))

theorem portKept_takeAxle {s : State} (n : Nat) (ph : Phase) (ha : s.brake.state.attempt = false) :
    s.port.Kept (takeAxle n ph s).port := by
  unfold takeAxle enterZeroing
  split
  · exact portKept_enterFault (s := s.onBrake fun b => { b with axle := some n, phase := ph }) _ ha
  · exact portKept_enterState .zeroing ((s.onBrake _).onBrake _)

theorem portKept_matchAxle {v : Nat} {s : State} (ha : s.brake.state.attempt = false) :
    s.port.Kept (matchAxle v s).port := by
  unfold matchAxle
  dsimp only
  split
  · exact portKept_takeAxle _ _ ha
  · split
    · have happ : ∀ f : Axle → Axle, s.port.Kept (appendAxle v f s).2.port ∧ (appendAxle v f s).2.brake = s.brake := by
        intro f
        unfold appendAxle
        split <;> exact ⟨HostPort.Kept.of_eq rfl, rfl⟩
      obtain ⟨hp, hb⟩ := happ fun a => { a with addedAtRollers := true }
      split
      · exact (hp.trans (portKept_evaluateLeaving _)).trans (portKept_takeAxle _ _ (by simpa [hb] using ha))
      · exact hp.trans (portKept_enterWaitClear (dropAxle _))
    · exact portKept_enterState .waitAxleRecord (dropAxle s)

/-! ## What follows an event -/

theorem portKept_settleHead (s : State) : s.port.Kept (settleHead s).port := by
  unfold settleHead
  split
  · exact portKept_headChanged (s.onWork _)
  · exact .refl _

theorem portKept_settleRetry (s : State) : s.port.Kept (settleRetry s).port := by
  unfold settleRetry
  split
  · exact portKept_retryBinding (s.onWork _)
  · exact .refl _

theorem portKept_settleRematch (s : State) : s.port.Kept (settleRematch s).port := by
  unfold settleRematch
  split
  · unfold rematchAxle
    split
    · split
      · next hc =>
        simp only [Bool.and_eq_true, beq_iff_eq] at hc
        exact portKept_matchAxle (s := s.onWork _) (by rw [hc.1]; rfl)
      · exact .refl _
    · exact .refl _
  · exact .refl _

/-- R192, R193: what follows an event drops no notice that waits and places no live frame. -/
theorem portKept_settle {s : State} (hw : WritesRest s) : s.port.Kept (settle s).port := by
  unfold settle
  rw [settleWrites_rest hw]
  exact ((((portKept_settleHead s).trans (portKept_settleRetry _)).trans (portKept_settleHead _)).trans
    (portKept_settleRematch _)).trans (rested_tail _).portKept

end Sys2Proof.Machine
end

section
/-! SUPPORT. The entry station's edges on a part at rest (R48 to R51, R56): a barrier edge while a vehicle is
followed, and the crossings of the slip plate. -/

namespace Sys2Proof.Machine

/-! ## What the shared operations leave of the station -/

@[simp] theorem raiseEvent_entry (e : GEvent) (s : State) : (raiseEvent e s).entry = s.entry := rfl

@[simp] theorem noticeDeparture_entry (n : EntryName) (s : State) : (noticeDeparture n s).entry = s.entry := by
  unfold noticeDeparture; split <;> rfl

theorem noticeDeparture_traces (n : EntryName) (s : State) : (noticeDeparture n s).traces = s.traces := by
  unfold noticeDeparture; split <;> rfl

theorem checkFinishing_traces (s : State) : (checkFinishing s).traces = s.traces := by
  unfold checkFinishing; split <;> rfl

/-- R56: the check for FINISHING sets the quiet expiry alone. -/
theorem checkFinishing_entry (s : State) : (checkFinishing s).entry =
    { s.entry with quiet := if s.entry.mayFinish then some (later s.now 3000) else s.entry.quiet } := by
  unfold checkFinishing; split <;> rfl

theorem EntryStation.mayFinish_iff (e : EntryStation) : e.mayFinish = true ↔
    e.vehicle.isSome = true ∧ e.cleared = true ∧ e.plate.crossing = false ∧ e.scale.phase = .empty := by
  simp [EntryStation.mayFinish, and_assoc]

theorem EntryStation.following_iff (e : EntryStation) :
    e.following = true ↔ e.vehicle.isSome = true ∨ e.blocked = true := by simp [EntryStation.following]

/-- An edge of the station that owes Guidance alone: nothing else follows it. -/
theorem exec_entryEdge {f : LineFn} {b : Bool} {k : State → State} {s u : State} {t0 : LaneTime}
    (h : takeEdge f b s = some (t0, u)) (hc : Calm s) (hk : EntryOnly u (k u)) :
    ∃ t, finish (onEdge f b (fun _ => k) s) = .next t ∧ Rested (k u) t :=
  ⟨_, congrArg finish (onEdge_taken h), hk.settles (calm_takeEdge h hc)⟩

/-- R38: an edge taken leaves every block but Signal Acquisition as it is. -/
theorem takeEdge_frame {f : LineFn} {b : Bool} {s u : State} {t : LaneTime} (h : takeEdge f b s = some (t, u)) :
    u.vt = s.vt ∧ u.entry = s.entry ∧ u.brake = s.brake ∧ u.traces = s.traces ∧ u.time = s.time ∧ u.cal = s.cal
      ∧ u.port = s.port := by
  rw [takeEdge_eq h]; exact ⟨rfl, rfl, rfl, rfl, rfl, rfl, rfl⟩

/-! ## The barrier while a vehicle is followed (R49, R56) -/

theorem barrierActive_bound {s : State} (hb : s.entry.blocked = false) (hv : s.entry.vehicle.isSome = true) :
    barrierActive s = noticeDeparture (entryName s.entry) (cancelQuiet (s.onEntry fun e => { e with cleared := false })) := by
  unfold barrierActive; simp [hb, hv]

theorem barrierInactive_bound {s : State} (hb : s.entry.blocked = false) (hv : s.entry.vehicle.isSome = true) :
    barrierInactive s = checkFinishing (s.onEntry fun e => { e with cleared := true }) := by
  unfold barrierInactive; simp [hb, hv]

theorem barrierInactive_blocked {s : State} (hb : s.entry.blocked = true) :
    barrierInactive s = noticeEntry none (s.onEntry EntryStation.idled) := by
  unfold barrierInactive; simp [hb]

/-- Settles O31: each edge changes the station's flags and its quiet expiry, or returns it to IDLE. -/
theorem barrierEdgesWhileFollowingAVehicle : Obligations.BarrierEdgesWhileFollowingAVehicle := by
  intro s u t0 v hc
  refine ⟨fun he hv hb => ?_, fun he hv hb => ?_, fun he hb => ?_⟩
  all_goals
    obtain ⟨hvt, hent, hbr, htr, htime, -, -⟩ := takeEdge_frame he
    rw [← hent] at hb
  · rw [← hent] at hv
    have hk := barrierActive_bound hb (by simp [hv])
    obtain ⟨t, ht, hr⟩ := exec_entryEdge (k := barrierActive) he hc
      (hk ▸ ((entryOnly_onEntry _ u).trans (entryOnly_onEntry _ _)).trans (entryOnly_noticeDeparture _ _))
    refine ⟨t, ht, ?_, ?_, ?_⟩
    · rw [hr.entry, hk, noticeDeparture_entry, ← hent]; rfl
    · rw [hr.vt, hk, ← hvt]; simp
    · rw [hr.brake, ← hbr, hk]
      exact (entryOnly_noticeDeparture _ _).brake
  · rw [← hent] at hv
    have hk := barrierInactive_bound hb (by simp [hv])
    have hon : EntryOnly u (barrierInactive u) := hk ▸ (entryOnly_onEntry _ u).trans (entryOnly_checkFinishing _)
    obtain ⟨t, ht, hr⟩ := exec_entryEdge (k := barrierInactive) he hc hon
    refine ⟨t, ht, hr.vt.trans (hon.vt.trans hvt), hr.brake.trans (hon.brake.trans hbr), ?_⟩
    rw [hr.entry, hk, checkFinishing_entry, ← hent, ← htime]
    simp only [EntryStation.mayFinish_iff, State.onEntry_entry, hv, Option.isSome_some, true_and]
    split <;> rfl
  · have hk := barrierInactive_blocked hb
    have hon : EntryOnly u (barrierInactive u) := hk ▸ (entryOnly_onEntry _ u).trans (entryOnly_noticeEntry _ _)
    obtain ⟨t, ht, hr⟩ := exec_entryEdge (k := barrierInactive) he hc hon
    refine ⟨t, ht, hr.vt.trans (hon.vt.trans hvt), ?_, ?_⟩
    · rw [hr.traces, ← htr, hk]; rfl
    · rw [hr.entry, hk, ← hent]; rfl

/-! ## The slip plate (R50, R51) -/

theorem entryOnly_plateActive (s : State) : EntryOnly s (plateActive s) := by
  unfold plateActive
  dsimp only
  split
  · split
    · exact (((entryOnly_onEntry _ s).trans (entryOnly_raiseEvent _ _)).trans (entryOnly_onEntry _ _)).trans
        (entryOnly_noticeDeparture _ _)
    · exact entryOnly_onEntry _ s
  · exact .refl s

theorem entryOnly_plateInactive (s : State) : EntryOnly s (plateInactive s) := by
  unfold plateInactive
  dsimp only
  split
  · exact (entryOnly_onEntry _ s).trans (entryOnly_checkFinishing _)
  · exact .refl s

/-- R50: a crossing starts with no peak; while bound it cancels the quiet expiry. -/
theorem plateActive_starts {s : State} (hf : s.entry.following = true) (hp : s.entry.plate.crossing = false) :
    (plateActive s).entry = { s.entry with
      plate := { PlateTracker.free with crossing := true }
      quiet := if s.entry.vehicle.isSome then none else s.entry.quiet } := by
  unfold plateActive
  rw [if_pos (by simp [hf, hp])]
  dsimp only
  split
  · rw [noticeDeparture_entry]; rfl
  · rfl

theorem plateActive_idle {s : State} (hf : s.entry.following = false) : plateActive s = s := by
  unfold plateActive; simp [hf]

/-- R51: a crossing ends with its value at the tail of the crossing queue. -/
theorem plateInactive_ends {s : State} (hp : s.entry.plate.crossing = true) :
    (plateInactive s).entry.plate = PlateTracker.free ∧ (plateInactive s).entry.crossings =
      pushCrossing s.entry.crossings (crossingValue s.entry.plate s.cal.constants) := by
  unfold plateInactive
  rw [if_pos hp]
  simp [checkFinishing_entry]

theorem crossingValue_absent {p : PlateTracker} {c : LaneConstants}
    (h : p.partialMark = true ∨ p.faultMark = true ∨ p.count = 0 ∨ c.valid = false) : crossingValue p c = none := by
  unfold crossingValue
  split
  · rfl
  · rw [if_pos]
    rcases h with h | h | h | h <;> simp [h]

theorem crossingValue_present {p : PlateTracker} {c : LaneConstants} {v : Int} (h1 : p.partialMark = false)
    (h2 : p.faultMark = false) (h3 : 0 < p.count) (h4 : c.valid = true) (h5 : p.peak = some v) :
    crossingValue p c = some (sideSlipOf v c.plate) := by
  unfold crossingValue
  simp [h1, h2, h3.ne', h4, h5]

/-- Settles O32: a crossing starts, a crossing ends with its value, and in IDLE the edge is only taken. -/
theorem slipPlateEdgesFollowACrossing : Obligations.SlipPlateEdgesFollowACrossing := by
  intro s u t0 hc
  refine ⟨fun he hf hp => ?_, fun he hp => ?_, fun he hv hb => ?_⟩
  all_goals obtain ⟨hvt, hent, -, -, -, hcal, -⟩ := takeEdge_frame he
  · obtain ⟨t, ht, hr⟩ := exec_entryEdge (k := plateActive) he hc (entryOnly_plateActive u)
    have hst := plateActive_starts (s := u) (hent ▸ (EntryStation.following_iff _).mpr hf) (hent ▸ hp)
    rw [hent] at hst
    refine ⟨t, ht, hr.vt.trans ((entryOnly_plateActive u).vt.trans hvt), ?_, ?_, fun hv => ?_⟩
    · rw [hr.entry, hst]; rfl
    · rw [hr.entry, hst]
    · rw [hr.entry, hst]; simp [hv]
  · obtain ⟨t, ht, hr⟩ := exec_entryEdge (k := plateInactive) he hc (entryOnly_plateInactive u)
    obtain ⟨hfree, hq⟩ := plateInactive_ends (s := u) (by rw [hent]; exact hp)
    rw [hent, hcal] at hq
    exact ⟨t, crossingValue s.entry.plate s.cal.constants, ht, hr.vt.trans ((entryOnly_plateInactive u).vt.trans hvt),
      by rw [hr.entry, hfree], by rw [hr.entry, hq]; rfl, crossingValue_absent,
      fun p h1 h2 h3 h4 h5 => crossingValue_present h1 h2 h3 h4 h5⟩
  · have hidle : plateActive u = u := plateActive_idle (by rw [hent]; simp [EntryStation.following, hv, hb])
    refine (congrArg finish (onEdge_taken he)).trans ?_
    rw [hidle]
    exact finish_calm u (calm_takeEdge he hc)

end Sys2Proof.Machine
end

section
/-! SUPPORT. A barrier edge in IDLE (R48): the record the Vehicle Table gives or evicts for (R12 to R14), and the station
bound to it or BLOCKED. -/

namespace Sys2Proof.Machine

/-! ## Eviction (R13) -/

/-- R13: the oldest candidate is found, the first of them between equals. -/
theorem foldl_olderOf_oldest {t : LaneTime} {l : List (Nat × LaneTime)} {c : Nat × LaneTime}
    (hs : l.Pairwise fun x y => x.1 < y.1) (hc : c ∈ l)
    (ho : ∀ x ∈ l, (t - x.2).toNat < (t - c.2).toNat ∨ (x.2 = c.2 ∧ c.1 ≤ x.1)) : l.foldl (olderOf t) none = some c := by
  obtain ⟨before, behind, rfl⟩ := List.append_of_mem hc
  have younger : ∀ x ∈ before, (t - x.2).toNat < (t - c.2).toNat := fun x hx => by
    have hlt := (List.pairwise_append.mp hs).2.2 x hx c List.mem_cons_self
    exact (ho x (List.mem_append_left _ hx)).resolve_right fun h => Nat.not_le.mpr hlt h.2
  have taken : olderOf t (before.foldl (olderOf t) none) c = some c := by
    cases hb : before.foldl (olderOf t) none with
    | none => rfl
    | some b =>
      have := (foldl_olderOf_mem _ _ _ _ hb).resolve_right (by simp)
      exact if_pos (younger b this)
  have stays : ∀ m : List (Nat × LaneTime), (∀ x ∈ m, (t - x.2).toNat ≤ (t - c.2).toNat) →
      m.foldl (olderOf t) (some c) = some c := fun m hm => by
    induction m with
    | nil => rfl
    | cons x m ih =>
      have hx : olderOf t (some c) x = some c := if_neg (Nat.not_lt.mpr (hm x List.mem_cons_self))
      rw [List.foldl_cons, hx]
      exact ih fun y hy => hm y (List.mem_cons_of_mem _ hy)
  rw [List.foldl_append, List.foldl_cons, taken]
  refine stays behind fun x hx => ?_
  rcases ho x (List.mem_append_right _ (List.mem_cons_of_mem _ hx)) with h | h
  · exact h.le
  · rw [h.1]

/-- R13: the evictable records by slot, as eviction looks through them. -/
def evictables (s : State) : List (Nat × LaneTime) :=
  (s.vt.records.zipIdx.filter (fun p => p.1.evictable)).map (fun p => (p.2, p.1.lastActivity))

theorem evictionSlot_eq (s : State) : evictionSlot s = ((evictables s).foldl (olderOf s.now) none).map Prod.fst := rfl

theorem mem_evictables {s : State} {x : Nat × LaneTime} :
    x ∈ evictables s ↔ (s.record x.1).evictable = true ∧ x.2 = (s.record x.1).lastActivity := by
  have inUse : ∀ k, (s.record k).evictable = true → s.vt.records[k]? = some (s.record k) := fun k h => by
    have hk : k < s.vt.records.length := lt_of_inUse (by rw [((Record.evictable_iff _).mp h).2.1]; decide)
    simp [State.record, List.getD_eq_getElem?_getD, hk]
  simp only [evictables, List.mem_map, List.mem_filter, Prod.exists, List.mem_zipIdx_iff_getElem?]
  constructor
  · rintro ⟨r, k, ⟨hk, hev⟩, rfl⟩
    have hr : s.record k = r := by simp [State.record, List.getD_eq_getElem?_getD, hk]
    exact ⟨by rw [hr]; exact hev, by rw [hr]⟩
  · rintro ⟨hev, hx⟩
    exact ⟨s.record x.1, x.1, ⟨inUse _ hev, hev⟩, Prod.ext rfl hx.symm⟩

theorem evictables_sorted (s : State) : (evictables s).Pairwise fun x y => x.1 < y.1 := by
  refine List.Pairwise.map _ (R := fun p q : Record × Nat => p.2 < q.2) (fun _ _ h => h) (List.Pairwise.filter _ ?_)
  refine List.Pairwise.of_map Prod.snd (S := fun a b : Nat => a < b) (fun _ _ h => h) ?_
  rw [List.zipIdx_map_snd]
  exact List.pairwise_lt_range'

theorem evictionSlot_oldest {s : State} {k : Nat} (hk : (s.record k).evictable = true)
    (ho : ∀ j, (s.record j).evictable = true →
      (s.now - (s.record j).lastActivity).toNat < (s.now - (s.record k).lastActivity).toNat
        ∨ ((s.record j).lastActivity = (s.record k).lastActivity ∧ k ≤ j)) : evictionSlot s = some k := by
  have hc : (k, (s.record k).lastActivity) ∈ evictables s := mem_evictables.mpr ⟨hk, rfl⟩
  rw [evictionSlot_eq, foldl_olderOf_oldest (evictables_sorted s) hc]
  · rfl
  · intro x hx
    obtain ⟨hev, hla⟩ := mem_evictables.mp hx
    rw [hla]
    exact ho x.1 hev

theorem evictionSlot_none {s : State} (h : ∀ k, (s.record k).evictable = false) : evictionSlot s = none := by
  have : evictables s = [] := List.eq_nil_iff_forall_not_mem.mpr fun x hx => by
    have := (mem_evictables.mp hx).1
    rw [h] at this
    cases this
  rw [evictionSlot_eq, this]
  rfl

/-! ## The record given (R12, R14) -/

theorem removeRecord_vt (k : Nat) (c : Option RemovalCause) (s : State) : (removeRecord k c s).vt =
    { s.vt with records := tableMod s.vt.records k fun _ => Record.free
                armed := if s.vt.armed == some k then none else s.vt.armed } := by
  unfold removeRecord
  dsimp only
  split <;> split <;> rfl

theorem learnRecord_found {s : State} {k : Nat} (hk : freeSlot s = some k) :
    learnRecord s = (some k, bindRecord k (modRec k (fun _ => Record.learned s.vt.defaultClass) s)) := by
  unfold learnRecord; rw [hk]

/-- R14: the table once a record is learned in a FREE slot. -/
theorem record_learnRecord {s : State} {k : Nat} (hk : freeSlot s = some k) (j : Nat) : (learnRecord s).2.record j =
    if j = k then (Record.learned s.vt.defaultClass).entered ((s.vt.entryCount + 1) % 10000) s.now else s.record j := by
  have hlt : k < s.vt.records.length := (List.findIdx?_eq_some_iff_getElem.mp hk).1
  have hlen : (modRec k (fun _ => Record.learned s.vt.defaultClass) s).vt.records.length = s.vt.records.length := by
    simp [modRec, tableMod]
  rw [learnRecord_found hk]
  dsimp only
  rw [record_bindRecord, hlen, record_modRec]
  by_cases hj : j = k
  · rw [if_pos ⟨hj, hlt⟩, if_pos ⟨hj, hlt⟩, if_pos hj]; rfl
  · rw [if_neg (fun h => hj h.1), if_neg (fun h => hj h.1), if_neg hj]

theorem learnRecord_queue {s : State} {k : Nat} (hk : freeSlot s = some k) :
    (learnRecord s).2.vt.queue = s.vt.queue ++ [k] := by
  rw [learnRecord_found hk]
  exact congrArg VehicleTable.queue (bindRecord_vt k _)

theorem askRecord_learns {s : State} (hq : s.vt.queue.length < 3) (ha : s.vt.armed = none)
    (hd : dynamicCount s < s.vt.dynMax) :
    askRecord s = { slot := (learnRecord s).1, cause := .noRecord, state := (learnRecord s).2 } := by
  unfold askRecord
  rw [if_neg (Nat.not_le.mpr hq), ha]
  exact if_pos hd

theorem askRecord_evicts {s : State} {k : Nat} (hq : s.vt.queue.length < 3) (ha : s.vt.armed = none)
    (hd : s.vt.dynMax ≤ dynamicCount s) (he : evictionSlot s = some k) :
    askRecord s = { slot := (learnRecord (removeRecord k (some .evicted) s)).1, cause := .noRecord
                    state := (learnRecord (removeRecord k (some .evicted) s)).2 } := by
  unfold askRecord
  rw [if_neg (Nat.not_le.mpr hq), ha]
  dsimp only
  rw [if_neg (Nat.not_lt.mpr hd), he]

theorem askRecord_none {s : State} (hq : s.vt.queue.length < 3) (ha : s.vt.armed = none)
    (hd : s.vt.dynMax ≤ dynamicCount s) (he : evictionSlot s = none) :
    askRecord s = { slot := none, cause := .noRecord, state := s } := by
  unfold askRecord
  rw [if_neg (Nat.not_le.mpr hq), ha]
  dsimp only
  rw [if_neg (Nat.not_lt.mpr hd), he]

/-- R12: the Vehicle Table's answer leaves the entry station and the store alone and owes no match. -/
theorem bindRecord_owed (k : Nat) (s : State) : (bindRecord k s).cal = s.cal ∧ (bindRecord k s).entry = s.entry
    ∧ (bindRecord k s).work.rematch = s.work.rematch := by
  unfold bindRecord
  dsimp only
  split <;> exact ⟨rfl, rfl, rfl⟩

theorem learnRecord_owed (s : State) : (learnRecord s).2.cal = s.cal ∧ (learnRecord s).2.entry = s.entry
    ∧ (learnRecord s).2.work.rematch = s.work.rematch := by
  unfold learnRecord
  split
  · exact ⟨rfl, rfl, rfl⟩
  · exact bindRecord_owed _ (modRec _ _ s)

theorem askRecord_owed (s : State) : (askRecord s).state.cal = s.cal ∧ (askRecord s).state.entry = s.entry
    ∧ (askRecord s).state.work.rematch = s.work.rematch := by
  unfold askRecord
  split
  · exact ⟨rfl, rfl, rfl⟩
  · split
    · exact bindRecord_owed _ s
    · split
      · exact learnRecord_owed s
      · split
        · next k _ =>
          obtain ⟨h1, h2, h3⟩ := learnRecord_owed (removeRecord k (some .evicted) s)
          obtain ⟨r1, r2, r3⟩ := removeRecord_owed k (some .evicted) s
          exact ⟨h1.trans r1, h2.trans r2, h3.trans r3⟩
        · exact ⟨rfl, rfl, rfl⟩

/-! ## The station bound or BLOCKED (R48) -/

theorem startVehicle_bound {s : State} {k : Nat} (h : (askRecord (startTrackers s)).slot = some k) :
    startVehicle s = bindStation k (askRecord (startTrackers s)).state := by
  unfold startVehicle; dsimp only; rw [h]

theorem startVehicle_blocked {s : State} {c : BlockCause}
    (h : askRecord (startTrackers s) = { slot := none, cause := c, state := startTrackers s }) : startVehicle s =
      noticeEntry (some c) (raiseEvent .entryBlocked ((startTrackers s).onEntry fun e => { e with blocked := true })) := by
  unfold startVehicle; rw [h]

theorem entryOnly_startTrackers (s : State) : EntryOnly s (startTrackers s) :=
  ⟨(startTrackers s).entry, s.traces, s.port, s.work.items, rfl⟩

/-- R48: the station bound to the record given; the table is as the answer left it. -/
theorem startVehicle_binds {s : State} {k : Nat} (hc : Calm s) (h : (askRecord (startTrackers s)).slot = some k) :
    (settle (startVehicle s)).vt = (askRecord (startTrackers s)).state.vt
      ∧ (∃ tr, (settle (startVehicle s)).entry =
          { (startTrackers s).entry with vehicle := some k, blocked := false, openTrace := tr })
      ∧ (askRecord (startTrackers s)).state.port.Kept (settle (startVehicle s)).port := by
  obtain ⟨hcal, hent, hm⟩ := askRecord_owed (startTrackers s)
  obtain ⟨⟨tr, htr⟩, -⟩ := bindStation_stations k (askRecord (startTrackers s)).state
  have hon := entryOnly_bindStation k (askRecord (startTrackers s)).state
  rw [startVehicle_bound h]
  have hw : WritesRest (bindStation k (askRecord (startTrackers s)).state) := by
    unfold WritesRest
    rw [hon.cal, hcal]
    exact hc.writesRest
  have hb : (bindStation k (askRecord (startTrackers s)).state).entry.blocked = false := by rw [htr]
  have hwork : (bindStation k (askRecord (startTrackers s)).state).work.rematch = false := by
    obtain ⟨e, tr, p, l, heq⟩ := hon
    rw [heq]
    exact hm.trans (congrArg Work.rematch hc.1)
  refine ⟨(settle_vt hw hb hwork).trans hon.vt, ⟨tr, ?_⟩, (portKept_bindStation k _).trans (portKept_settle hw)⟩
  rw [(settle_followed hw hb).entry, htr, hent]

/-- R48: the station BLOCKED, with its cause told. -/
theorem startVehicle_blocks {s : State} {c : BlockCause} (hc : Calm s) (hv : s.entry.vehicle = none)
    (h : askRecord (startTrackers s) = { slot := none, cause := c, state := startTrackers s }) :
    (settle (startVehicle s)).entry.vehicle = none ∧ (settle (startVehicle s)).entry.blocked = true
      ∧ (settle (startVehicle s)).vt = s.vt ∧ (s.port.notices.length < 32 →
        ∃ n, (n, .entryState .blocked none (some c) s.time.now) ∈ (settle (startVehicle s)).port.notices) := by
  have hst := startVehicle_blocked h
  have hon : EntryOnly s (startVehicle s) := hst ▸ (((entryOnly_startTrackers s).trans (entryOnly_onEntry _ _)).trans
    (entryOnly_raiseEvent _ _)).trans (entryOnly_noticeEntry _ _)
  have hr := hon.settles hc
  refine ⟨?_, ?_, hr.vt.trans hon.vt, fun hroom => ?_⟩
  · rw [hr.entry, hst]; exact hv
  · rw [hr.entry, hst]; rfl
  · rw [hr.notices, hst]
    have htold : ∀ x : State, x.entry.vehicle = none → x.entry.blocked = true → x.port = s.port → x.time = s.time →
        ∃ n, (n, .entryState .blocked none (some c) s.time.now) ∈ (noticeEntry (some c) x).port.notices := by
      intro x hxv hxb hxp hxt
      have hname : entryName x.entry = .blocked := by unfold entryName; rw [hxb]; rfl
      obtain ⟨n, hn⟩ := (sendNotice_notices (.entryState .blocked none (some c) x.now) x).1 (by rw [hxp]; exact hroom)
      refine ⟨n, ?_⟩
      unfold noticeEntry
      rw [hname, hxv]
      unfold State.now at hn ⊢
      rwa [hxt] at hn ⊢
    exact htold _ hv rfl rfl rfl

theorem barrierActive_idle {s : State} (hv : s.entry.vehicle = none) (hb : s.entry.blocked = false) :
    barrierActive s = startVehicle s := by
  unfold barrierActive; simp [hv, hb]

/-- R13, R14: the records once one has been evicted and another learned. -/
theorem record_evictLearn {s : State} {k m : Nat} (hm : freeSlot (removeRecord k (some .evicted) s) = some m) (j : Nat) :
    (learnRecord (removeRecord k (some .evicted) s)).2.record j =
      if j = m then (Record.learned s.vt.defaultClass).entered ((s.vt.entryCount + 1) % 10000)
        (removeRecord k (some .evicted) s).now
      else if j = k then Record.free else s.record j := by
  rw [record_learnRecord hm, record_removeRecord, removeRecord_vt]

/-- R12 step 4: an eviction leaves a FREE slot, at the evicted record's or below it. -/
theorem freeSlot_evicted {s : State} {k : Nat} (hk : k < s.vt.records.length) :
    ∃ m, freeSlot (removeRecord k (some .evicted) s) = some m ∧ m ≤ k ∧ (m = k ∨ (s.record m).state = .free)
      ∧ ∀ j, j < m → (s.record j).state ≠ .free := by
  have hfree : ((removeRecord k (some .evicted) s).record k).state = .free := by
    rw [record_removeRecord, if_pos rfl]; rfl
  have hlen : k < (removeRecord k (some .evicted) s).vt.records.length := by
    rw [removeRecord_vt]; simpa [tableMod] using hk
  cases hm : freeSlot (removeRecord k (some .evicted) s) with
  | none =>
    have hall := List.findIdx?_eq_none_iff.mp hm _ (List.getElem_mem hlen)
    simp [State.record, List.getD_eq_getElem?_getD, hlen] at hfree
    simp [hfree] at hall
  | some m =>
    obtain ⟨hmf, hlow⟩ := freeSlot_lowest hm
    have hle : m ≤ k := Nat.not_lt.mp fun h => hlow k h hfree
    refine ⟨m, rfl, hle, ?_, fun j hj => ?_⟩
    · by_cases h : m = k
      · exact .inl h
      · rw [record_removeRecord, if_neg h] at hmf
        exact .inr hmf
    · have := hlow j hj
      rwa [record_removeRecord, if_neg (by omega)] at this

/-- Settles O30: the Vehicle Table's answer to the station, which is then bound or BLOCKED. -/
theorem barrierEdgeInIdleAsksForARecord : Obligations.BarrierEdgeInIdleAsksForARecord := by
  intro s u t0 hc he hv hb
  obtain ⟨hvt, hent, -, -, htime, -, hport⟩ := takeEdge_frame he
  have hcu := calm_takeEdge he hc
  have hex : exec .entryBarrierActive s = .next (settle (startVehicle u)) := by
    refine (congrArg finish (onEdge_taken he)).trans ?_
    rw [barrierActive_idle (by rw [hent]; exact hv) (by rw [hent]; exact hb)]
    rfl
  -- what the Vehicle Table reads is as in `s`
  have hxvt : (startTrackers u).vt = s.vt := hvt
  have hrec : ∀ k, (startTrackers u).record k = s.record k := record_of_vt hxvt
  have hnow : (startTrackers u).now = s.time.now := congrArg TimeBase.now htime
  have hdyn : dynamicCount (startTrackers u) = dynamicCount s := by unfold dynamicCount; rw [hxvt]
  have blocked : ∀ c, askRecord (startTrackers u) = { slot := none, cause := c, state := startTrackers u } →
      ∃ t, exec .entryBarrierActive s = .next t ∧ t.entry.vehicle = none ∧ t.entry.blocked = true ∧ t.vt = s.vt
        ∧ (s.port.notices.length < 32 → ∃ n, (n, .entryState .blocked none (some c) s.time.now) ∈ t.port.notices) := by
    intro c h
    have hbl := startVehicle_blocks hcu (by rw [hent]; exact hv) h
    rw [hvt, hport, htime] at hbl
    exact ⟨_, hex, hbl⟩
  refine ⟨fun a hq ha hlt => ?_, fun k hq ha hd hk => ?_, fun hq => ?_, fun k hq ha hd hk ho => ?_,
    fun hq ha hd hev => ?_⟩
  · have hask := askRecord_armed (s := startTrackers u) (k := a) (by rw [hxvt]; exact hq) (by rw [hxvt]; exact ha)
    obtain ⟨h1, ⟨tr, h2⟩, -⟩ := startVehicle_binds hcu (congrArg Given.slot hask)
    rw [hask] at h1
    have hr := fun j => (record_of_vt h1 j).trans (record_bindRecord a j (startTrackers u))
    rw [bindRecord_vt, hxvt, ha] at h1
    refine ⟨_, hex, by rw [h2], by rw [h2], by rw [h2]; rfl, by rw [h2]; rfl, by rw [h1], by rw [h1]; simp, by rw [h1],
      ?_, fun k hk => ?_⟩
    · rw [hr, if_pos ⟨rfl, by rw [hxvt]; exact hlt⟩, hrec, hnow, hxvt]; rfl
    · rw [hr, if_neg (fun h => hk h.1), hrec]
  · have hk' : freeSlot (startTrackers u) = some k := by unfold freeSlot; rw [hxvt]; exact hk
    have hask := askRecord_learns (s := startTrackers u) (by rw [hxvt]; exact hq) (by rw [hxvt]; exact ha)
      (by rw [hdyn, hxvt]; exact hd)
    obtain ⟨h1, ⟨tr, h2⟩, -⟩ := startVehicle_binds (k := k) hcu (by rw [hask, learnRecord_found hk'])
    rw [hask] at h1
    have hr := fun j => (record_of_vt h1 j).trans (record_learnRecord hk' j)
    have hown := (hr k).trans (if_pos rfl)
    refine ⟨_, hex, by rw [h2], ?_, by rw [hown]; rfl, by rw [hown]; rfl, ?_, by rw [hown]; rfl, fun m hm => ?_⟩
    · rw [h1, learnRecord_queue hk', hxvt]
    · rw [hown, hxvt]; rfl
    · rw [hr, if_neg hm, hrec]
  · exact blocked _ (askRecord_full (by rw [hxvt]; exact hq))
  · have hev : evictionSlot (startTrackers u) = some k := evictionSlot_oldest (by rw [hrec]; exact hk) fun j hj => by
      rw [hrec] at hj
      rw [hrec, hrec, hnow]
      exact ho j hj
    have hask := askRecord_evicts (s := startTrackers u) (by rw [hxvt]; exact hq) (by rw [hxvt]; exact ha)
      (by rw [hdyn, hxvt]; exact hd) hev
    obtain ⟨m, hm, hle, hmk, hlow⟩ := freeSlot_evicted (s := startTrackers u) (k := k)
      (by rw [hxvt]; exact lt_of_inUse (by rw [((Record.evictable_iff _).mp hk).2.1]; decide))
    obtain ⟨h1, ⟨tr, h2⟩, h3⟩ := startVehicle_binds (k := m) hcu (by rw [hask, learnRecord_found hm])
    rw [hask] at h1 h3
    simp only [hrec] at hmk hlow
    have hr := fun j => (record_of_vt h1 j).trans (record_evictLearn hm j)
    have hown := (hr m).trans (if_pos rfl)
    refine ⟨_, m, hex, by rw [h2], by rw [h2], ?_, hmk, hle, hlow, by rw [hown]; rfl, by rw [hown]; rfl, ?_,
      by rw [hown]; rfl, by rw [hown]; rfl, fun hne => ?_, fun j hjm hjk => ?_, fun hroom => ?_⟩
    · rw [h1, learnRecord_queue hm, removeRecord_vt, hxvt]
    · rw [hown, hxvt]; rfl
    · rw [hr, if_neg hne.symm, if_pos rfl]
    · rw [hr, if_neg hjm, if_neg hjk, hrec]
    · obtain ⟨n, hn⟩ := (sendNotice_notices (.vehicleRemoved k (displayedId (s.record k)) .evicted) (startTrackers u)).1
        (by show u.port.notices.length < 32; rw [hport]; exact hroom)
      rw [← hrec, ← removeRecord_port] at hn
      rw [← hrec]
      exact ⟨n, h3.notices _ ((portKept_learnRecord _).notices _ hn)⟩
  · exact blocked _ (askRecord_none (by rw [hxvt]; exact hq) (by rw [hxvt]; exact ha) (by rw [hdyn, hxvt]; exact hd)
      (evictionSlot_none fun k => by rw [hrec]; exact hev k))

end Sys2Proof.Machine
end

section
/-! SUPPORT. The traces of the entry station (R146 to R148, R150): descriptors changed, a trace closed;
and the quiet expiry (R57). -/

namespace Sys2Proof.Machine

/-! ## The directory -/

/-- Descriptors changed in what is not their id are found as changed. -/
theorem TraceStore.find_modify {t : TraceStore} {f : Descriptor → Descriptor} (id j : Nat) (hf : ∀ d, (f d).id = d.id) :
    (t.modify id f).find j = (t.find j).map fun d => if d.id == id then f d else d := by
  unfold TraceStore.find TraceStore.modify
  rw [List.find?_map]
  have same : ((fun d : Descriptor => d.id == j) ∘ fun d => if d.id == id then f d else d) = fun d => d.id == j := by
    funext d
    simp only [Function.comp_apply]
    split
    · rw [hf]
    · rfl
  rw [same]

theorem TraceStore.find_modify_some {t : TraceStore} {f : Descriptor → Descriptor} {id : Nat} {d : Descriptor}
    (hd : t.find id = some d) (hf : ∀ d, (f d).id = d.id) : (t.modify id f).find id = some (f d) := by
  have hid : (d.id == id) = true := List.find?_some (p := fun d : Descriptor => d.id == id) hd
  rw [find_modify id id hf, hd, Option.map_some, if_pos hid]

theorem TraceStore.find_setFree (t : TraceStore) (k : TraceKind) (r : Runs) (id : Nat) :
    (t.setFree k r).find id = t.find id := by
  unfold TraceStore.setFree; split <;> rfl

theorem TraceStore.free_setFree (t : TraceStore) (k : TraceKind) (r : Runs) : (t.setFree k r).free k = r := by
  unfold TraceStore.free TraceStore.setFree
  cases k.brakePart <;> rfl

theorem TraceStore.setFree_rest (t : TraceStore) (k : TraceKind) (r : Runs) :
    (t.setFree k r).drain = t.drain ∧ (t.setFree k r).drainLevel = t.drainLevel := by
  unfold TraceStore.setFree; split <;> exact ⟨rfl, rfl⟩

/-- R150: a descriptor that is held is not freed. -/
theorem TraceStore.find_sweep {t : TraceStore} {id : Nat} {d : Descriptor} (hf : t.find id = some d)
    (hh : d.unheld = false) : t.sweep.find id = some d := by
  obtain ⟨hid, before, behind, hl, hno⟩ := List.find?_eq_some_iff_append.mp hf
  refine List.find?_filter.trans (List.find?_eq_some_iff_append.mpr ⟨by simpa [hh] using hid, before, behind, hl, ?_⟩)
  intro e he
  have := hno e he
  simp_all

theorem TraceStore.sweep_drain (t : TraceStore) : t.sweep.drain = t.drain := by
  have hf : ∀ (l : List Descriptor) (u : TraceStore), (l.foldl giveBack u).drain = u.drain := by
    intro l
    induction l with
    | nil => exact fun u => rfl
    | cons d l ih => exact fun u => (ih _).trans (TraceStore.setFree_rest u _ _).1
  exact hf _ _

/-! ## A trace closed (R148, R151) -/

theorem joinDrain_traces (id : Nat) (s : State) :
    (joinDrain id s).traces = { s.traces with drain := s.traces.drain ++ [id] } := by
  unfold joinDrain
  dsimp only
  split <;> rfl

/-- R148: a descriptor as a close leaves it. -/
def Descriptor.ended (accepted : Bool) (s : State) (d : Descriptor) : Descriptor :=
  { d with closed := true, closeTime := some s.now, aborted := d.aborted || !accepted
           printHold := d.printHold || (accepted && (s.record d.slot).state != .free) }

theorem closeTrace_traces {id : Nat} {d : Descriptor} {s : State} (a : Bool) (hf : s.traces.find id = some d) :
    (closeTrace id a s).2.traces = TraceStore.sweep { s.traces.modify id (Descriptor.ended a s) with
      drain := if d.hostHold then s.traces.drain ++ [id] else s.traces.drain } := by
  unfold closeTrace
  rw [hf]
  dsimp only
  split
  · rw [State.onTraces_traces, joinDrain_traces]; rfl
  · rfl

/-- R148: a trace closed for a record in use keeps a print hold, and is drained if the host holds it. -/
theorem closeTrace_accepted {id : Nat} {d : Descriptor} {s : State} (hf : s.traces.find id = some d)
    (hs : (s.record d.slot).state ≠ .free) : (closeTrace id true s).2.traces.find id =
        some { d with closed := true, closeTime := some s.now, printHold := true }
      ∧ (d.hostHold = true → id ∈ (closeTrace id true s).2.traces.drain) := by
  have hended : d.ended true s = { d with closed := true, closeTime := some s.now, printHold := true } := by
    simp [Descriptor.ended, hs]
  rw [closeTrace_traces true hf, TraceStore.sweep_drain]
  refine ⟨TraceStore.find_sweep ?_ (by simp [Descriptor.unheld]), fun hh => ?_⟩
  · rw [← hended]
    exact TraceStore.find_modify_some (f := Descriptor.ended true s) hf (fun _ => rfl)
  · rw [if_pos hh]
    exact List.mem_append_right _ (List.mem_singleton_self id)

/-! ## The quiet expiry (R57) -/

/-- R57: the record's entry is done, and its leaving and a waiting axle are looked at. -/
def entryEnded (v : Nat) (s : State) : State :=
  noteRematch (evaluateLeaving (writeRec v (fun r => { r with entryDone := true }) s))

/-- R57: the trace is closed and the station returns to IDLE. -/
def entryIdled (s : State) : State :=
  noticeEntry none (handVehicle .entry none
    ((raiseEvent .entryFinished (closeEntryTrace s)).onEntry EntryStation.idled))

theorem quietExpired_due {s : State} {v : Nat} (hv : s.entry.vehicle = some v) (hd : s.due s.entry.quiet = true) :
    quietExpired s = entryIdled (entryEnded v s) := by
  unfold quietExpired; rw [hv]; exact if_pos hd

theorem quietExpired_early {s : State} (hd : s.due s.entry.quiet = false) : quietExpired s = s := by
  unfold quietExpired
  split
  · rfl
  · exact if_neg (by simp [hd])

theorem record_entryEnded {s : State} {v : Nat} (k : Nat) :
    ((writeRec v (fun r => { r with entryDone := true }) s).record k).Later ((entryEnded v s).record k) :=
  (followed_evaluateLeaving _).records k

theorem entryEnded_frame (v : Nat) (s : State) : (entryEnded v s).time = s.time ∧ (entryEnded v s).entry = s.entry
    ∧ (entryEnded v s).traces = s.traces ∧ (WritesRest s → WritesRest (entryEnded v s)) := by
  obtain ⟨h1, h2, h3, h4, -⟩ := followed_evaluateLeaving (writeRec v (fun r => { r with entryDone := true }) s)
  exact ⟨h1, h2, h3, h4⟩

theorem closeEntryTrace_frame (s : State) : (closeEntryTrace s).cal = s.cal ∧ (closeEntryTrace s).time = s.time
    ∧ (closeEntryTrace s).entry = { s.entry with openTrace := none } := by
  unfold closeEntryTrace
  split
  · next h => exact ⟨rfl, rfl, by rw [← h]⟩
  · next id _ =>
    have h := closeTrace_eq id true s
    refine ⟨(congrArg State.cal h).trans rfl, (congrArg State.time h).trans rfl, ?_⟩
    exact congrArg (fun u : State => { u.entry with openTrace := none }) h

theorem closeEntryTrace_traces {s : State} {id : Nat} (h : s.entry.openTrace = some id) :
    (closeEntryTrace s).traces = (closeTrace id true s).2.traces := by
  unfold closeEntryTrace; rw [h]; rfl

theorem entryIdled_spec (s : State) : (entryIdled s).vt = s.vt ∧ (entryIdled s).cal = s.cal
    ∧ (entryIdled s).traces = (closeEntryTrace s).traces ∧ (entryIdled s).entry = s.entry.idled := by
  obtain ⟨h1, h2, h3⟩ := closeEntryTrace_frame s
  refine ⟨(closeEntryTrace_table s).1, h1, rfl, ?_⟩
  show (closeEntryTrace s).entry.idled = s.entry.idled
  rw [h3]
  rfl

/-- Settles O35: entry_done survives what follows, the station is IDLE, and the closed trace is held. -/
theorem quietExpiryEndsTheEntryPhase : Obligations.QuietExpiryEndsTheEntryPhase := by
  intro s v hc hv
  refine ⟨fun hd hlt => ?_, fun hd => (congrArg finish (quietExpired_early hd)).trans (finish_calm s hc)⟩
  obtain ⟨htime, hent, htr, hw⟩ := entryEnded_frame v s
  obtain ⟨i1, i2, i3, i4⟩ := entryIdled_spec (entryEnded v s)
  have hfol : Followed (entryIdled (entryEnded v s)) (settle (entryIdled (entryEnded v s))) :=
    settle_followed (by unfold WritesRest; rw [i2]; exact hw hc.writesRest) (by rw [i4]; rfl)
  have hrec := fun k => record_of_vt i1 k
  refine ⟨_, congrArg finish (quietExpired_due hv hd), ?_, ?_, fun id d ho hf hs _ => ?_⟩
  · rw [(hfol.records v).entryDone, hrec, (record_entryEnded v).entryDone, record_writeRec_same hlt]
  · rw [hfol.entry, i4, hent]; rfl
  · have hs' : ((entryEnded v s).record d.slot).state ≠ .free := by
      refine (record_entryEnded d.slot).inUse ?_
      rw [record_writeRec]
      split <;> exact hs
    obtain ⟨c1, c2⟩ := closeTrace_accepted (id := id) (d := d) (by rw [htr]; exact hf) hs'
    rw [hfol.traces, i3, closeEntryTrace_traces (by rw [hent]; exact ho), c1]
    refine ⟨?_, c2⟩
    rw [State.now, htime]

end Sys2Proof.Machine
end

section
/-! SUPPORT. An axle's weight taken (R53, R55): appended to the bound record, refused at 12 axles, or counted while
BLOCKED; and the settle expiry (R53). -/

namespace Sys2Proof.Machine

/-! ## The excess count of a trace (R147) -/

/-- R147: of the traces no more than their excess counts differ. -/
structure TraceStore.Counted (t t' : TraceStore) : Prop where
  find : ∀ id e, t.find id = some e → ∃ n, t'.find id = some { e with excess := n }
  free : ∀ k, t'.free k = t.free k

theorem TraceStore.Counted.refl (t : TraceStore) : t.Counted t := ⟨fun _ e h => ⟨e.excess, h⟩, fun _ => rfl⟩

theorem TraceStore.Counted.of_eq {t t' : TraceStore} (h : t' = t) : t.Counted t' := h ▸ .refl t

theorem TraceStore.Counted.trans {t u v : TraceStore} (h : t.Counted u) (k : u.Counted v) : t.Counted v where
  find id e he := by
    obtain ⟨n, hn⟩ := h.find id e he
    obtain ⟨m, hm⟩ := k.find id _ hn
    exact ⟨m, hm⟩
  free n := (k.free n).trans (h.free n)

/-- R147: a refused axle counted in a descriptor that is recording. -/
def Descriptor.exceeded (d : Descriptor) : Descriptor :=
  if d.closed then d else { d with excess := bump 255 d.excess }

theorem Descriptor.exceeded_eq (d : Descriptor) : d.exceeded = { d with excess := d.exceeded.excess } := by
  unfold Descriptor.exceeded; split <;> rfl

theorem Descriptor.exceeded_id (d : Descriptor) : d.exceeded.id = d.id := by rw [exceeded_eq]

theorem addExcess_traces (tr : Option Nat) (s : State) :
    (addExcess tr s).traces = tr.elim s.traces fun id => s.traces.modify id Descriptor.exceeded := by
  cases tr <;> rfl

theorem addExcess_counted (tr : Option Nat) (s : State) : s.traces.Counted (addExcess tr s).traces := by
  rw [addExcess_traces]
  cases tr with
  | none => exact .refl _
  | some id =>
    refine ⟨fun j e he => ?_, fun _ => rfl⟩
    show ∃ n, (s.traces.modify id Descriptor.exceeded).find j = _
    rw [TraceStore.find_modify id j Descriptor.exceeded_id, he, Option.map_some]
    split
    · exact ⟨_, congrArg some e.exceeded_eq⟩
    · exact ⟨e.excess, rfl⟩

/-! ## A measured axle appended (R55) -/

/-- R55: the record with an axle entry appended. -/
def Record.measured (f : Axle → Axle) (r : Record) : Record := { r with axles := r.axles ++ [f r.nextEntry] }

/-- R55: an append is told with the entry's number, and then the head's leaving and a waiting axle are looked at. -/
theorem appendMeasured_numbered {k : Nat} {f : Axle → Axle} {s : State} (h : (s.record k).axles.length < 12)
    (hk : k < s.vt.records.length) : (appendMeasured k f s).2 = noteRematch (evaluateLeaving
      (noticeMeasured k ((s.record k).axles.length + 1) (writeRec k (Record.measured f) s))) := by
  have ha : appendAxle k f s = (true, writeRec k (Record.measured f) s) := if_pos h
  unfold appendMeasured
  simp only [ha, if_true, record_writeRec_same hk, Record.measured, List.length_append, List.length_singleton]

theorem noticeMeasured_eq (k n : Nat) (s : State) :
    noticeMeasured k n s = { s with port := (noticeMeasured k n s).port } := by
  unfold noticeMeasured; dsimp only; split <;> rfl

theorem noticeMeasured_cal (k n : Nat) (s : State) : (noticeMeasured k n s).cal = s.cal := by
  rw [noticeMeasured_eq]

theorem followed_noticeMeasured (k n : Nat) (s : State) : Followed s (noticeMeasured k n s) := by
  rw [noticeMeasured_eq]; exact .of_eq rfl rfl rfl rfl rfl

theorem evaluateLeaving_cal (s : State) : (evaluateLeaving s).cal = s.cal := by
  unfold evaluateLeaving
  split
  · exact (completeHead_owed .exit s).1
  · rfl

theorem followed_appendMeasured {k : Nat} {f : Axle → Axle} {s : State} (h : (s.record k).axles.length < 12)
    (hk : k < s.vt.records.length) : Followed (writeRec k (Record.measured f) s) (appendMeasured k f s).2 := by
  rw [appendMeasured_numbered h hk]
  exact ((followed_noticeMeasured _ _ _).trans (followed_evaluateLeaving _)).trans (followed_onWork _ _)

/-- R55: an append leaves the store alone, and of the traces no more than an excess count differs. -/
theorem appendMeasured_rest (k : Nat) (f : Axle → Axle) (s : State) :
    (appendMeasured k f s).2.cal = s.cal ∧ s.traces.Counted (appendMeasured k f s).2.traces := by
  rcases Nat.lt_or_ge (s.record k).axles.length 12 with h | h
  · obtain ⟨n, hn⟩ := appendMeasured_taken (f := f) h
    rw [hn]
    exact ⟨(evaluateLeaving_cal _).trans (noticeMeasured_cal _ _ _),
      .of_eq ((followed_evaluateLeaving _).traces.trans (followed_noticeMeasured _ _ _).traces)⟩
  · rw [appendMeasured_refused h]
    exact ⟨(entryOnly_addExcess _ _).cal, addExcess_counted _ (writeRec k _ s)⟩

/-- R55: AXLE_MEASURED carries the entry appended. -/
theorem noticeMeasured_told {k : Nat} {f : Axle → Axle} {s : State} (hk : k < s.vt.records.length)
    (hroom : s.port.notices.length < 32) : ∃ m, (m, .axleMeasured k (displayedId (s.record k))
      ((s.record k).axles.length + 1) (f (s.record k).nextEntry).weightL (f (s.record k).nextEntry).weightR
      (f (s.record k).nextEntry).unsettled (f (s.record k).nextEntry).overrange (f (s.record k).nextEntry).addedAtRollers
      (f (s.record k).nextEntry).sideSlip s.time.now)
        ∈ (noticeMeasured k ((s.record k).axles.length + 1) (writeRec k (Record.measured f) s)).port.notices := by
  have hax : ((writeRec k (Record.measured f) s).record k).axle ((s.record k).axles.length + 1)
      = some (f (s.record k).nextEntry) := by
    rw [record_writeRec_same hk]
    simp [Record.axle, Record.measured]
  have hid : displayedId ((writeRec k (Record.measured f) s).record k) = displayedId (s.record k) := by
    rw [record_writeRec_same hk]; rfl
  unfold noticeMeasured
  simp only [hax, hid]
  exact (sendNotice_notices _ (writeRec k (Record.measured f) s)).1 hroom

/-- R20: an entry without a result leaves the record untested. -/
theorem testDone_measured {f : Axle → Axle} {r : Record} (t : LaneTime) (h : (f r.nextEntry).service = none)
    (hs : (f r.nextEntry).skip = none) : testDone { r.measured f with lastActivity := t } = false := by
  simp [testDone, Record.measured, Axle.finished, h, hs]

/-! ## The weight taken (R53) -/

/-- R51, R53: the side-slip that goes with the axle on the scale. -/
def EntryStation.dueSlip (e : EntryStation) : Option Int := if e.scale.late then none else e.crossings.head?.join

/-- R53: the station once the weight of the axle on the scale is taken. -/
def EntryStation.weighed (wl wr n : Option Nat) (e : EntryStation) : EntryStation :=
  { e with
      crossings := if e.scale.late then e.crossings else e.crossings.drop 1
      scale := { e.scale with phase := .taken, settle := none, takenL := wl, takenR := wr, takenNumber := n } }

/-- R55: the entry of the axle on the scale. -/
def EntryStation.weighedAxle (u : Bool) (wl wr : Option Nat) (e : EntryStation) : Axle → Axle :=
  measuredAxle wl wr u e.scale.overrange e.dueSlip

section
variable {u : Bool} {wl wr : Option Nat} {s : State} {v : Nat}

theorem takeWeight_unbound (hv : s.entry.vehicle = none) : takeWeight u wl wr s =
    s.onEntry fun e => { e.weighed wl wr none with passed := bump 255 e.passed } := by
  unfold takeWeight; dsimp only; rw [hv]; rfl

theorem takeWeight_bound (hv : s.entry.vehicle = some v) : ∃ n, takeWeight u wl wr s =
    raiseEvent .weightSettled (onScale (fun c => { c with takenNumber := n })
      (appendMeasured v (s.entry.weighedAxle u wl wr) (s.onEntry (EntryStation.weighed wl wr none))).2) := by
  unfold takeWeight; dsimp only; rw [hv]; exact ⟨_, rfl⟩

/-- R53, R55: outside the entry station, taking a weight while bound is the append. -/
theorem takeWeight_append (hv : s.entry.vehicle = some v) : ∃ t,
    t = (appendMeasured v (s.entry.weighedAxle u wl wr) (s.onEntry (EntryStation.weighed wl wr none))).2
      ∧ (takeWeight u wl wr s).vt = t.vt ∧ (takeWeight u wl wr s).cal = t.cal
      ∧ (takeWeight u wl wr s).traces = t.traces ∧ (takeWeight u wl wr s).port = t.port := by
  obtain ⟨n, hn⟩ := takeWeight_bound (u := u) (wl := wl) (wr := wr) hv
  refine ⟨_, rfl, ?_⟩
  rw [hn]
  generalize (appendMeasured v _ _).2 = t
  exact ⟨rfl, rfl, rfl, rfl⟩

/-- R53: what the station shows of the weight taken, and the axles counted while BLOCKED. -/
theorem takeWeight_entry : ∃ n, (takeWeight u wl wr s).entry = { s.entry.weighed wl wr n with
    passed := if s.entry.vehicle.isSome then s.entry.passed else bump 255 s.entry.passed } := by
  cases hv : s.entry.vehicle with
  | none => rw [takeWeight_unbound hv]; exact ⟨none, rfl⟩
  | some v =>
    obtain ⟨n, hn⟩ := takeWeight_bound (u := u) (wl := wl) (wr := wr) hv
    refine ⟨n, ?_⟩
    rw [hn, raiseEvent_entry]
    unfold onScale
    rw [State.onEntry_entry, (appendMeasured_stations _ _ _).1]
    rfl

theorem entryOnly_takeWeight (hv : s.entry.vehicle = none) : EntryOnly s (takeWeight u wl wr s) := by
  rw [takeWeight_unbound hv]; exact entryOnly_onEntry _ s

/-- R55: at 12 axles the weight is refused: the record's note and the trace's count. -/
theorem takeWeight_refused (hv : s.entry.vehicle = some v) (hl : 12 ≤ (s.record v).axles.length) :
    EntryOnly (writeRec v (fun r => { r with axlesExceeded := true }) s) (takeWeight u wl wr s)
      ∧ (takeWeight u wl wr s).traces = (addExcess s.entry.openTrace s).traces
      ∧ (takeWeight u wl wr s).port = s.port := by
  obtain ⟨n, hn⟩ := takeWeight_bound (u := u) (wl := wl) (wr := wr) hv
  have hr := appendMeasured_refused (f := s.entry.weighedAxle u wl wr) (k := v)
    (s := s.onEntry (EntryStation.weighed wl wr none)) hl
  rw [hn, hr]
  refine ⟨?_, ?_, addExcess_port _ _⟩
  · exact (((entryOnly_onEntry (EntryStation.weighed wl wr none) (writeRec v _ s)).trans (entryOnly_addExcess _ _)).trans
      (entryOnly_onEntry _ _)).trans (entryOnly_raiseEvent _ _)
  · show (addExcess s.entry.openTrace _).traces = _
    rw [addExcess_traces, addExcess_traces]
    rfl

/-- R55: below 12 axles the axle is appended and told. -/
theorem takeWeight_appended (hv : s.entry.vehicle = some v) (hl : (s.record v).axles.length < 12)
    (hk : v < s.vt.records.length) :
    (takeWeight u wl wr s).record v = { (s.record v).measured (s.entry.weighedAxle u wl wr) with lastActivity := s.now }
      ∧ (s.port.notices.length < 32 → ∃ m, (m, .axleMeasured v (displayedId (s.record v))
          ((s.record v).axles.length + 1) wl wr u s.entry.scale.overrange false s.entry.dueSlip s.time.now)
            ∈ (takeWeight u wl wr s).port.notices) := by
  obtain ⟨t, ht, hvt, -, -, hport⟩ := takeWeight_append (u := u) (wl := wl) (wr := wr) hv
  have hf := followed_appendMeasured (f := s.entry.weighedAxle u wl wr) (k := v)
    (s := s.onEntry (EntryStation.weighed wl wr none)) hl hk
  have hrec := record_writeRec_same (f := Record.measured (s.entry.weighedAxle u wl wr)) (k := v)
    (s := s.onEntry (EntryStation.weighed wl wr none)) hk
  refine ⟨?_, fun hroom => ?_⟩
  · rw [record_of_vt hvt, ht, hf.record (by rw [hrec]; exact testDone_measured _ rfl rfl), hrec]
    rfl
  · obtain ⟨m, hm⟩ := noticeMeasured_told (f := s.entry.weighedAxle u wl wr) (k := v)
      (s := s.onEntry (EntryStation.weighed wl wr none)) hk hroom
    rw [hport, ht, appendMeasured_numbered (s := s.onEntry (EntryStation.weighed wl wr none)) hl hk]
    exact ⟨m, (portKept_evaluateLeaving _).notices _ hm⟩

theorem takeWeight_cal : (takeWeight u wl wr s).cal = s.cal := by
  cases hv : s.entry.vehicle with
  | none => exact (entryOnly_takeWeight hv).cal
  | some v =>
    obtain ⟨t, ht, -, hcal, -⟩ := takeWeight_append (u := u) (wl := wl) (wr := wr) hv
    rw [hcal, ht]
    exact (appendMeasured_rest v _ (s.onEntry _)).1

theorem takeWeight_counted : s.traces.Counted (takeWeight u wl wr s).traces := by
  cases hv : s.entry.vehicle with
  | none => rw [takeWeight_unbound hv]; exact .refl _
  | some v =>
    obtain ⟨t, ht, -, -, htr, -⟩ := takeWeight_append (u := u) (wl := wl) (wr := wr) hv
    rw [htr, ht]
    exact (appendMeasured_rest v _ (s.onEntry _)).2

theorem portKept_takeWeight : s.port.Kept (takeWeight u wl wr s).port := by
  cases hv : s.entry.vehicle with
  | none => rw [takeWeight_unbound hv]; exact .refl _
  | some v =>
    obtain ⟨t, ht, -, -, -, hport⟩ := takeWeight_append (u := u) (wl := wl) (wr := wr) hv
    rw [hport, ht]
    exact portKept_appendMeasured v _ (s.onEntry _)

end

/-! ## What follows (R49, R53) -/

/-- R53, R55: after a weight taken while bound, whatever else the event does to the station alone, the station stands as
the event left it, and the record has the axle or the note of its refusal. -/
theorem settle_weighed {s j t : State} {v : Nat} {u : Bool} {wl wr : Option Nat} (hc : Calm s) (hj : EntryOnly s j)
    (hv : j.entry.vehicle = some v) (hk : v < s.vt.records.length) (ht : EntryOnly (takeWeight u wl wr j) t)
    (hb : t.entry.blocked = false) : (settle t).entry = t.entry ∧ (settle t).traces = t.traces
      ∧ t.port.Kept (settle t).port
      ∧ (12 ≤ (s.record v).axles.length → (settle t).record v = { s.record v with
          axlesExceeded := true, lastActivity := s.now } ∧ (settle t).port.notices = t.port.notices)
      ∧ ((s.record v).axles.length < 12 → (settle t).record v = { (s.record v).measured (j.entry.weighedAxle u wl wr) with
          lastActivity := s.now }) := by
  have hw : WritesRest t := by
    unfold WritesRest
    rw [ht.cal, takeWeight_cal, hj.cal]
    exact hc.writesRest
  have hf := settle_followed hw hb
  have hrec := record_of_vt hj.vt v
  have hnow : j.now = s.now := congrArg TimeBase.now hj.time
  refine ⟨hf.entry, hf.traces, portKept_settle hw, fun hl => ?_, fun hl => ?_⟩
  · obtain ⟨hon, -⟩ := takeWeight_refused (u := u) (wl := wl) (wr := wr) hv (by rw [hrec]; exact hl)
    have hjw : EntryOnly (writeRec v (fun r => { r with axlesExceeded := true }) s)
        (writeRec v (fun r => { r with axlesExceeded := true }) j) := by
      obtain ⟨e, tr, p, l, rfl⟩ := hj
      exact ⟨e, tr, p, l, rfl⟩
    have hst := (hjw.trans hon).trans ht
    have hr := hst.settles (calm_withVt hc _)
    exact ⟨(record_of_vt (hr.vt.trans hst.vt) v).trans (record_writeRec_same hk), hr.notices⟩
  · obtain ⟨hap, -⟩ := takeWeight_appended (u := u) (wl := wl) (wr := wr) hv (by rw [hrec]; exact hl)
      (by rw [hj.vt]; exact hk)
    have hown := (record_of_vt ht.vt v).trans hap
    rw [hrec, hnow] at hown
    refine (hf.record ?_).trans hown
    rw [hown]
    exact testDone_measured _ rfl rfl

/-! ## The settle expiry (R53) -/

theorem settleExpired_due {s : State} (hp : s.entry.scale.phase = .weighing) (hd : s.due s.entry.scale.settle = true) :
    settleExpired s = takeUnsettled s := by
  unfold settleExpired; simp [hp, hd]

/-- Settles O34: the weight taken UNSETTLED is appended, refused or counted. -/
theorem settleExpiryTakesTheWeightUnsettled : Obligations.SettleExpiryTakesTheWeightUnsettled := by
  intro s hc hp hd
  have hex : exec .settleExpiry s = .next (settle (takeUnsettled s)) := congrArg finish (settleExpired_due hp hd)
  obtain ⟨n, hent⟩ : ∃ n, (takeUnsettled s).entry = _ := takeWeight_entry
  refine ⟨fun v hv hb hk hl => ?_, fun v hv hb hk hl => ?_, fun hv => ?_⟩
  · obtain ⟨h1, -, h3, -, h5⟩ := settle_weighed hc (.refl s) hv hk (.refl (takeUnsettled s)) (by rw [hent]; exact hb)
    obtain ⟨-, htold⟩ := takeWeight_appended (u := true)
      (wl := expiryMean s.entry.scale.usableL s.entry.scale.sumL s.entry.scale.cntL)
      (wr := expiryMean s.entry.scale.usableR s.entry.scale.sumR s.entry.scale.cntR) hv hl hk
    refine ⟨_, _, hex, by rw [h1, hent]; rfl, by rw [h1, hent]; rfl, by rw [h5 hl]; rfl, rfl, rfl, rfl, rfl, rfl, rfl, rfl,
      rfl, by rw [h1, hent]; rfl, fun hroom => ?_⟩
    obtain ⟨m, hm⟩ := htold hroom
    exact ⟨m, h3.notices _ hm⟩
  · obtain ⟨h1, h2, -, h4, -⟩ := settle_weighed hc (.refl s) hv hk (.refl (takeUnsettled s)) (by rw [hent]; exact hb)
    obtain ⟨-, htr, hport⟩ := takeWeight_refused (u := true)
      (wl := expiryMean s.entry.scale.usableL s.entry.scale.sumL s.entry.scale.cntL)
      (wr := expiryMean s.entry.scale.usableR s.entry.scale.sumR s.entry.scale.cntR) hv hl
    obtain ⟨h4, h5⟩ := h4 hl
    refine ⟨_, hex, by rw [h1, hent]; rfl, by rw [h1, hent]; rfl, by rw [h4], by rw [h4],
      h5.trans (congrArg HostPort.notices hport), by rw [h1, hent]; rfl, fun id e ho he hcl => ?_⟩
    refine (congrArg (TraceStore.find · id) (h2.trans htr)).trans ?_
    rw [addExcess_traces, ho]
    refine (TraceStore.find_modify_some he Descriptor.exceeded_id).trans ?_
    simp [Descriptor.exceeded, hcl, bump]
  · have hon : EntryOnly s (takeUnsettled s) := entryOnly_takeWeight hv
    have hr := hon.settles hc
    refine ⟨_, hex, by rw [hr.entry, hent]; rfl, by rw [hr.entry, hent]; rfl, by rw [hr.entry, hent]; rfl, ?_,
      hr.vt.trans hon.vt⟩
    rw [hr.entry, hent, hv]
    rfl

end Sys2Proof.Machine
end

section
/-! SUPPORT. A sample on the axle scale (R52 to R54), an equation per case of it; what acting on it leaves alone. -/

namespace Sys2Proof.Machine

/-! ## Settled (R53) -/

theorem maxOf_le_iff {l : List Nat} {n : Nat} : maxOf l ≤ n ↔ ∀ a ∈ l, a ≤ n := by
  have below : ∀ (l : List Nat) (b : Nat), l.foldl max b ≤ n ↔ b ≤ n ∧ ∀ a ∈ l, a ≤ n := by
    intro l
    induction l with
    | nil => simp
    | cons a l ih => intro b; simp [ih, and_assoc]
  simpa [maxOf] using below l 0

theorem le_minOf_iff {l : List Nat} {n : Nat} (h : l ≠ []) : n ≤ minOf l ↔ ∀ a ∈ l, n ≤ a := by
  have above : ∀ (l : List Nat) (b : Nat), n ≤ l.foldl min b ↔ n ≤ b ∧ ∀ a ∈ l, n ≤ a := by
    intro l
    induction l with
    | nil => simp
    | cons a l ih => intro b; simp [ih, and_assoc]
  cases l with
  | nil => exact absurd rfl h
  | cons a l => simpa [minOf] using above l a

/-- R53: 20 samples of which no two are further apart than the band. -/
theorem ScaleTracker.settled_iff (c : ScaleTracker) (band : Nat) : c.settled band = true ↔
    c.last20.length = 20 ∧ ∀ p ∈ c.last20, ∀ q ∈ c.last20, p.axle ≤ q.axle + band := by
  unfold ScaleTracker.settled
  simp only [Bool.and_eq_true, beq_iff_eq, decide_eq_true_eq]
  refine and_congr_right fun hl => ?_
  have hne : c.last20.map WeightSample.axle ≠ [] := by
    intro h
    rw [List.map_eq_nil_iff] at h
    rw [h] at hl
    cases hl
  have hband : ∀ a : Nat, a ≤ minOf (c.last20.map WeightSample.axle) + band ↔ ∀ q ∈ c.last20, a ≤ q.axle + band := by
    intro a
    rw [← Nat.sub_le_iff_le_add, le_minOf_iff hne, List.forall_mem_map]
    exact forall₂_congr fun q _ => Nat.sub_le_iff_le_add
  rw [Nat.sub_le_iff_le_add', maxOf_le_iff, List.forall_mem_map]
  exact forall₂_congr fun p _ => hband p.axle

theorem countOf_eq (v : Option Nat) : countOf v = v.isSome.toNat := by cases v <;> rfl

/-- R52: what every sample does to the axle on the scale. -/
theorem ScaleTracker.join_marks (c : ScaleTracker) (x : EntrySample) (on : Nat) :
    (c.join x on).phase = c.phase ∧ (c.join x on).onTime = c.onTime ∧ (c.join x on).late = c.late
      ∧ (c.join x on).settle = c.settle
      ∧ (c.join x on).last20 = (if 20 ≤ c.last20.length then c.last20.drop 1 else c.last20)
          ++ [{ axle := x.axleWeight, left := x.weightL, right := x.weightR }]
      ∧ (c.join x on).usableL = (c.usableL && x.weightL.isSome) ∧ (c.join x on).usableR = (c.usableR && x.weightR.isSome)
      ∧ (c.join x on).overrange = (c.overrange || x.clampL || x.clampR) := by
  unfold ScaleTracker.join
  dsimp only
  split <;> exact ⟨rfl, rfl, rfl, rfl, rfl, rfl, rfl, rfl⟩

theorem ScaleTracker.join_low {c : ScaleTracker} {x : EntrySample} {on : Nat} (h : 2 * x.axleWeight < on) :
    c.join x on = { c.joinMarks x with
      low := c.low + 1, lowSumL := c.lowSumL + x.weightL.getD 0, lowSumR := c.lowSumR + x.weightR.getD 0
      lowCntL := c.lowCntL + countOf x.weightL, lowCntR := c.lowCntR + countOf x.weightR } := if_pos h

theorem ScaleTracker.join_counted {c : ScaleTracker} {x : EntrySample} {on : Nat} (h : on ≤ 2 * x.axleWeight) :
    c.join x on = { c.joinMarks x with
      low := 0, sumL := c.sumL + c.lowSumL + x.weightL.getD 0, sumR := c.sumR + c.lowSumR + x.weightR.getD 0
      cntL := c.cntL + c.lowCntL + countOf x.weightL, cntR := c.cntR + c.lowCntR + countOf x.weightR
      lowSumL := 0, lowSumR := 0, lowCntL := 0, lowCntR := 0 } := if_neg (Nat.not_lt.mpr h)

/-- R53: the mean of a usable side whose last samples are all present. -/
theorem settledMean_present {l : List WeightSample} {f : WeightSample → Option Nat} {ws : List Nat}
    (hw : l.map f = ws.map some) (hl : l.length = 20) : settledMean true (l.map f) = some (roundDiv ws.sum 20) := by
  have hlen : ws.length = 20 := by
    have := congrArg List.length hw
    rw [List.length_map, List.length_map] at this
    omega
  have hne : ws ≠ [] := by intro h; rw [h] at hlen; cases hlen
  unfold settledMean
  rw [hw]
  simp [List.filterMap_map, hne, hlen]

/-! ## An axle that leaves (R54) -/

/-- R54: the scale emptied. -/
def scaleEmptied (s : State) : State :=
  if s.entry.vehicle.isSome then checkFinishing (raiseEvent .axleOffScale (onScale (fun _ => ScaleTracker.empty) s))
  else onScale (fun _ => ScaleTracker.empty) s

theorem entryOnly_scaleEmptied (s : State) : EntryOnly s (scaleEmptied s) := by
  unfold scaleEmptied
  split
  · exact ((entryOnly_onEntry _ s).trans (entryOnly_raiseEvent _ _)).trans (entryOnly_checkFinishing _)
  · exact entryOnly_onEntry _ s

theorem scaleEmptied_entry (s : State) : (scaleEmptied s).entry = { s.entry with
    scale := ScaleTracker.empty
    quiet := if s.entry.vehicle.isSome = true ∧ s.entry.cleared = true ∧ s.entry.plate.crossing = false then
      some (later s.now 3000) else s.entry.quiet } := by
  unfold scaleEmptied
  split
  · next hv =>
    rw [checkFinishing_entry]
    simp [EntryStation.mayFinish_iff, onScale, hv, ScaleTracker.empty, State.now, raiseEvent, hand]
  · next hv => simp [onScale, hv]

theorem scaleEmptied_rest (s : State) : s.port.Kept (scaleEmptied s).port ∧ (scaleEmptied s).traces = s.traces := by
  unfold scaleEmptied
  split
  · exact ⟨portKept_checkFinishing (raiseEvent _ (onScale _ s)), checkFinishing_traces _⟩
  · exact ⟨.refl _, rfl⟩

theorem leaveScale_taken {s : State} (h : s.entry.scale.phase = .taken) : leaveScale s = scaleEmptied s := by
  unfold leaveScale; simp [h]; rfl

theorem leaveScale_weighing {s : State} (h : s.entry.scale.phase = .weighing) :
    leaveScale s = scaleEmptied (takeUnsettled s) := by
  obtain ⟨n, hn⟩ : ∃ n, (takeUnsettled s).entry = _ := takeWeight_entry
  unfold leaveScale scaleEmptied
  rw [hn]
  simp [h]
  rfl

/-! ## A sample (R52) -/

/-- R52: the sample has joined the axle on the scale. -/
def axleJoined (x : EntrySample) (s : State) : State := onScale (fun c => c.join x s.entry.axleOn) s

theorem entryOnly_axleJoined (x : EntrySample) (s : State) : EntryOnly s (axleJoined x s) :=
  entryOnly_onEntry (fun e => { e with scale := e.scale.join x s.entry.axleOn }) s

theorem axleJoined_entry (x : EntrySample) (s : State) :
    (axleJoined x s).entry = { s.entry with scale := s.entry.scale.join x s.entry.axleOn } := rfl

theorem scaleSample_light {x : EntrySample} {s : State} (h : s.entry.scale.phase = .empty)
    (hw : x.axleWeight < s.entry.axleOn) : scaleSample x s = s := by
  unfold scaleSample; rw [h]; exact if_neg (Nat.not_le.mpr hw)

theorem scaleSample_heavy {x : EntrySample} {s : State} (h : s.entry.scale.phase = .empty)
    (hw : s.entry.axleOn ≤ x.axleWeight) : scaleSample x s = comeOnScale x s := by
  unfold scaleSample; rw [h]; exact if_pos hw

theorem scaleSample_occupied {x : EntrySample} {s : State} (h : s.entry.scale.phase ≠ .empty) : scaleSample x s =
    if (axleJoined x s).entry.scale.low == 5 then leaveScale (axleJoined x s)
    else if (axleJoined x s).entry.scale.phase == .weighing
        && (axleJoined x s).entry.scale.settled (axleJoined x s).entry.settleBand then takeSettled (axleJoined x s)
    else axleJoined x s := by
  unfold scaleSample
  split
  · next he => exact absurd he h
  · rfl
  · rfl

theorem scaleSample_leaves {x : EntrySample} {s : State} (h : s.entry.scale.phase ≠ .empty)
    (hl : (axleJoined x s).entry.scale.low = 5) : scaleSample x s = leaveScale (axleJoined x s) := by
  rw [scaleSample_occupied h, if_pos (by simp [hl])]

theorem scaleSample_settles {x : EntrySample} {s : State} (h : s.entry.scale.phase = .weighing)
    (hl : (axleJoined x s).entry.scale.low ≠ 5)
    (hs : (axleJoined x s).entry.scale.settled s.entry.settleBand = true) :
    scaleSample x s = takeSettled (axleJoined x s) := by
  have hp : (axleJoined x s).entry.scale.phase = .weighing := (ScaleTracker.join_marks _ _ _).1.trans h
  rw [scaleSample_occupied (by rw [h]; decide), if_neg (by simp [hl]), if_pos]
  simp only [hp, Bool.and_eq_true]
  exact ⟨rfl, hs⟩

theorem scaleSample_joins {x : EntrySample} {s : State} (h : s.entry.scale.phase ≠ .empty)
    (hl : (axleJoined x s).entry.scale.low ≠ 5) (hs : s.entry.scale.phase = .taken
      ∨ (axleJoined x s).entry.scale.settled s.entry.settleBand = false) : scaleSample x s = axleJoined x s := by
  have hp : (axleJoined x s).entry.scale.phase = s.entry.scale.phase := (ScaleTracker.join_marks _ _ _).1
  rw [scaleSample_occupied h, if_neg (by simp [hl]), if_neg]
  rw [hp]
  rcases hs with hs | hs
  · simp [hs]
  · rw [show (axleJoined x s).entry.settleBand = s.entry.settleBand from rfl, hs]; simp

theorem entryOnly_comeOnScale (x : EntrySample) (s : State) : EntryOnly s (comeOnScale x s) := by
  unfold comeOnScale
  dsimp only
  split
  · exact (((entryOnly_onEntry _ s).trans (entryOnly_raiseEvent _ _)).trans (entryOnly_onEntry _ _)).trans
      (entryOnly_noticeDeparture _ _)
  · exact entryOnly_onEntry _ s

theorem comeOnScale_entry (x : EntrySample) (s : State) : (comeOnScale x s).entry = { s.entry with
    scale := ScaleTracker.started x s.entry.firstWindow
    quiet := if s.entry.vehicle.isSome then none else s.entry.quiet } := by
  unfold comeOnScale
  dsimp only
  split
  · rw [noticeDeparture_entry]; rfl
  · rfl

theorem comeOnScale_rest (x : EntrySample) (s : State) :
    s.port.Kept (comeOnScale x s).port ∧ (comeOnScale x s).traces = s.traces := by
  unfold comeOnScale
  dsimp only
  split
  · exact ⟨portKept_noticeDeparture _ (cancelQuiet (raiseEvent _ (onScale _ s))), noticeDeparture_traces _ _⟩
  · exact ⟨.refl _, rfl⟩

/-! ## What acting on the scale leaves alone -/

/-- The vehicle, BLOCKED and the plate tracker, the store, the traces but for an excess count, and the Host Port but for
further notices. -/
structure ScaleOnly (s t : State) : Prop where
  vehicle : t.entry.vehicle = s.entry.vehicle
  blocked : t.entry.blocked = s.entry.blocked
  plate : t.entry.plate = s.entry.plate
  cal : t.cal = s.cal
  traces : s.traces.Counted t.traces
  port : s.port.Kept t.port

theorem ScaleOnly.refl (s : State) : ScaleOnly s s := ⟨rfl, rfl, rfl, rfl, .refl _, .refl _⟩

theorem ScaleOnly.trans {s t u : State} (h : ScaleOnly s t) (k : ScaleOnly t u) : ScaleOnly s u where
  vehicle := k.vehicle.trans h.vehicle
  blocked := k.blocked.trans h.blocked
  plate := k.plate.trans h.plate
  cal := k.cal.trans h.cal
  traces := h.traces.trans k.traces
  port := h.port.trans k.port

theorem scaleOnly_axleJoined (x : EntrySample) (s : State) : ScaleOnly s (axleJoined x s) :=
  ⟨rfl, rfl, rfl, rfl, .refl _, .refl _⟩

theorem scaleOnly_comeOnScale (x : EntrySample) (s : State) : ScaleOnly s (comeOnScale x s) where
  vehicle := by rw [comeOnScale_entry]
  blocked := by rw [comeOnScale_entry]
  plate := by rw [comeOnScale_entry]
  cal := (entryOnly_comeOnScale x s).cal
  traces := .of_eq (comeOnScale_rest x s).2
  port := (comeOnScale_rest x s).1

theorem scaleOnly_takeWeight (u : Bool) (wl wr : Option Nat) (s : State) : ScaleOnly s (takeWeight u wl wr s) := by
  obtain ⟨n, hn⟩ : ∃ n, (takeWeight u wl wr s).entry = _ := takeWeight_entry
  exact ⟨by rw [hn]; rfl, by rw [hn]; rfl, by rw [hn]; rfl, takeWeight_cal, takeWeight_counted, portKept_takeWeight⟩

theorem scaleOnly_scaleEmptied (s : State) : ScaleOnly s (scaleEmptied s) where
  vehicle := by rw [scaleEmptied_entry]
  blocked := by rw [scaleEmptied_entry]
  plate := by rw [scaleEmptied_entry]
  cal := (entryOnly_scaleEmptied s).cal
  traces := .of_eq (scaleEmptied_rest s).2
  port := (scaleEmptied_rest s).1

/-- What a sample on the scale comes to: nothing, an axle that comes on, one that leaves with its weight taken or not,
one that settles, or one more sample of it. -/
theorem scaleSample_cases (x : EntrySample) (s : State) : scaleSample x s = s ∨ scaleSample x s = comeOnScale x s
    ∨ scaleSample x s = scaleEmptied (axleJoined x s) ∨ scaleSample x s = scaleEmptied (takeUnsettled (axleJoined x s))
    ∨ scaleSample x s = takeSettled (axleJoined x s) ∨ scaleSample x s = axleJoined x s := by
  have hp : (axleJoined x s).entry.scale.phase = s.entry.scale.phase := (ScaleTracker.join_marks _ _ _).1
  cases h : s.entry.scale.phase with
  | empty =>
    rcases Nat.lt_or_ge x.axleWeight s.entry.axleOn with hw | hw
    · exact .inl (scaleSample_light h hw)
    · exact .inr (.inl (scaleSample_heavy h hw))
  | weighing =>
    by_cases hl : (axleJoined x s).entry.scale.low = 5
    · exact .inr (.inr (.inr (.inl ((scaleSample_leaves (by rw [h]; decide) hl).trans
        (leaveScale_weighing (hp.trans h))))))
    · cases hs : (axleJoined x s).entry.scale.settled s.entry.settleBand with
      | true => exact .inr (.inr (.inr (.inr (.inl (scaleSample_settles h hl hs)))))
      | false => exact .inr (.inr (.inr (.inr (.inr (scaleSample_joins (by rw [h]; decide) hl (.inr hs))))))
  | taken =>
    by_cases hl : (axleJoined x s).entry.scale.low = 5
    · exact .inr (.inr (.inl ((scaleSample_leaves (by rw [h]; decide) hl).trans (leaveScale_taken (hp.trans h)))))
    · exact .inr (.inr (.inr (.inr (.inr (scaleSample_joins (by rw [h]; decide) hl (.inl h))))))

theorem scaleOnly_scaleSample (x : EntrySample) (s : State) : ScaleOnly s (scaleSample x s) := by
  have hj := scaleOnly_axleJoined x s
  rcases scaleSample_cases x s with h | h | h | h | h | h <;> rw [h]
  · exact .refl s
  · exact scaleOnly_comeOnScale x s
  · exact hj.trans (scaleOnly_scaleEmptied _)
  · exact (hj.trans (scaleOnly_takeWeight _ _ _ _)).trans (scaleOnly_scaleEmptied _)
  · exact hj.trans (scaleOnly_takeWeight _ _ _ _)
  · exact hj

/-- While no vehicle is bound, the records and the traces stay as they are. -/
theorem scaleSample_unbound {x : EntrySample} {s : State} (hv : s.entry.vehicle = none) :
    EntryOnly s (scaleSample x s) ∧ (scaleSample x s).traces = s.traces := by
  have hj := entryOnly_axleJoined x s
  have taken : ∀ u wl wr, EntryOnly s (takeWeight u wl wr (axleJoined x s))
      ∧ (takeWeight u wl wr (axleJoined x s)).traces = s.traces := fun u wl wr =>
    ⟨hj.trans (entryOnly_takeWeight hv), by rw [takeWeight_unbound (s := axleJoined x s) hv]; rfl⟩
  have emptied : ∀ t, EntryOnly s t ∧ t.traces = s.traces →
      EntryOnly s (scaleEmptied t) ∧ (scaleEmptied t).traces = s.traces := fun t h =>
    ⟨h.1.trans (entryOnly_scaleEmptied t), (scaleEmptied_rest t).2.trans h.2⟩
  rcases scaleSample_cases x s with h | h | h | h | h | h <;> rw [h]
  · exact ⟨.refl s, rfl⟩
  · exact ⟨entryOnly_comeOnScale x s, (comeOnScale_rest x s).2⟩
  · exact emptied _ ⟨hj, rfl⟩
  · exact emptied _ (taken _ _ _)
  · exact taken _ _ _
  · exact ⟨hj, rfl⟩

end Sys2Proof.Machine
end

section
/-! SUPPORT. A window end at the entry station (R47, R50, R58, R60): the live frame, the trace and the crossing take the
sample, and then the scale does. -/

namespace Sys2Proof.Machine

/-! ## A sample appended to a trace (R146) -/

theorem Runs.pop_eq_none_iff (r : Runs) : Runs.pop r = none ↔ Runs.count r = 0 := by
  induction r with
  | nil => exact ⟨fun _ => rfl, fun _ => rfl⟩
  | cons q r ih =>
    obtain ⟨a, n⟩ := q
    match n with
    | 0 => simpa [Runs.pop, Runs.count] using ih
    | 1 => simp [Runs.pop, Runs.count]
    | n + 2 => simp [Runs.pop, Runs.count]

section
variable {ts : TraceStore} {id : Nat} {e : Descriptor} (x : TraceSample) (t : LaneTime)

/-- R146: the last block has room. -/
theorem TraceStore.append_room (hf : ts.find id = some e) (hc : e.closed = false) (ht : e.truncated = false)
    (hr : e.samples.length % e.kind.perBlock ≠ 0) : ts.append id x t = ts.modify id fun d => d.store x t := by
  unfold TraceStore.append
  simp [hf, hc, ht, Descriptor.needsBlock, hr]

/-- R146: a free block is taken. -/
theorem TraceStore.append_block {b : Nat} {r : Runs} (hf : ts.find id = some e) (hc : e.closed = false)
    (ht : e.truncated = false) (hr : e.samples.length % e.kind.perBlock = 0)
    (hp : Runs.pop (ts.free e.kind) = some (b, r)) : ts.append id x t = (ts.setFree e.kind r).modify id fun d =>
      Descriptor.store { d with blocks := Runs.snoc d.blocks (b, 1) } x t := by
  unfold TraceStore.append
  simp [hf, hc, ht, Descriptor.needsBlock, hr, hp]

/-- R146: no block is free. -/
theorem TraceStore.append_truncated (hf : ts.find id = some e) (hc : e.closed = false) (ht : e.truncated = false)
    (hr : e.samples.length % e.kind.perBlock = 0) (hp : Runs.pop (ts.free e.kind) = none) :
    ts.append id x t = ts.modify id fun d => { d with truncated := true } := by
  unfold TraceStore.append
  simp [hf, hc, ht, Descriptor.needsBlock, hr, hp]

/-- R146: a recording trace takes the sample, in a free block where it needs one, or is TRUNCATED. -/
theorem TraceStore.find_append (hf : ts.find id = some e) (hc : e.closed = false) (ht : e.truncated = false) :
    ∃ e', (ts.append id x t).find id = some e'
      ∧ (e.samples.length % e.kind.perBlock ≠ 0 ∨ 0 < Runs.count (ts.free e.kind) → e'.samples = e.samples ++ [x])
      ∧ (∀ b r, e.samples.length % e.kind.perBlock = 0 → Runs.pop (ts.free e.kind) = some (b, r) →
          e'.blocks = Runs.snoc e.blocks (b, 1) ∧ (ts.append id x t).free e.kind = r)
      ∧ (e.samples.length % e.kind.perBlock = 0 → Runs.count (ts.free e.kind) = 0 →
          e'.samples = e.samples ∧ e'.truncated = true) := by
  by_cases hr : e.samples.length % e.kind.perBlock = 0
  · cases hp : Runs.pop (ts.free e.kind) with
    | none =>
      have hz := (Runs.pop_eq_none_iff _).mp hp
      rw [append_truncated x t hf hc ht hr hp]
      exact ⟨_, find_modify_some hf (fun _ => rfl), fun h => absurd hz (h.resolve_left (fun n => n hr)).ne',
        fun b r _ h => (by cases h), fun _ _ => ⟨rfl, rfl⟩⟩
    | some p =>
      obtain ⟨b, r⟩ := p
      have hf' : (ts.setFree e.kind r).find id = some e := (find_setFree ts e.kind r id).trans hf
      rw [append_block x t hf hc ht hr hp]
      refine ⟨_, find_modify_some hf' (fun _ => rfl), fun _ => rfl, fun b' r' _ h => ?_, fun _ hz => ?_⟩
      · cases h
        exact ⟨rfl, free_setFree ts e.kind r⟩
      · rw [(Runs.pop_eq_none_iff _).mpr hz] at hp
        cases hp
  · rw [append_room x t hf hc ht hr]
    exact ⟨_, find_modify_some hf (fun _ => rfl), fun _ => rfl, fun b r h => absurd h hr, fun h => absurd h hr⟩

end

/-! ## The live frame (R60, R193) -/

theorem entryOnly_liveEntry (x : EntrySample) (s : State) : EntryOnly s (liveEntry x s) := by
  unfold liveEntry
  split
  · exact .refl s
  · split <;> exact entryOnly_onPort _ s

theorem liveEntry_rest (x : EntrySample) (s : State) :
    (liveEntry x s).entry = s.entry ∧ (liveEntry x s).traces = s.traces := by
  unfold liveEntry
  split
  · exact ⟨rfl, rfl⟩
  · split <;> exact ⟨rfl, rfl⟩

theorem liveEntry_off {x : EntrySample} {s : State} (h : s.port.entryDivider = 0) : liveEntry x s = s := if_pos h

theorem liveEntry_counts {x : EntrySample} {s : State} (h : s.port.entryLiveCount + 1 < s.port.entryDivider) :
    liveEntry x s = s.onPort fun p => { p with entryLiveCount := p.entryLiveCount + 1 } := by
  unfold liveEntry
  rw [if_neg (by omega), if_neg (by omega)]

theorem liveEntry_places {x : EntrySample} {s : State} (h0 : 0 < s.port.entryDivider)
    (h : s.port.entryDivider ≤ s.port.entryLiveCount + 1) : liveEntry x s = s.onPort fun p =>
      { p with entryLiveCount := 0, live := some (.entry (entryName s.entry) s.entry.vehicle x) } := by
  unfold liveEntry
  rw [if_neg h0.ne', if_pos h]

/-! ## The sample before the scale (R50, R58) -/

theorem entryOnly_recordEntrySample (x : EntrySample) (s : State) : EntryOnly s (recordEntrySample x s) := by
  unfold recordEntrySample
  split
  · exact entryOnly_appendSample _ _ _ s
  · exact .refl s

theorem recordEntrySample_rest (x : EntrySample) (s : State) :
    (recordEntrySample x s).entry = s.entry ∧ (recordEntrySample x s).port = s.port := by
  unfold recordEntrySample appendSample
  split
  · split <;> exact ⟨rfl, rfl⟩
  · exact ⟨rfl, rfl⟩

/-- R50: the plate tracker takes a sample. -/
theorem PlateTracker.take_idle {p : PlateTracker} {x : EntrySample} (h : p.crossing = false) : p.take x = p :=
  if_neg (by simp [h])

theorem PlateTracker.take_absent {p : PlateTracker} {x : EntrySample} (h : p.crossing = true) (hx : x.plate = none) :
    p.take x = { p with faultMark := true } := by
  unfold PlateTracker.take; rw [if_pos h, hx]

theorem PlateTracker.take_present {p : PlateTracker} {x : EntrySample} {v : Int} (h : p.crossing = true)
    (hx : x.plate = some v) : p.take x = { p with
      count := p.count + 1
      peak := if ∃ q, p.peak = some q ∧ v.natAbs ≤ q.natAbs then p.peak else some v } := by
  have hpeak : some (peakOf p.peak v) = if ∃ q, p.peak = some q ∧ v.natAbs ≤ q.natAbs then p.peak else some v := by
    cases p.peak with
    | none => simp [peakOf]
    | some q =>
      by_cases hq : q.natAbs < v.natAbs
      · simp [peakOf, hq]
      · simp [peakOf, hq, Nat.not_lt.mp hq]
  unfold PlateTracker.take
  rw [if_pos h, hx, ← hpeak]

@[simp] theorem PlateTracker.take_crossing (p : PlateTracker) (x : EntrySample) : (p.take x).crossing = p.crossing := by
  unfold PlateTracker.take
  split
  · split <;> rfl
  · rfl

/-- R60, R58, R50: the sample offered as a live frame, recorded, and taken by a crossing. -/
def sampled (x : EntrySample) (s : State) : State := onPlate (fun p => p.take x) (recordEntrySample x (liveEntry x s))

theorem entryOnly_sampled (x : EntrySample) (s : State) : EntryOnly s (sampled x s) :=
  ((entryOnly_liveEntry x s).trans (entryOnly_recordEntrySample x _)).trans
    (entryOnly_onEntry (fun e => { e with plate := e.plate.take x }) _)

theorem sampled_entry (x : EntrySample) (s : State) :
    (sampled x s).entry = { s.entry with plate := s.entry.plate.take x } := by
  unfold sampled onPlate
  rw [State.onEntry_entry, (recordEntrySample_rest x _).1, (liveEntry_rest x s).1]

theorem sampled_port (x : EntrySample) (s : State) : (sampled x s).port = (liveEntry x s).port :=
  (recordEntrySample_rest x (liveEntry x s)).2

/-- R58: the open trace of a bound station takes the sample. -/
theorem sampled_traces {x : EntrySample} {s : State} {id : Nat} (hv : s.entry.vehicle.isSome = true)
    (ho : s.entry.openTrace = some id) : (sampled x s).traces =
      s.traces.append id (.entry x.weightL x.weightR (x.plate.map (clampSym 32767))) x.time := by
  obtain ⟨h1, h2⟩ := liveEntry_rest x s
  show (recordEntrySample x (liveEntry x s)).traces = _
  unfold recordEntrySample
  rw [h1, if_pos hv, ho, ← h2]
  rfl

theorem sampled_traces_unbound {x : EntrySample} {s : State} (hv : s.entry.vehicle = none) :
    (sampled x s).traces = s.traces := by
  obtain ⟨h1, h2⟩ := liveEntry_rest x s
  show (recordEntrySample x (liveEntry x s)).traces = _
  unfold recordEntrySample
  rw [h1, hv]
  exact h2

/-! ## The window end -/

/-- The window ends that still wait. -/
def inboxLeft (rest : List Delivery) (s : State) : State := s.onSig fun g => { g with entryInbox := rest }

theorem calm_inboxLeft {s : State} (h : Calm s) (rest : List Delivery) : Calm (inboxLeft rest s) :=
  Calm.of_eq h rfl rfl rfl rfl rfl

/-- R48: the late mark is no longer armed. -/
def windowOver (s : State) : State := s.onEntry fun e => { e with firstWindow := false }

theorem entryOnly_windowOver (s : State) : EntryOnly s (windowOver s) := entryOnly_onEntry _ s

/-- R47: a window end of a station that is bound or BLOCKED. -/
def windowTaken (x : EntrySample) (s : State) : State := windowOver (scaleSample x (sampled x s))

/-- R47: the window end of a station that follows a vehicle. -/
theorem exec_entryWindow {s : State} {d : Delivery} {rest : List Delivery} (hi : s.sig.entryInbox = d :: rest)
    (hf : s.entry.vehicle.isSome = true ∨ s.entry.blocked = true) :
    exec .entryWindowEnd s = .next (settle (windowTaken (entrySample d s) (inboxLeft rest s))) := by
  have ht : takeEntryWindow s = windowTaken (entrySample d s) (inboxLeft rest s) := by
    unfold takeEntryWindow
    rw [hi]
    exact if_pos ((EntryStation.following_iff _).mpr hf)
  exact congrArg finish ht

/-- In IDLE a window end is only taken. -/
theorem exec_entryWindow_idle {s : State} {d : Delivery} {rest : List Delivery} (hc : Calm s)
    (hi : s.sig.entryInbox = d :: rest) (hv : s.entry.vehicle = none) (hb : s.entry.blocked = false) :
    exec .entryWindowEnd s = .next (inboxLeft rest s) := by
  have ht : takeEntryWindow s = inboxLeft rest s := by
    unfold takeEntryWindow
    rw [hi]
    exact if_neg (by simp [EntryStation.following, hv, hb])
  exact (congrArg finish ht).trans (finish_calm _ (calm_inboxLeft hc rest))

section
variable {x : EntrySample} {s : State}

theorem windowTaken_writes (hw : WritesRest s) : WritesRest (windowTaken x s) := by
  have h : (windowTaken x s).cal = (sampled x s).cal := (scaleOnly_scaleSample x (sampled x s)).cal
  unfold WritesRest
  rw [h, (entryOnly_sampled x s).cal]
  exact hw

theorem windowTaken_blocked : (windowTaken x s).entry.blocked = s.entry.blocked := by
  refine (scaleOnly_scaleSample x (sampled x s)).blocked.trans ?_
  rw [sampled_entry]

theorem windowTaken_plate : (windowTaken x s).entry.plate = s.entry.plate.take x := by
  refine (scaleOnly_scaleSample x (sampled x s)).plate.trans ?_
  rw [sampled_entry]

theorem windowTaken_counted : (sampled x s).traces.Counted (windowTaken x s).traces :=
  (scaleOnly_scaleSample x (sampled x s)).traces

theorem portKept_windowTaken : (liveEntry x s).port.Kept (windowTaken x s).port :=
  sampled_port x s ▸ (scaleOnly_scaleSample x (sampled x s)).port

/-- While no vehicle is bound, a window end leaves the records and the traces as they are. -/
theorem windowTaken_unbound (hv : s.entry.vehicle = none) :
    EntryOnly s (windowTaken x s) ∧ (windowTaken x s).traces = s.traces := by
  obtain ⟨hon, htr⟩ := scaleSample_unbound (x := x) (s := sampled x s) (by rw [sampled_entry]; exact hv)
  exact ⟨((entryOnly_sampled x s).trans hon).trans (entryOnly_windowOver _), htr.trans (sampled_traces_unbound hv)⟩

/-- What follows a window end leaves a bound or a BLOCKED station as it is. -/
theorem settle_windowTaken_entry (hc : Calm s) (h : s.entry.vehicle.isSome = true ↔ s.entry.blocked = false) :
    (settle (windowTaken x s)).entry = (windowTaken x s).entry := by
  cases hb : s.entry.blocked with
  | false => exact (settle_followed (windowTaken_writes hc.writesRest) (windowTaken_blocked.trans hb)).entry
  | true =>
    have hv : s.entry.vehicle = none := by
      rw [hb] at h
      simpa using h
    exact ((windowTaken_unbound hv).1.settles hc).entry

/-- The sample on the scale, where the scale makes no more of it than a change of the station. -/
theorem settle_window_entryOnly {t : State} (hc : Calm s) (h : scaleSample x (sampled x s) = t)
    (ht : EntryOnly (sampled x s) t) : (settle (windowTaken x s)).vt = s.vt
      ∧ (settle (windowTaken x s)).sig.entryInbox = s.sig.entryInbox
      ∧ (settle (windowTaken x s)).entry = { t.entry with firstWindow := false } := by
  have hon := ((entryOnly_sampled x s).trans ht).trans (entryOnly_windowOver t)
  have hr := hon.settles hc
  unfold windowTaken
  rw [h]
  refine ⟨hr.vt.trans hon.vt, ?_, hr.entry⟩
  rw [hr.inbox, hon.sig]

end

end Sys2Proof.Machine
end

section
/-! SUPPORT. The window end of the entry station, clause by clause (R47 to R60, R193). -/

namespace Sys2Proof.Machine

section
variable {x : EntrySample} {s : State}

/-- R52: the axle on the scale as the sample joins it. -/
theorem axleJoined_sampled : (axleJoined x (sampled x s)).entry = { s.entry with
    plate := s.entry.plate.take x, scale := s.entry.scale.join x s.entry.axleOn } := by
  rw [axleJoined_entry, sampled_entry]

/-- R60, R193: the live frame is the one the window end offered. -/
theorem settle_windowTaken_live (hc : Calm s) :
    (settle (windowTaken x s)).port.live = (liveEntry x s).port.live
      ∧ (settle (windowTaken x s)).port.entryLiveCount = (liveEntry x s).port.entryLiveCount := by
  have h := (portKept_windowTaken (x := x) (s := s)).trans (portKept_settle (windowTaken_writes hc.writesRest))
  exact ⟨h.live, h.count⟩

/-- R58: the open trace of a bound station, once everything has followed. -/
theorem settle_windowTaken_trace {id : Nat} {e : Descriptor} (hc : Calm s) (hb : s.entry.blocked = false)
    (hf : (sampled x s).traces.find id = some e) :
    ∃ n, (settle (windowTaken x s)).traces.find id = some { e with excess := n }
      ∧ ∀ k, (settle (windowTaken x s)).traces.free k = (sampled x s).traces.free k := by
  have hset := (settle_followed (windowTaken_writes (x := x) hc.writesRest) (windowTaken_blocked.trans hb)).traces
  obtain ⟨hfind, hfree⟩ := windowTaken_counted (x := x) (s := s)
  obtain ⟨n, hn⟩ := hfind id e hf
  rw [hset]
  exact ⟨n, hn, hfree⟩

/-- R52: an axle comes on. -/
theorem settle_windowTaken_heavy (hc : Calm s) (hp : s.entry.scale.phase = .empty) (hw : s.entry.axleOn ≤ x.axleWeight) :
    (settle (windowTaken x s)).vt = s.vt ∧ (settle (windowTaken x s)).sig.entryInbox = s.sig.entryInbox
      ∧ (settle (windowTaken x s)).entry = { s.entry with
      plate := s.entry.plate.take x, scale := ScaleTracker.started x s.entry.firstWindow, firstWindow := false
      quiet := if s.entry.vehicle.isSome then none else s.entry.quiet } := by
  have hs := scaleSample_heavy (s := sampled x s) (x := x) (by rw [sampled_entry]; exact hp)
    (by rw [sampled_entry]; exact hw)
  obtain ⟨hvt, hin, hent⟩ := settle_window_entryOnly hc hs (entryOnly_comeOnScale x _)
  refine ⟨hvt, hin, ?_⟩
  rw [hent, comeOnScale_entry, sampled_entry]

/-- R52: the scale stays empty. -/
theorem settle_windowTaken_light (hc : Calm s) (hp : s.entry.scale.phase = .empty) (hw : x.axleWeight < s.entry.axleOn) :
    (settle (windowTaken x s)).vt = s.vt ∧ (settle (windowTaken x s)).sig.entryInbox = s.sig.entryInbox
      ∧ (settle (windowTaken x s)).entry.scale = s.entry.scale := by
  have hs := scaleSample_light (s := sampled x s) (x := x) (by rw [sampled_entry]; exact hp)
    (by rw [sampled_entry]; exact hw)
  obtain ⟨hvt, hin, hent⟩ := settle_window_entryOnly hc hs (.refl _)
  refine ⟨hvt, hin, ?_⟩
  rw [hent, sampled_entry]

/-- R52: the sample joins an axle that stays on the scale and does not settle. -/
theorem settle_windowTaken_joins (hc : Calm s) (hp : s.entry.scale.phase ≠ .empty)
    (hl : (s.entry.scale.join x s.entry.axleOn).low ≠ 5) (hs : s.entry.scale.phase = .taken
      ∨ (s.entry.scale.join x s.entry.axleOn).settled s.entry.settleBand = false) :
    (settle (windowTaken x s)).vt = s.vt ∧ (settle (windowTaken x s)).entry = { s.entry with
      plate := s.entry.plate.take x, scale := s.entry.scale.join x s.entry.axleOn, firstWindow := false } := by
  have hj := scaleSample_joins (s := sampled x s) (x := x) (by rw [sampled_entry]; exact hp)
    (by rw [axleJoined_sampled]; exact hl) (by rw [axleJoined_sampled, sampled_entry]; exact hs)
  obtain ⟨hvt, -, hent⟩ := settle_window_entryOnly hc hj (entryOnly_axleJoined x _)
  refine ⟨hvt, ?_⟩
  rw [hent, axleJoined_sampled]

/-- R54: an axle whose weight is taken leaves. -/
theorem settle_windowTaken_leaves (hc : Calm s) (hp : s.entry.scale.phase = .taken)
    (hl : (s.entry.scale.join x s.entry.axleOn).low = 5) : (settle (windowTaken x s)).vt = s.vt
      ∧ (settle (windowTaken x s)).entry.scale = ScaleTracker.empty
      ∧ (settle (windowTaken x s)).entry.quiet = if s.entry.vehicle.isSome = true ∧ s.entry.cleared = true
          ∧ s.entry.plate.crossing = false then some (later s.now 3000) else s.entry.quiet := by
  have hjp : (axleJoined x (sampled x s)).entry.scale.phase = .taken := by
    rw [axleJoined_sampled]; exact (ScaleTracker.join_marks _ _ _).1.trans hp
  have hs := (scaleSample_leaves (s := sampled x s) (x := x) (by rw [sampled_entry, hp]; decide)
    (by rw [axleJoined_sampled]; exact hl)).trans (leaveScale_taken hjp)
  obtain ⟨hvt, -, hent⟩ := settle_window_entryOnly hc hs
    ((entryOnly_axleJoined x _).trans (entryOnly_scaleEmptied _))
  have hnow : (axleJoined x (sampled x s)).now = s.now := congrArg TimeBase.now (entryOnly_sampled x s).time
  refine ⟨hvt, ?_, ?_⟩
  · rw [hent, scaleEmptied_entry]
  · rw [hent, scaleEmptied_entry, axleJoined_sampled, hnow]
    simp

end

/-! ## The weight of a WEIGHING axle (R53, R54) -/

/-- R52, R55: the entry of the axle that a sample has joined; the sample leaves the side_slip it is due as it was. -/
theorem weighedAxle_axleJoined (x : EntrySample) (s : State) (u : Bool) (wl wr : Option Nat) :
    (axleJoined x (sampled x s)).entry.weighedAxle u wl wr =
      measuredAxle wl wr u (s.entry.scale.join x s.entry.axleOn).overrange s.entry.dueSlip := by
  obtain ⟨-, -, hlate, -⟩ := ScaleTracker.join_marks s.entry.scale x s.entry.axleOn
  unfold EntryStation.weighedAxle EntryStation.dueSlip
  rw [axleJoined_sampled, hlate]

theorem expiryMean_counted {sum cnt : Nat} (h : cnt ≠ 0) : expiryMean true sum cnt = some (roundDiv sum cnt) := by
  simp [expiryMean, h]

/-- R53, R54: the weights taken: those of all counted samples for an axle that leaves, else those of the last 20. -/
def ScaleTracker.weights (c : ScaleTracker) : Option Nat × Option Nat :=
  if c.low = 5 then (expiryMean c.usableL c.sumL c.cntL, expiryMean c.usableR c.sumR c.cntR)
  else (settledMean c.usableL (c.last20.map WeightSample.left), settledMean c.usableR (c.last20.map WeightSample.right))

theorem ScaleTracker.weights_leaving {c : ScaleTracker} (h : c.low = 5) :
    c.weights = (expiryMean c.usableL c.sumL c.cntL, expiryMean c.usableR c.sumR c.cntR) := if_pos h

theorem ScaleTracker.weights_settled {c : ScaleTracker} (h : c.low ≠ 5) : c.weights =
    (settledMean c.usableL (c.last20.map WeightSample.left), settledMean c.usableR (c.last20.map WeightSample.right)) :=
  if_neg h

/-- R52: a side with a sample absent has no weight. -/
theorem ScaleTracker.weights_unusable (c : ScaleTracker) :
    (c.usableL = false → c.weights.1 = none) ∧ (c.usableR = false → c.weights.2 = none) := by
  unfold ScaleTracker.weights
  split <;> exact ⟨fun h => by rw [h]; rfl, fun h => by rw [h]; rfl⟩

/-- R53, R54: a WEIGHING axle that leaves or has settled is weighed, and how the station stands then. -/
theorem windowTaken_weighs {x : EntrySample} {s : State} {c : ScaleTracker} (hcj : c = s.entry.scale.join x s.entry.axleOn)
    (hp : s.entry.scale.phase = .weighing) (h : c.low = 5 ∨ c.settled s.entry.settleBand = true) :
    EntryOnly (takeWeight (decide (c.low = 5)) c.weights.1 c.weights.2 (axleJoined x (sampled x s))) (windowTaken x s)
      ∧ (windowTaken x s).entry.scale.phase = (if c.low = 5 then .empty else .taken)
      ∧ (windowTaken x s).entry.scale.settle = none
      ∧ (windowTaken x s).entry.crossings
        = (if s.entry.scale.late = true then s.entry.crossings else s.entry.crossings.drop 1)
      ∧ (windowTaken x s).entry.passed
        = (if s.entry.vehicle.isSome = true then s.entry.passed else min 255 (s.entry.passed + 1)) := by
  obtain ⟨hphase, -, hlate, -⟩ := ScaleTracker.join_marks s.entry.scale x s.entry.axleOn
  have hje := axleJoined_sampled (x := x) (s := s)
  rw [← hcj] at hphase hlate hje
  have hjp : (axleJoined x (sampled x s)).entry.scale.phase = .weighing := by rw [hje]; exact hphase.trans hp
  obtain ⟨n, hn⟩ := takeWeight_entry (u := decide (c.low = 5)) (wl := c.weights.1) (wr := c.weights.2)
    (s := axleJoined x (sampled x s))
  simp only [hje, EntryStation.weighed, hlate] at hn
  by_cases hl : c.low = 5
  · have hs : scaleSample x (sampled x s) = scaleEmptied (takeWeight true c.weights.1 c.weights.2
        (axleJoined x (sampled x s))) := by
      refine ((scaleSample_leaves (by rw [sampled_entry, hp]; decide) (by rw [hje]; exact hl)).trans
        (leaveScale_weighing hjp)).trans ?_
      unfold takeUnsettled
      rw [hje, ScaleTracker.weights_leaving hl]
    rw [decide_eq_true hl] at hn ⊢
    unfold windowTaken
    rw [hs]
    refine ⟨(entryOnly_scaleEmptied _).trans (entryOnly_windowOver _), ?_⟩
    unfold windowOver
    rw [State.onEntry_entry, scaleEmptied_entry, hn, if_pos hl]
    exact ⟨rfl, rfl, rfl, rfl⟩
  · have hs : scaleSample x (sampled x s) = takeWeight false c.weights.1 c.weights.2 (axleJoined x (sampled x s)) := by
      refine (scaleSample_settles (by rw [sampled_entry]; exact hp) (by rw [hje]; exact hl)
        (by rw [hje, sampled_entry]; exact h.resolve_left hl)).trans ?_
      unfold takeSettled
      rw [hje, ScaleTracker.weights_settled hl]
    rw [decide_eq_false hl] at hn ⊢
    unfold windowTaken
    rw [hs]
    refine ⟨entryOnly_windowOver _, ?_⟩
    unfold windowOver
    rw [State.onEntry_entry, hn, if_neg hl]
    exact ⟨rfl, rfl, rfl, rfl⟩

/-- Settles O33: each clause is a case of the sample's way through the live frame, the trace, the crossing and the
scale. -/
theorem entryWindowEndPutsAnAxleOnTheScale : Obligations.EntryWindowEndPutsAnAxleOnTheScale := by
  intro s d rest x c hc hi hx hcj
  have hex : s.entry.vehicle.isSome = true ∨ s.entry.blocked = true →
      exec .entryWindowEnd s = .next (settle (windowTaken x (inboxLeft rest s))) := fun h => by
    rw [hx]; exact exec_entryWindow hi h
  have hcs := calm_inboxLeft hc rest
  have either : (s.entry.vehicle.isSome = true ↔ s.entry.blocked = false) →
      s.entry.vehicle.isSome = true ∨ s.entry.blocked = true := fun h => by
    cases hb : s.entry.blocked with
    | false => exact .inl (h.mpr hb)
    | true => exact .inr rfl
  have settled : (c.last20.length = 20 ∧ ∀ p ∈ c.last20, ∀ q ∈ c.last20, p.axle ≤ q.axle + s.entry.settleBand) →
      c.settled s.entry.settleBand = true := (c.settled_iff _).mpr
  refine ⟨exec_entryWindow_idle hc hi, fun h => ?_, fun h hp hw => ?_, fun h hp hw => ?_, fun h => ?_,
    fun v id e hv hb ho hf hcl htr => ?_, ?_, fun h hp hl hs => ?_, fun v hv hb hp hl => ?_,
    fun v hv hb hp hk hs => ?_, fun hv hb hp hs => ?_⟩
  · obtain ⟨h1, h2⟩ := settle_windowTaken_live (x := x) hcs
    refine ⟨_, hex h, fun h0 => ?_, fun hlt => ?_, fun h0 hge => ?_⟩
    · rw [h1, h2, liveEntry_off (s := inboxLeft rest s) h0]; exact ⟨rfl, rfl⟩
    · rw [h1, h2, liveEntry_counts (s := inboxLeft rest s) hlt]; exact ⟨rfl, rfl⟩
    · rw [h1, h2, liveEntry_places (s := inboxLeft rest s) h0 hge]; exact ⟨rfl, rfl⟩
  · obtain ⟨hvt, hin, hent⟩ := settle_windowTaken_heavy (s := inboxLeft rest s) hcs hp hw
    have htime : x.time = d.stamp := by rw [hx]; rfl
    refine ⟨_, hex h, hin, hvt, by rw [hent]; rfl, ?_, by rw [hent]; rfl, ?_, by rw [hent]; rfl,
      by rw [hent], fun hv => ?_⟩
    · rw [hent]; exact htime
    · rw [hent, ← htime]; rfl
    · rw [hent]; exact if_pos hv
  · obtain ⟨hvt, hin, hent⟩ := settle_windowTaken_light (s := inboxLeft rest s) hcs hp hw
    exact ⟨_, hex h, hin, hvt, hent⟩
  · have hent := settle_windowTaken_entry (x := x) (s := inboxLeft rest s) hcs h
    have hplate : (settle (windowTaken x (inboxLeft rest s))).entry.plate = s.entry.plate.take x := by
      rw [hent]; exact windowTaken_plate
    refine ⟨_, hex (either h), by rw [hent]; rfl, fun hp => ?_, fun hp hx => ?_, fun v hp hx => ?_⟩
    · rw [hplate]; exact PlateTracker.take_idle hp
    · rw [hplate]; exact PlateTracker.take_absent hp hx
    · rw [hplate]; exact PlateTracker.take_present hp hx
  · have happ := sampled_traces (x := x) (s := inboxLeft rest s) (by show s.entry.vehicle.isSome = true; rw [hv]; rfl) ho
    obtain ⟨e', he', hroom, hblock, hfull⟩ := TraceStore.find_append
      (.entry x.weightL x.weightR (x.plate.map (clampSym 32767))) x.time hf hcl htr
    obtain ⟨n, hn, hfree⟩ := settle_windowTaken_trace (x := x) (s := inboxLeft rest s) hcs hb
      ((congrArg (TraceStore.find · id) happ).trans he')
    refine ⟨_, _, hex (.inl (by rw [hv]; rfl)), hn, hroom, fun b r hz hp => ?_, hfull⟩
    obtain ⟨h1, h2⟩ := hblock b r hz hp
    exact ⟨h1, (hfree _).trans ((congrArg (TraceStore.free · e.kind) happ).trans h2)⟩
  · obtain ⟨h1, h2, h3, h4, h5, h6, h7, h8⟩ := ScaleTracker.join_marks s.entry.scale x s.entry.axleOn
    rw [hcj]
    refine ⟨h1, h2, h3, h4, h5, h6, h7, h8, fun hlow => ?_, fun hcnt => ?_⟩
    · rw [ScaleTracker.join_low hlow, ← countOf_eq, ← countOf_eq]
      exact ⟨rfl, rfl, rfl, rfl, rfl, rfl, rfl, rfl, rfl⟩
    · rw [ScaleTracker.join_counted hcnt, ← countOf_eq, ← countOf_eq]
      exact ⟨rfl, rfl, rfl, rfl, rfl, rfl, rfl, rfl, rfl⟩
  · subst hcj
    have hno : s.entry.scale.phase = .taken
        ∨ (s.entry.scale.join x s.entry.axleOn).settled s.entry.settleBand = false := by
      rcases hs with hs | hs | ⟨p, hpm, q, hqm, hpq⟩
      · exact .inl hs
      · exact .inr (Bool.eq_false_iff.mpr fun ht => hs ((ScaleTracker.settled_iff _ _).mp ht).1)
      · exact .inr (Bool.eq_false_iff.mpr fun ht =>
          Nat.not_le.mpr hpq (((ScaleTracker.settled_iff _ _).mp ht).2 p hpm q hqm))
    obtain ⟨hvt, hent⟩ := settle_windowTaken_joins (s := inboxLeft rest s) hcs hp hl hno
    exact ⟨_, hex (either h), by rw [hent]; rfl, by rw [hent]; rfl, by rw [hent]; rfl, hvt⟩
  · subst hcj
    obtain ⟨hvt, hsc, hq⟩ := settle_windowTaken_leaves (s := inboxLeft rest s) hcs hp hl
    refine ⟨_, hex (.inl (by rw [hv]; rfl)), hsc, hvt, hq.trans ?_⟩
    show (if s.entry.vehicle.isSome = true ∧ _ then _ else _) = _
    simp only [hv, Option.isSome_some, true_and]
    rfl
  · obtain ⟨hon, hphase, hset, hcr, -⟩ := windowTaken_weighs (s := inboxLeft rest s) hcj hp (hs.imp_right settled)
    obtain ⟨hent, -, -, hfull, happ⟩ := settle_weighed hcs ((entryOnly_sampled x _).trans (entryOnly_axleJoined x _))
      (by rw [axleJoined_sampled]; exact hv) hk hon (windowTaken_blocked.trans hb)
    rw [weighedAxle_axleJoined] at happ
    refine ⟨_, hex (.inl (by rw [hv]; rfl)), by rw [hent]; exact hphase, by rw [hent]; exact hset, by rw [hent]; exact hcr,
      fun hl => ?_, fun hl => ?_⟩
    · obtain ⟨hr, -⟩ := hfull hl
      exact ⟨by rw [hr]; rfl, by rw [hr]⟩
    · obtain ⟨hunL, hunR⟩ := c.weights_unusable
      refine ⟨_, by rw [happ hl]; rfl, by rw [hcj]; rfl, rfl, hunL, hunR, fun h5 => ?_, fun h5 => ?_⟩
      · have hw := ScaleTracker.weights_leaving h5
        refine ⟨decide_eq_true h5, fun hu hn => ?_, fun hu hn => ?_⟩
        · exact (congrArg Prod.fst hw).trans (by rw [hu]; exact expiryMean_counted hn)
        · exact (congrArg Prod.snd hw).trans (by rw [hu]; exact expiryMean_counted hn)
      · have hw := ScaleTracker.weights_settled h5
        have h20 := (hs.resolve_left h5).1
        refine ⟨decide_eq_false h5, fun ws hu hws => ?_, fun ws hu hws => ?_⟩
        · exact (congrArg Prod.fst hw).trans (by rw [hu]; exact settledMean_present hws h20)
        · exact (congrArg Prod.snd hw).trans (by rw [hu]; exact settledMean_present hws h20)
  · obtain ⟨-, hphase, hset, hcr, hpassed⟩ := windowTaken_weighs (s := inboxLeft rest s) hcj hp (hs.imp_right settled)
    obtain ⟨hon, htr⟩ := windowTaken_unbound (x := x) (s := inboxLeft rest s) hv
    have hr := hon.settles hcs
    refine ⟨_, hex (.inr hb), hr.vt.trans hon.vt, hr.traces.trans htr, by rw [hr.entry]; exact hphase,
      by rw [hr.entry]; exact hset, by rw [hr.entry]; exact hcr, ?_⟩
    rw [hr.entry, hpassed]
    exact if_neg (by show ¬ s.entry.vehicle.isSome = true; rw [hv]; decide)

end Sys2Proof.Machine
end

section
/-! SUPPORT. What R70 reads of the state (the brake station's state and the RUN outputs), and what a window end leaves of the
brake station's samples (R64, R193): the operations that leave both as they are, in the order of the machine's files. -/

namespace Sys2Proof.Machine

/-! ## The two views -/

/-- What `RunLaw` reads of the state. -/
structure Rollers where
  state : BrakeState
  runL : Bool
  runR : Bool

def State.rollers (s : State) : Rollers :=
  { state := s.brake.state, runL := s.sig.outputs.runL, runR := s.sig.outputs.runR }

/-- What a window end leaves: the count history, the last sample, the window ends that still wait, the brake station's live
count and the live frame. -/
structure SampleView where
  history : List PulseTotals
  lastSample : Option BrakeSample
  inbox : List Delivery
  count : Nat
  live : Option LiveFrame

def State.samples (s : State) : SampleView :=
  { history := s.brake.history, lastSample := s.brake.lastSample, inbox := s.sig.brakeInbox
    count := s.port.brakeLiveCount, live := s.port.live }

/-- The two views together. -/
def SameViews (s t : State) : Prop := t.rollers = s.rollers ∧ t.samples = s.samples

theorem SameViews.refl (s : State) : SameViews s s := ⟨rfl, rfl⟩

theorem SameViews.trans {s t u : State} (h : SameViews s t) (k : SameViews t u) : SameViews s u :=
  ⟨k.1.trans h.1, k.2.trans h.2⟩

theorem SameViews.of_eq {s t u : State} (h : t = u) (k : SameViews s u) : SameViews s t := h ▸ k

/-! ## Notices, work owed, records, traces -/

theorem sameViews_postReply (k t : Nat) (st : Status) (b : ReplyBody) (s : State) :
    SameViews s (postReply k t st b s) := ⟨rfl, rfl⟩
theorem sameViews_onWork (f : Work → Work) (s : State) : SameViews s (s.onWork f) := ⟨rfl, rfl⟩
theorem sameViews_onVt (f : VehicleTable → VehicleTable) (s : State) : SameViews s (s.onVt f) := ⟨rfl, rfl⟩
theorem sameViews_onEntry (f : EntryStation → EntryStation) (s : State) : SameViews s (s.onEntry f) := ⟨rfl, rfl⟩
theorem sameViews_onTraces (f : TraceStore → TraceStore) (s : State) : SameViews s (s.onTraces f) := ⟨rfl, rfl⟩
theorem sameViews_writeRec (k : Nat) (f : Record → Record) (s : State) : SameViews s (writeRec k f s) := ⟨rfl, rfl⟩

/-- Steps of a fold that each leave the views leave them. -/
theorem sameViews_foldl {α : Type} {f : State → α → State} (h : ∀ s a, SameViews s (f s a)) (l : List α) (s : State) :
    SameViews s (l.foldl f s) := by
  induction l generalizing s with
  | nil => exact .refl s
  | cons a l ih => exact (h s a).trans (ih _)

theorem sameViews_openTrace (k : TraceKind) (n : Nat) (a : Option Nat) (s : State) :
    SameViews s (openTrace k n a s).2 := by
  unfold openTrace; split <;> exact ⟨rfl, rfl⟩

theorem sameViews_addExcess (tr : Option Nat) (s : State) : SameViews s (addExcess tr s) := by
  unfold addExcess; split <;> exact ⟨rfl, rfl⟩

theorem sameViews_joinDrain (id : Nat) (s : State) : SameViews s (joinDrain id s) := by
  unfold joinDrain; dsimp only; split <;> exact ⟨rfl, rfl⟩

theorem sameViews_closeTrace (id : Nat) (a : Bool) (s : State) : SameViews s (closeTrace id a s).2 := by
  unfold closeTrace
  split
  · exact .refl s
  · dsimp only
    split
    · exact ((sameViews_onTraces _ s).trans (sameViews_joinDrain _ _)).trans (sameViews_onTraces _ _)
    · exact ⟨rfl, rfl⟩

theorem sameViews_abortTrace (tr : Option Nat) (s : State) : SameViews s (abortTrace tr s) := by
  unfold abortTrace
  split
  · exact .refl s
  · exact sameViews_closeTrace _ _ s

/-! ## The Vehicle Table -/

theorem sameViews_removeRecord (k : Nat) (c : Option RemovalCause) (s : State) : SameViews s (removeRecord k c s) := by
  unfold removeRecord; dsimp only; split <;> split <;> exact ⟨rfl, rfl⟩

theorem sameViews_bindRecord (k : Nat) (s : State) : SameViews s (bindRecord k s) := by
  unfold bindRecord; dsimp only; split <;> exact ⟨rfl, rfl⟩

theorem sameViews_learnRecord (s : State) : SameViews s (learnRecord s).2 := by
  unfold learnRecord
  split
  · exact .refl s
  · exact (sameViews_bindRecord _ (modRec _ _ s) :)

theorem sameViews_askRecord (s : State) : SameViews s (askRecord s).state := by
  unfold askRecord
  split
  · exact .refl s
  · split
    · exact sameViews_bindRecord _ s
    · split
      · exact sameViews_learnRecord s
      · split
        · exact (sameViews_removeRecord _ _ s).trans (sameViews_learnRecord _)
        · exact .refl s

theorem sameViews_completeHead (c : LeaveCause) (s : State) : SameViews s (completeHead c s) := by
  unfold completeHead; split <;> exact ⟨rfl, rfl⟩

theorem sameViews_evaluateLeaving (s : State) : SameViews s (evaluateLeaving s) := by
  unfold evaluateLeaving
  split
  · exact sameViews_completeHead _ s
  · exact .refl s

theorem sameViews_appendAxle (k : Nat) (f : Axle → Axle) (s : State) : SameViews s (appendAxle k f s).2 := by
  unfold appendAxle; split <;> exact ⟨rfl, rfl⟩

theorem sameViews_releaseHead (s : State) : SameViews s (releaseHead s) := by
  unfold releaseHead
  split
  · exact .refl s
  · exact (sameViews_completeHead _ (writeRec _ _ s) :)

theorem sameViews_setAgeLimit (n : Nat) (s : State) : SameViews s (setAgeLimit n s) := by
  unfold setAgeLimit
  dsimp only
  split
  · exact ⟨rfl, rfl⟩
  · split
    · exact ⟨rfl, rfl⟩
    · refine (sameViews_onVt _ s).trans (sameViews_foldl (fun u k => ?_) _ _)
      split
      · exact sameViews_removeRecord k _ u
      · exact .refl u

theorem sameViews_disarm (s : State) : SameViews s (disarm s) := by
  unfold disarm; split <;> exact ⟨rfl, rfl⟩

/-! ## The entry station -/

theorem sameViews_bindStation (k : Nat) (s : State) : SameViews s (bindStation k s) :=
  (sameViews_openTrace .entry k none s).trans ⟨rfl, rfl⟩

theorem sameViews_noticeMeasured (k n : Nat) (s : State) : SameViews s (noticeMeasured k n s) := by
  unfold noticeMeasured; dsimp only; split <;> exact ⟨rfl, rfl⟩

theorem sameViews_refuseAxle (k : Nat) (s : State) : SameViews s (refuseAxle k s) :=
  (sameViews_writeRec k _ s).trans (sameViews_addExcess _ _)

theorem sameViews_appendMeasured (k : Nat) (f : Axle → Axle) (s : State) : SameViews s (appendMeasured k f s).2 := by
  have ha := sameViews_appendAxle k f s
  unfold appendMeasured
  dsimp only
  split
  · exact ((ha.trans (sameViews_noticeMeasured _ _ _)).trans (sameViews_evaluateLeaving _)).trans
      (sameViews_onWork _ _)
  · exact ha.trans (sameViews_refuseAxle k _)

theorem sameViews_appendPassed (k n : Nat) (s : State) : SameViews s (appendPassed k n s) := by
  induction n generalizing s with
  | zero => exact .refl s
  | succ n ih => exact (sameViews_appendMeasured k id s).trans (ih _)

theorem sameViews_retryBinding (s : State) : SameViews s (retryBinding s) := by
  unfold retryBinding
  split
  · dsimp only
    split
    · exact .refl s
    · next k _ =>
      have h := ((sameViews_askRecord s).trans (sameViews_bindStation k _)).trans
        (sameViews_appendPassed k s.entry.passed _)
      split
      · exact h.trans (sameViews_onEntry _ _)
      · exact h
  · exact .refl s

/-! ## The calibration store and Guidance -/

theorem sameViews_guardCollection (s : State) : SameViews s (guardCollection s) := by
  obtain ⟨c, r, h⟩ := guardCollection_eq s
  exact .of_eq h ⟨rfl, rfl⟩

theorem sameViews_modGuide (st : Station) (f : StationGuide → StationGuide) (s : State) :
    SameViews s (modGuide st f s) := ⟨rfl, rfl⟩

/-- R138: the lamps are no RUN outputs. -/
theorem sameViews_setLamps (st : Station) (f : ShowFrame) (s : State) : SameViews s (setLamps st f s) := by
  cases st <;> exact ⟨rfl, rfl⟩

theorem sameViews_comeToRest (st : Station) (s : State) : SameViews s (comeToRest st s) :=
  ((sameViews_setLamps st _ s).trans (sameViews_modGuide st _ _)).trans (sameViews_modGuide st _ _)

theorem sameViews_enterNext (st : Station) (n : Option Nat) (s : State) : SameViews s (enterNext st n s) :=
  .of_eq (enterNext_eq st n s) ⟨rfl, rfl⟩

theorem sameViews_enter (st : Station) (n : Option Nat) (s : State) : SameViews s (enter st n s) := by
  have h := sameViews_enterNext st n s
  unfold enter
  dsimp only
  split
  · exact (h.trans (sameViews_enterNext st _ _)).trans (sameViews_comeToRest st _)
  · exact h.trans (sameViews_comeToRest st _)

theorem sameViews_runProgram (st : Station) (p : Nat) (s : State) : SameViews s (runProgram st p s) :=
  (sameViews_modGuide st _ s).trans (sameViews_enter st _ _)

theorem sameViews_raiseFlag (e : GEvent) (s : State) : SameViews s (raiseFlag e s) := by
  unfold raiseFlag
  dsimp only
  split
  · exact .refl s
  · split
    · exact .refl s
    · split
      · exact (sameViews_modGuide _ _ s).trans (sameViews_enter _ _ _)
      · exact sameViews_modGuide _ _ s

/-- R126: Guidance takes a result. -/
theorem sameViews_takeItem (s : State) (i : GuideItem) : SameViews s (takeItem s i) := by
  cases i with
  | vehicle st v => exact sameViews_runProgram _ _ s
  | event e =>
    show SameViews s (takeEvent e s)
    unfold takeEvent
    split
    · exact (sameViews_runProgram _ _ s).trans (sameViews_raiseFlag e _)
    · exact sameViews_raiseFlag e s
  | brakeSample =>
    show SameViews s (compareSample s)
    unfold compareSample
    split
    · exact .refl s
    · split
      · exact sameViews_enter _ _ s
      · exact .refl s

theorem sameViews_settleGuidance (s : State) : SameViews s (settleGuidance s) :=
  (sameViews_onWork (fun _ => Work.none) s).trans (sameViews_foldl sameViews_takeItem _ _)

end Sys2Proof.Machine
end

section
/-! SUPPORT. The RUN law (R70) under the operations of the brake station and of what follows an event. -/

namespace Sys2Proof.Machine

/-! ## RunLaw along operations -/

/-- What holds of the rollers as R70 asks holds still. -/
def RunKept (s t : State) : Prop := RunLaw s → RunLaw t

theorem RunKept.refl (s : State) : RunKept s s := id

theorem RunKept.trans {s t u : State} (h : RunKept s t) (k : RunKept t u) : RunKept s u := k ∘ h

theorem RunKept.of_rollers {s t : State} (h : t.rollers = s.rollers) : RunKept s t := by
  have key : ∀ u : State, RunLaw u ↔ (u.rollers.runL = true ∨ u.rollers.runR = true →
      u.rollers.state = .spinUp ∨ u.rollers.state = .drag ∨ u.rollers.state = .braking) := fun _ => Iff.rfl
  intro hs
  rw [key, h]
  exact hs

theorem SameViews.runKept {s t : State} (h : SameViews s t) : RunKept s t := .of_rollers h.1

theorem runKept_foldl {α : Type} {f : State → α → State} (h : ∀ s a, RunKept s (f s a)) (l : List α) (s : State) :
    RunKept s (l.foldl f s) := by
  induction l generalizing s with
  | nil => exact .refl s
  | cons a l ih => exact (h s a).trans (ih _)

/-- Both RUN outputs are OFF. -/
def RunsOff (s : State) : Prop := s.sig.outputs.runL = false ∧ s.sig.outputs.runR = false

theorem RunsOff.runLaw {s : State} (h : RunsOff s) : RunLaw s := by
  intro hr
  rw [h.1, h.2] at hr
  rcases hr with hr | hr <;> cases hr

/-- R70: outside SPIN_UP, DRAG and BRAKING both RUN outputs are OFF. -/
theorem RunLaw.runsOff {s : State} (h : RunLaw s)
    (hs : ¬ (s.brake.state = .spinUp ∨ s.brake.state = .drag ∨ s.brake.state = .braking)) : RunsOff s := by
  have hn := mt h hs
  simpa [RunsOff, not_or] using hn

theorem RunsOff.of_outputs {s t : State} (h : RunsOff s) (e : t.sig.outputs = s.sig.outputs) : RunsOff t := by
  unfold RunsOff; rw [e]; exact h

theorem RunsOff.of_views {s t : State} (h : RunsOff s) (v : SameViews s t) : RunsOff t :=
  ⟨(congrArg Rollers.runL v.1).trans h.1, (congrArg Rollers.runR v.1).trans h.2⟩

/-! ## Changes of state without the rollers -/

@[simp] theorem enterState_sig (st : BrakeState) (s : State) : (enterState st s).sig = s.sig := by
  rw [enterState_eq]

theorem setVehicle_sig (v : Option Nat) (s : State) : (setVehicle v s).sig = s.sig := by
  unfold setVehicle; split <;> rfl

theorem takeHead_sig (s : State) : (takeHead s).sig = s.sig := by
  have h : ∀ v st f, (enterState st ((setVehicle v s).onBrake f)).sig = s.sig := fun v st f => by
    rw [enterState_sig, State.onBrake_sig, setVehicle_sig]
  unfold takeHead
  split
  · exact h _ _ _
  · unfold enterWaitWheels
    dsimp only
    split <;> exact h _ _ _

theorem enterWaitClear_sig (s : State) : (enterWaitClear s).sig = s.sig := enterState_sig _ _

theorem headChanged_sig (s : State) : (headChanged s).sig = s.sig := by
  unfold headChanged
  split
  · split
    · rfl
    · exact takeHead_sig s
  · dsimp only
    split
    · exact enterWaitClear_sig _
    · exact takeHead_sig _
  · dsimp only
    split
    · exact enterWaitClear_sig _
    · exact takeHead_sig _
  case h_11 => exact setVehicle_sig _ _
  all_goals rfl

/-- A station whose rollers stand may change its state. -/
theorem runKept_still {s t : State} (hs : ¬ (s.brake.state = .spinUp ∨ s.brake.state = .drag ∨ s.brake.state = .braking))
    (ht : RunsOff s → RunsOff t) : RunKept s t := fun h => (ht (h.runsOff hs)).runLaw

/-- R65: while the rollers may turn, a change of head concerns the station no further. -/
theorem runKept_headChanged (s : State) : RunKept s (headChanged s) := by
  by_cases hs : s.brake.state = .spinUp ∨ s.brake.state = .drag ∨ s.brake.state = .braking
  · have : headChanged s = s := by
      unfold headChanged
      rcases hs with h | h | h <;> rw [h]
    rw [this]
    exact .refl s
  · exact runKept_still hs fun h => h.of_outputs (by rw [headChanged_sig])

/-! ## Aborts, faults and matches -/

theorem runsOff_abortAttempt (r : AbortReason) (s : State) : RunsOff (abortAttempt r s) := by
  unfold RunsOff
  rw [(abortAttempt_brake r s).1]
  exact ⟨rfl, rfl⟩

theorem runKept_enterFault (c : BrakeCause) (s : State) : RunKept s (enterFault c s) := by
  by_cases h : s.brake.state = .fault
  · rw [enterFault_in_fault c s h]
    exact .refl s
  · obtain ⟨-, -, hl, hr, -⟩ := enterFault_brake c s h
    exact fun _ => RunsOff.runLaw ⟨hl, hr⟩

theorem runsOff_enterFault {s : State} (c : BrakeCause) (h : RunsOff s) : RunsOff (enterFault c s) := by
  by_cases hf : s.brake.state = .fault
  · rw [enterFault_in_fault c s hf]
    exact h
  · obtain ⟨-, -, hl, hr, -⟩ := enterFault_brake c s hf
    exact ⟨hl, hr⟩

theorem runsOff_takeAxle {s : State} (n : Nat) (ph : Phase) (h : RunsOff s) : RunsOff (takeAxle n ph s) := by
  unfold takeAxle enterZeroing
  split
  · exact runsOff_enterFault _ (s := s.onBrake _) h
  · exact h.of_outputs (by rw [enterState_sig]; rfl)

theorem runsOff_matchAxle {s : State} (v : Nat) (h : RunsOff s) : RunsOff (matchAxle v s) := by
  unfold matchAxle
  dsimp only
  split
  · exact runsOff_takeAxle _ _ h
  · split
    · have ha := h.of_views (sameViews_appendAxle v (fun a => { a with addedAtRollers := true }) s)
      split
      · exact runsOff_takeAxle _ _ (ha.of_views (sameViews_evaluateLeaving _))
      · exact ha.of_outputs (by rw [enterWaitClear_sig]; rfl)
    · exact h.of_outputs (by rw [enterState_sig]; rfl)

theorem runKept_rematchAxle (s : State) : RunKept s (rematchAxle s) := by
  unfold rematchAxle
  split
  · split
    · next hc =>
      simp only [Bool.and_eq_true, beq_iff_eq] at hc
      exact runKept_still (by rw [hc.1]; decide) (runsOff_matchAxle _)
    · exact .refl s
  · exact .refl s

theorem runKept_presenceExpired (s : State) : RunKept s (presenceExpired s) := by
  unfold presenceExpired
  split
  · exact .refl s
  · split
    · next hc =>
      simp only [Bool.and_eq_true, beq_iff_eq] at hc
      exact runKept_still (by rw [hc.1]; decide) fun h => runsOff_matchAxle _ (s := raiseEvent _ (s.onBrake _)) h
    · exact .refl s

/-! ## The phase from ZEROING to AXLE_DONE -/

/-- R70, R71: SPIN_UP may switch the rollers on. -/
theorem runKept_enterSpinUp (s t : State) : RunKept t (enterSpinUp s) := by
  intro _ _
  left
  unfold enterSpinUp
  rw [enterState_brake]

theorem runKept_enterWaitClear {s : State} (h : RunsOff s) (t : State) : RunKept t (enterWaitClear s) :=
  fun _ => (h.of_outputs (by rw [enterWaitClear_sig]) : RunsOff (enterWaitClear s)).runLaw

theorem runsOff_endBraking (c : EndCause) (e : Option GEvent) (s : State) : RunsOff (endBraking c e s) := by
  unfold endBraking RunsOff
  rw [enterState_sig]
  exact ⟨rfl, rfl⟩

theorem runKept_zeroingSample (d : Delivery) (s : State) : RunKept s (zeroingSample d s) := by
  unfold zeroingSample
  dsimp only
  split
  · exact runKept_enterSpinUp _ s
  · exact .of_rollers rfl

theorem runKept_spinUpSample (x : BrakeSample) (s : State) : RunKept s (spinUpSample x s) := by
  have h : ∀ n, RunKept s (if n ≥ 5 then enterDrag (raiseEvent .atSpeed (s.onBrake fun b => { b with speedCount := n }))
      else s.onBrake fun b => { b with speedCount := n }) := by
    intro n
    split
    · intro _ _
      right; left
      unfold enterDrag
      rw [enterState_brake]
    · exact .of_rollers rfl
  exact h _

theorem runKept_dragSample (x : BrakeSample) (s : State) : RunKept s (dragSample x s) := by
  unfold dragSample
  dsimp only
  split
  · intro _ _
    right; right
    unfold enterBraking
    rw [enterState_brake]
  · exact .of_rollers rfl

theorem runKept_brakingSample (x : BrakeSample) (s : State) : RunKept s (brakingSample x s) := by
  unfold brakingSample
  dsimp only
  split
  · exact fun _ => (runsOff_endBraking _ _ _).runLaw
  · split
    · exact fun _ => (runsOff_endBraking _ _ _).runLaw
    · exact .of_rollers rfl

theorem sameViews_writeAxle (v n : Nat) (f : Axle → Axle) (s : State) : SameViews s (writeAxle v n f s) := ⟨rfl, rfl⟩

theorem sameViews_closePhaseTrace (s : State) : SameViews s (closePhaseTrace s) := by
  unfold closePhaseTrace
  split
  · exact .refl s
  · exact (sameViews_closeTrace _ _ s).trans ⟨rfl, rfl⟩

theorem sameViews_noticeTested (r : Option AbortReason) (x : Option AxleResult) (s : State) :
    SameViews s (noticeTested r x s) := by
  unfold noticeTested; split <;> exact ⟨rfl, rfl⟩

/-- R76: the result written, the trace closed and told. -/
theorem sameViews_writeResult (v n : Nat) (s : State) : SameViews s (writeResult v n s) :=
  ((((sameViews_writeAxle v n _ s).trans (sameViews_evaluateLeaving _)).trans (sameViews_closePhaseTrace _)).trans
    (sameViews_noticeTested _ _ _)).trans ⟨rfl, rfl⟩

theorem sameViews_raiseVehicleDone (v : Nat) (b s : State) : SameViews s (raiseVehicleDone v b s) := by
  unfold raiseVehicleDone; split <;> exact ⟨rfl, rfl⟩

theorem runKept_axleDone {s : State} (h : RunsOff s) (t : State) : RunKept t (axleDone s) := by
  unfold axleDone
  split
  · exact runKept_enterWaitClear h t
  · next v n _ =>
    have h1 : RunsOff (writeResult v n (enterState .axleDone s)) :=
      (h.of_outputs (by rw [enterState_sig])).of_views (sameViews_writeResult v n _)
    dsimp only
    split
    · exact runKept_enterSpinUp _ t
    · exact (runKept_enterWaitClear h1 t).trans (sameViews_raiseVehicleDone v _ _).runKept

theorem runKept_stoppingSample {d : Delivery} {s : State} (hs : s.brake.state = .stopping) :
    RunKept s (stoppingSample d s) := by
  have h : ∀ n, RunKept s (if n ≥ 50 then axleDone ((s.onBrake fun b => { b with stopCount := n }).onBrake fun b =>
      { b with stop := none }) else s.onBrake fun b => { b with stopCount := n }) := by
    intro n
    split
    · exact fun hl => runKept_axleDone (s := (s.onBrake _).onBrake _) (hl.runsOff (by rw [hs]; decide)) s hl
    · exact .of_rollers rfl
  exact h _

theorem runKept_stopExpired (s : State) : RunKept s (stopExpired s) := by
  unfold stopExpired
  split
  · split
    · exact runKept_enterFault _ s
    · exact (sameViews_writeResult _ _ s).runKept.trans (runKept_enterFault _ _)
  · exact .refl s

theorem runKept_actOnSample (d : Delivery) (x : BrakeSample) (s : State) : RunKept s (actOnSample d x s) := by
  have orFault : ∀ f : State → State, RunKept s (f s) →
      RunKept s (if d.brakeFaulted then enterFault .sensorFault s else f s) := by
    intro f hf
    split
    · exact runKept_enterFault _ s
    · exact hf
  unfold actOnSample
  split
  · exact orFault _ (runKept_zeroingSample d s)
  · exact orFault _ (runKept_spinUpSample x s)
  · exact orFault _ (runKept_dragSample x s)
  · exact orFault _ (runKept_brakingSample x s)
  · next hs => exact runKept_stoppingSample hs
  all_goals exact .refl s

theorem liveBrake_rollers (x : BrakeSample) (s : State) : (liveBrake x s).rollers = s.rollers := by
  unfold liveBrake
  split
  · rfl
  · dsimp only; split <;> rfl

theorem sameViews_recordBrakeSample (x : BrakeSample) (s : State) : SameViews s (recordBrakeSample x s) := by
  unfold recordBrakeSample appendSample
  split
  · split <;> exact ⟨rfl, rfl⟩
  · exact .refl s

theorem runKept_brakeWindow (d : Delivery) (s : State) : RunKept s (brakeWindow d s) := by
  unfold brakeWindow
  extract_lets s1 x s2
  have h2 : RunKept s s2 := .of_rollers rfl
  have h3 := (h2.trans (.of_rollers (liveBrake_rollers x s2))).trans (sameViews_recordBrakeSample x _).runKept
  exact (h3.trans (runKept_actOnSample d x _)).trans (sameViews_onWork _ _).runKept

/-! ## Expiries, edges and requests -/

theorem runKept_spinUpExpired (s : State) : RunKept s (spinUpExpired s) := by
  unfold spinUpExpired
  split
  · exact runKept_enterFault _ s
  · exact .refl s

theorem runKept_brakingExpired (s : State) : RunKept s (brakingExpired s) := by
  unfold brakingExpired
  split
  · exact fun _ => (runsOff_endBraking _ _ _).runLaw
  · exact .refl s

theorem runKept_clearExpired (s : State) : RunKept s (clearExpired s) := by
  unfold clearExpired
  split
  · next hc =>
    simp only [Bool.and_eq_true, beq_iff_eq] at hc
    exact runKept_still (by rw [hc.1]; decide) fun h => h.of_outputs (by rw [takeHead_sig]; rfl)
  · exact .refl s

theorem runKept_wheelCame (w : Side) (t : LaneTime) (s : State) : RunKept s (wheelCame w t s) := by
  unfold wheelCame
  split
  · split <;> exact .of_rollers rfl
  all_goals exact .of_rollers rfl

theorem enterWaitWheels_sig (s : State) : (enterWaitWheels s).sig = s.sig := by
  unfold enterWaitWheels
  dsimp only
  split <;> exact (enterState_sig _ _).trans (setVehicle_sig _ _)

theorem runKept_wheelsLost (s : State) : RunKept s (wheelsLost s) :=
  runKept_enterWaitClear (s := raiseEvent .wheelsLost _) (runsOff_abortAttempt .wheelsLost s) s

theorem runKept_wheelWent (w : Side) (t : LaneTime) (s : State) : RunKept s (wheelWent w t s) := by
  unfold wheelWent
  split
  · exact .of_rollers rfl
  · next hs => exact runKept_still (by rw [hs]; decide) fun h => h.of_outputs (by rw [enterWaitWheels_sig])
  · split <;> exact .of_rollers rfl
  case h_9 | h_10 | h_11 => exact .refl s
  all_goals exact runKept_wheelsLost s

theorem runKept_driveCame (s : State) : RunKept s (driveCame s) := by
  unfold driveCame
  split
  · next hc =>
    simp only [Bool.and_eq_true, beq_iff_eq] at hc
    exact fun _ _ => .inl hc.1.1
  · exact .refl s

theorem runKept_driveWent (s : State) : RunKept s (driveWent s) := by
  unfold driveWent
  split
  · exact runKept_enterFault _ s
  · exact .refl s

theorem sameViews_markParking (s : State) : SameViews s (markParking s) := by
  unfold markParking
  split
  · exact .refl s
  · split <;> exact ⟨rfl, rfl⟩

theorem runKept_endAxle (s : State) : RunKept s (endAxle s) := by
  unfold endAxle
  split
  · exact fun _ => (runsOff_endBraking _ _ _).runLaw
  · exact .refl s

theorem sameViews_skipMarked (c : SkipCause) (v n : Nat) (s : State) :
    SameViews s (evaluateLeaving (markSkipped v n c s)) :=
  (sameViews_writeAxle v n _ s).trans (sameViews_evaluateLeaving _)

theorem runKept_skipAxle (c : SkipCause) (v n : Nat) (s : State) : RunKept s (skipAxle c v n s) := by
  unfold skipAxle
  dsimp only
  refine RunKept.trans ?_ (sameViews_raiseVehicleDone v _ _).runKept
  split
  · exact runKept_enterWaitClear ((runsOff_abortAttempt _ s).of_views (sameViews_skipMarked c v n _)) s
  · exact (sameViews_skipMarked c v n s).runKept

theorem runKept_guidanceSkip (s : State) : RunKept s (guidanceSkip s) := by
  unfold guidanceSkip
  split
  · exact .refl s
  · exact runKept_skipAxle _ _ _ s

theorem runKept_hostSkip (s : State) : RunKept s (hostSkip s).state := by
  unfold hostSkip
  split
  · exact .refl s
  · exact runKept_skipAxle _ _ _ s

theorem runKept_carryRelease (s : State) : RunKept s (carryRelease s) := by
  unfold carryRelease
  refine RunKept.trans ?_ (sameViews_releaseHead _).runKept
  split
  · exact runKept_enterWaitClear (runsOff_abortAttempt _ s) s
  · exact .refl s

theorem runKept_guidanceRelease (s : State) : RunKept s (guidanceRelease s) := by
  unfold guidanceRelease
  split
  · exact runKept_carryRelease s
  · exact .refl s

theorem runKept_hostRelease (s : State) : RunKept s (hostRelease s).state := by
  unfold hostRelease
  split
  · exact runKept_carryRelease s
  · exact .refl s

theorem runKept_ackFault (s : State) : RunKept s (ackFault s).state := by
  unfold ackFault
  split
  · exact .refl s
  · next hc =>
    simp only [Bool.or_eq_true, bne_iff_ne, not_or, ne_eq, not_not] at hc
    exact runKept_still (by rw [hc.1]; decide) fun h => h.of_outputs (by rw [accept_state, takeHead_sig]; rfl)

end Sys2Proof.Machine
end

section
/-! SUPPORT. The RUN law (R70) under every command: the blocks outside the brake station, in the order of the machine's
files, then the commands. -/

namespace Sys2Proof.Machine

/-! ## The entry station -/

theorem EntryOnly.runKept {s t : State} (h : EntryOnly s t) : RunKept s t := by
  obtain ⟨e, tr, p, l, rfl⟩ := h
  exact .of_rollers rfl

theorem runKept_startVehicle (s : State) : RunKept s (startVehicle s) := by
  have h : SameViews s (askRecord (startTrackers s)).state :=
    (sameViews_onEntry _ s).trans (sameViews_askRecord (startTrackers s))
  unfold startVehicle
  dsimp only
  split
  · exact (h.trans (sameViews_bindStation _ _)).runKept
  · exact h.runKept.trans (.of_rollers rfl)

theorem runKept_barrierActive (s : State) : RunKept s (barrierActive s) := by
  unfold barrierActive
  split
  · exact .refl s
  · split
    · exact RunKept.trans (.of_rollers rfl) (entryOnly_noticeDeparture _ (cancelQuiet (s.onEntry _))).runKept
    · exact runKept_startVehicle s

theorem runKept_barrierInactive (s : State) : RunKept s (barrierInactive s) := by
  unfold barrierInactive
  split
  · exact .of_rollers rfl
  · split
    · exact RunKept.trans (.of_rollers rfl) (entryOnly_checkFinishing (s.onEntry _)).runKept
    · exact .refl s

theorem runKept_takeWeight (u : Bool) (l r : Option Nat) (s : State) : RunKept s (takeWeight u l r s) := by
  unfold takeWeight
  dsimp only
  split
  · exact .of_rollers rfl
  · exact ((sameViews_onEntry _ s).trans ((sameViews_appendMeasured _ _ _).trans
      ((sameViews_onEntry _ _).trans (sameViews_onWork _ _)))).runKept

theorem runKept_leaveScale (s : State) : RunKept s (leaveScale s) := by
  unfold leaveScale
  extract_lets s1 s2
  have h1 : RunKept s s1 := by
    unfold s1
    split
    · exact runKept_takeWeight _ _ _ s
    · exact .refl s
  have h2 : EntryOnly s1 s2 := entryOnly_onEntry _ s1
  split
  · exact h1.trans ((h2.trans (entryOnly_raiseEvent _ s2)).trans (entryOnly_checkFinishing _)).runKept
  · exact h1.trans h2.runKept

theorem runKept_scaleSample (x : EntrySample) (s : State) : RunKept s (scaleSample x s) := by
  have joined : ∀ u : State, RunKept u (if u.entry.scale.low == 5 then leaveScale u
      else if u.entry.scale.phase == .weighing && u.entry.scale.settled u.entry.settleBand then takeSettled u
      else u) := by
    intro u
    split
    · exact runKept_leaveScale u
    · split
      · exact runKept_takeWeight _ _ _ u
      · exact .refl u
  have join : ∀ f, RunKept s (onScale f s) := fun f => .of_rollers rfl
  unfold scaleSample
  split
  · split
    · exact (entryOnly_comeOnScale x s).runKept
    · exact .refl s
  · exact (join _).trans (joined _)
  · exact (join _).trans (joined _)

theorem runKept_entryWindow (d : Delivery) (s : State) : RunKept s (entryWindow d s) := by
  unfold entryWindow
  split
  · exact ((entryOnly_sampled _ s).runKept.trans (runKept_scaleSample _ _)).trans (sameViews_onEntry _ _).runKept
  · exact .refl s

theorem runKept_settleExpired (s : State) : RunKept s (settleExpired s) := by
  unfold settleExpired
  split
  · exact runKept_takeWeight _ _ _ s
  · exact .refl s

theorem sameViews_closeEntryTrace (s : State) : SameViews s (closeEntryTrace s) := by
  unfold closeEntryTrace
  split
  · exact .refl s
  · exact (sameViews_closeTrace _ _ s).trans (sameViews_onEntry _ _)

theorem runKept_quietExpired (s : State) : RunKept s (quietExpired s) := by
  by_cases hd : s.due s.entry.quiet = true
  · rcases hv : s.entry.vehicle with _ | v
    · have e : quietExpired s = s := by unfold quietExpired; rw [hv]
      rw [e]
      exact .refl s
    · have ended : SameViews s (entryEnded v s) :=
        (sameViews_writeRec v _ s).trans ((sameViews_evaluateLeaving _).trans (sameViews_onWork _ _))
      have idled : SameViews (entryEnded v s) (entryIdled (entryEnded v s)) :=
        (sameViews_closeEntryTrace (entryEnded v s)).trans ⟨rfl, rfl⟩
      rw [quietExpired_due hv hd]
      exact (ended.trans idled).runKept
  · rw [quietExpired_early (by simpa using hd)]
    exact .refl s

/-! ## The requests of chapter 1 -/

theorem runKept_withSlot {k : Nat} {s : State} {f : Record → Handled} (h : RunKept s (f (s.record k)).state) :
    RunKept s (withSlot k s f).state := by
  rcases withSlot_cases k s f with ⟨st, e⟩ | ⟨-, -, e⟩ <;> rw [e]
  · exact .refl s
  · exact h

theorem runKept_armVehicle (o : Option Nat) (s : State) : RunKept s (armVehicle o s).state := by
  unfold armVehicle
  split
  · exact (sameViews_disarm s).runKept
  · refine runKept_withSlot ?_
    split
    · exact .refl s
    · exact (sameViews_disarm s).runKept.trans (.of_rollers rfl)

theorem runKept_bookVehicle (id : Text) (c : Nat) (e : Option Nat) (p : List Nat) (s : State) :
    RunKept s (bookVehicle id c e p s).state := by
  unfold bookVehicle
  repeat' split
  all_goals exact .of_rollers rfl

theorem runKept_bindVehicle (k : Nat) (id : Text) (c : Option Nat) (s : State) :
    RunKept s (bindVehicle k id c s).state := by
  unfold bindVehicle
  refine runKept_withSlot ?_
  repeat' split
  all_goals exact .of_rollers rfl

theorem runKept_discardVehicle (k : Nat) (s : State) : RunKept s (discardVehicle k s).state := by
  unfold discardVehicle
  refine runKept_withSlot ?_
  split
  · exact .refl s
  · exact (sameViews_removeRecord _ _ s).runKept

theorem runKept_getVehicle (k : Nat) (s : State) : RunKept s (getVehicle k s).state := by
  unfold getVehicle
  exact runKept_withSlot (.of_rollers rfl)

theorem runKept_loadClass (c l : Nat) (f : Option RawClass) (s : State) : RunKept s (loadClass c l f s).state := by
  unfold loadClass
  split
  · exact .refl s
  · split <;> exact .of_rollers rfl

theorem runKept_expireAge (k : Nat) (s : State) : RunKept s (expireAge k s) := by
  unfold expireAge
  dsimp only
  split
  · exact (sameViews_removeRecord _ _ s).runKept
  · exact .refl s

theorem runKept_exitCleared (s : State) : RunKept s (exitCleared s) := by
  unfold exitCleared
  split
  · exact .refl s
  · exact (sameViews_evaluateLeaving (s.onVt _)).runKept

/-! ## The pedal link -/

theorem runKept_enterAbsent (c : PedalCause) (s : State) : RunKept s (enterAbsent c s) := by
  unfold enterAbsent; split <;> exact .of_rollers rfl

theorem runKept_rebase (f : UnitFrame) (t : LaneTime) (s : State) : RunKept s (rebase f t s) := by
  unfold rebase; dsimp only; split <;> exact .of_rollers rfl

theorem runKept_tentativeFrame (f : UnitFrame) (t : LaneTime) (e : Int) (s : State) :
    RunKept s (tentativeFrame f t e s) := by
  unfold tentativeFrame
  dsimp only
  split
  · split <;> exact .of_rollers rfl
  · exact .of_rollers rfl

theorem runKept_syncFrame (f : UnitFrame) (t : LaneTime) (e : Int) (s : State) : RunKept s (syncFrame f t e s) := by
  unfold syncFrame
  dsimp only
  split
  · exact .of_rollers rfl
  · split <;> exact .of_rollers rfl

theorem runKept_handleFrame (f : UnitFrame) (t : LaneTime) (s : State) : RunKept s (handleFrame f t s) := by
  unfold handleFrame
  dsimp only
  split
  · exact .refl s
  · exact .of_rollers rfl
  · exact (runKept_tentativeFrame f t _ (s.onPedal _) :)
  · exact (runKept_syncFrame f t _ (s.onPedal _) :)

theorem runKept_countGap (n : Nat) (s : State) : RunKept s (countGap n s) := by
  unfold countGap addPedalGap
  repeat' split
  all_goals exact .of_rollers rfl

theorem runKept_linkFrame (b : List Byte) (t : LaneTime) (s : State) : RunKept s (linkFrame b t s) := by
  have follow : ∀ g f, RunKept s (followFrame g f t s) := by
    intro g f
    unfold followFrame
    dsimp only
    split
    · exact .of_rollers rfl
    · split
      · exact runKept_rebase f t s
      · exact (runKept_countGap _ s).trans (runKept_handleFrame f t ((countGap _ s).onPedal _) :)
  unfold linkFrame
  dsimp only
  split
  · exact .of_rollers rfl
  · split
    · exact .of_rollers rfl
    · split
      · exact follow _ _
      · exact .of_rollers rfl

theorem runKept_takePedalFrame (b : List Byte) (s : State) : RunKept s (takePedalFrame b s) := by
  unfold takePedalFrame
  split
  · split
    · exact (runKept_linkFrame b _ (s.onPedal _) :)
    · exact .refl s
  · split
    · split
      · exact (runKept_linkFrame b _ (s.onPedal _) :)
      · exact .of_rollers rfl
    · exact .refl s

theorem runKept_pedalSilent (s : State) : RunKept s (pedalSilent s) := by
  unfold pedalSilent
  split
  · exact runKept_enterAbsent _ s
  · exact .refl s

theorem runKept_applyFilter (s : State) : RunKept s (applyFilter s) := by
  unfold applyFilter
  split
  · exact .refl s
  · split
    · exact .refl s
    · exact runKept_enterAbsent _ s

/-! ## Guidance and the prompt line -/

theorem runKept_stepTimedOut (st : Station) (s : State) : RunKept s (stepTimedOut st s) := by
  unfold stepTimedOut
  split
  · exact .refl s
  · split
    · exact (sameViews_enter _ _ s).runKept
    · exact .refl s

theorem runKept_refreshShow (st : Station) (s : State) : RunKept s (refreshShow st s) := by
  unfold refreshShow; split <;> exact .of_rollers rfl

theorem runKept_beginPrompt (s : State) : RunKept s (beginPrompt s) := by
  unfold beginPrompt
  repeat' split
  all_goals exact .of_rollers rfl

theorem runKept_endPrompt (s : State) : RunKept s (endPrompt s) := by
  unfold endPrompt; split <;> exact .of_rollers rfl

theorem runKept_restartGuidance (s : State) : RunKept s (restartGuidance s) := by
  unfold restartGuidance
  exact ((sameViews_runProgram .entry 0 (s.onGuide _)).trans (sameViews_runProgram .brake 1 _)).runKept

theorem takeRequest_rollers {r : StationRequest} {s u : State} (h : takeRequest r s = some u) :
    u.rollers = s.rollers := by
  unfold takeRequest at h
  split at h
  · split at h
    · cases h; rfl
    · cases h
  · cases h

theorem runKept_loadProgram (p u : Nat) (c : Option RawProgram) (s : State) :
    RunKept s (loadProgram p u c s).state := by
  unfold loadProgram
  repeat' split
  all_goals exact .of_rollers rfl

/-! ## Signal Acquisition -/

theorem sameViews_noticeSensors (n : Nat) (as bs : List Channel) (s : State) :
    SameViews s (noticeSensors n as bs s) := by
  induction as generalizing n bs s with
  | nil => exact .refl s
  | cons a as ih =>
    cases bs with
    | nil => exact .refl s
    | cons b bs =>
      have h : SameViews s (noticeSensor a b n s) := by unfold noticeSensor; split <;> exact ⟨rfl, rfl⟩
      exact h.trans (ih _ _ _)

theorem runKept_takeConversion (vs : List Nat) (s : State) : RunKept s (takeConversion vs s) := by
  unfold takeConversion
  split
  · exact .refl s
  · extract_lets new
    have h : SameViews s (s.onSig fun g => { g with channels := new, convs := g.convs + 1 }) := ⟨rfl, rfl⟩
    exact (h.trans (sameViews_noticeSensors 0 _ _ _)).runKept

theorem Signals.modPulse_outputs (g : Signals) (i : PulseInput) (f : Pulse → Pulse) :
    (g.modPulse i f).outputs = g.outputs := by cases i <;> rfl

/-- R39: what keeps the outputs keeps the RUN law. -/
theorem runKept_onSig {f : Signals → Signals} {s : State} (h : (f s.sig).outputs = s.sig.outputs) :
    RunKept s (s.onSig f) :=
  .of_rollers (congrArg (fun o : Outputs => Rollers.mk s.brake.state o.runL o.runR) h)

theorem takeEdge_rollers {f : LineFn} {b : Bool} {s u : State} {t : LaneTime} (h : takeEdge f b s = some (t, u)) :
    u.rollers = s.rollers := by rw [takeEdge_eq h]; rfl

theorem runKept_setLines (es : List RawLine) (s : State) : RunKept s (setLines es s).state := by
  have hf : ∀ (l : List (Nat × LineFn × Level × Nat)) (g : Signals),
      (l.foldl (fun g e => restartLine s.now e g) g).outputs = g.outputs := by
    intro l
    induction l with
    | nil => exact fun g => rfl
    | cons e l ih => exact fun g => ih _
  unfold setLines
  split
  · exact .refl s
  · split
    · exact .refl s
    · dsimp only
      split
      · exact .refl s
      · split
        · exact .refl s
        · exact runKept_onSig (hf _ _)

theorem runKept_setChannels (as : List (Nat × Nat)) (s : State) : RunKept s (setChannels as s).state := by
  have h : RunKept s (setChannelTable as s).state := by
    unfold setChannelTable
    repeat' split
    all_goals exact .of_rollers rfl
  unfold setChannels
  dsimp only
  split
  · refine h.trans ?_
    unfold abandonCollection
    split <;> exact .of_rollers rfl
  · exact h

/-! ## The calibration store -/

theorem sameViews_endAutoload (l : List Nat) (s : State) : SameViews s (endAutoload l s) := by
  unfold endAutoload
  split
  · exact .refl s
  · split
    · exact ⟨rfl, rfl⟩
    · extract_lets a b k chs n s1
      have h : SameViews s s1 := ⟨rfl, rfl⟩
      exact h.trans (sameViews_foldl (f := fun u (r : StoreRecord × StoreCause) => noticeStoreFault r.1 r.2 u) (fun _ _ => ⟨rfl, rfl⟩) _ s1)

theorem endWrite_rollers {o : WriteOutcome} {s u : State} {e : WriteEntry} {w : PageWrite}
    (h : endWrite o s = some (.ok (e, w, u))) : u.rollers = s.rollers := by
  unfold endWrite at h
  split at h
  · split at h <;> split at h
    · cases h
    · cases h; rfl
    · cases h
    · cases h; rfl
  · cases h

theorem runKept_collectSum (s : State) : RunKept s (collectSum s) := by
  unfold collectSum finishCollection
  dsimp only
  repeat' split
  all_goals exact .of_rollers rfl

theorem runKept_whenLoaded {s : State} {h : Handled} (hh : RunKept s h.state) : RunKept s (whenLoaded s h).state := by
  unfold whenLoaded
  split
  · exact .refl s
  · exact hh

theorem runKept_calRead (n : Nat) (c : Option Nat) (s : State) : RunKept s (calRead n c s).state := by
  refine runKept_whenLoaded ?_
  repeat' split
  all_goals exact .refl s

theorem runKept_calWrite (n : Nat) (c : Option Nat) (r : RawCal) (s : State) : RunKept s (calWrite n c r s).state := by
  refine runKept_whenLoaded ?_
  repeat' split
  all_goals exact .of_rollers rfl

theorem runKept_beginCollection (n t : Nat) (k : CollectionKind) (s : State) :
    RunKept s (beginCollection n t k s).state := by
  unfold beginCollection; split <;> exact .of_rollers rfl

theorem runKept_calZero (t n : Nat) (s : State) : RunKept s (calZero t n s).state := by
  refine runKept_whenLoaded ?_
  split
  · exact .refl s
  · exact runKept_beginCollection _ _ _ s

theorem runKept_calSpan (t n r : Nat) (s : State) : RunKept s (calSpan t n r s).state := by
  refine runKept_whenLoaded ?_
  split
  · exact .refl s
  · split
    · exact .refl s
    · exact runKept_beginCollection _ _ _ s

theorem runKept_setCounter (v : Nat) (s : State) : RunKept s (setCounter v s).state := by
  refine runKept_whenLoaded ?_
  repeat' split
  all_goals exact .of_rollers rfl

/-! ## The Certificate Unit and the printer -/

theorem sameViews_restartRecord (k : Nat) (s : State) : SameViews s (restartRecord k s) := by
  unfold restartRecord
  split
  · exact sameViews_removeRecord _ _ s
  · exact ⟨rfl, rfl⟩

theorem sameViews_closeJob (j : Job) (o : JobOutcome) (c : Option JobCause) (r : Bool) (s : State) :
    SameViews s (closeJob j o c r s) := by
  unfold closeJob
  extract_lets s1 s2 s3 s4 s5
  have h3 : SameViews s s3 := by
    unfold s3
    split
    · exact ⟨rfl, rfl⟩
    · exact SameViews.trans ⟨rfl, rfl⟩ (sameViews_retryBinding s2)
  have h5 : SameViews s s5 := h3.trans ⟨rfl, rfl⟩
  split
  · exact h5.trans (sameViews_restartRecord _ _)
  · exact h5

theorem sameViews_numberHead (n : Nat) (s : State) : SameViews s (numberHead n s) := by
  induction n generalizing s with
  | zero => exact .refl s
  | succ n ih =>
    unfold numberHead
    split
    · exact .refl s
    · split
      · exact .refl s
      · split
        · exact (sameViews_closeJob _ _ _ _ s).trans (ih _)
        · exact ⟨rfl, rfl⟩

theorem sameViews_endJob (j : Job) (o : JobOutcome) (c : Option JobCause) (s : State) : SameViews s (endJob j o c s) :=
  (sameViews_closeJob j o c false s).trans (sameViews_numberHead 5 _)

theorem sameViews_numberFixed (v : Nat) (s : State) : SameViews s (numberFixed v s) := by
  unfold numberFixed
  split
  · exact .refl s
  · split
    · exact .refl s
    · dsimp only
      split
      · exact sameViews_endJob _ _ _ s
      · exact ⟨rfl, rfl⟩

theorem sameViews_commitFailed (s : State) : SameViews s (commitFailed s) := by
  unfold commitFailed
  split
  · exact .refl s
  · split
    · exact .refl s
    · split <;> exact sameViews_endJob _ _ _ s

theorem sameViews_pumpWrites (n : Nat) (s : State) : SameViews s (pumpWrites n s) := by
  induction n generalizing s with
  | zero => exact .refl s
  | succ n ih =>
    unfold pumpWrites
    split
    · exact (SameViews.trans ⟨rfl, rfl⟩ (sameViews_commitFailed (noticeStoreFault _ _ (s.onCal _)))).trans (ih _)
    · exact ⟨rfl, rfl⟩

theorem runKept_finishWrite {o : WriteOutcome} {s t : State} (h : finishWrite o s = .next t) : RunKept s t := by
  unfold finishWrite at h
  split at h
  · cases h; exact .refl s
  · cases h
  · next e w s1 he =>
    have h1 : RunKept s s1 := .of_rollers (endWrite_rollers he)
    split at h
    · split at h
      · cases h; exact h1.trans (sameViews_numberFixed _ _).runKept
      · cases h; exact h1.trans (sameViews_commitFailed _).runKept
    · cases h; exact h1

theorem runKept_certQueue (k : Nat) (hs : List RawHeader) (s : State) : RunKept s (certQueue k hs s).state := by
  unfold certQueue
  split
  · exact .refl s
  split
  · exact .refl s
  split
  · exact .refl s
  dsimp only
  split
  · exact .refl s
  split
  · exact .refl s
  split
  · exact .refl s
  split
  · exact .refl s
  split
  · exact .refl s
  split
  · exact .refl s
  split
  · exact .refl s
  · next lines _ _ _ _ _ c _ _ _ _ _ =>
    have h : SameViews s (modRec k (fun r => { r with job := true }) (s.onCert fun q =>
        { q with queue := q.queue ++ [Job.admitted k lines (s.record k) c] })) := ⟨rfl, rfl⟩
    exact (h.trans (sameViews_numberHead 5 _)).runKept

theorem runKept_certAbort (k : Nat) (s : State) : RunKept s (certAbort k s).state := by
  unfold certAbort
  split
  · exact .refl s
  split
  · exact .refl s
  split
  · exact .refl s
  split
  · exact .refl s
  dsimp only
  split
  · exact (sameViews_endJob _ _ _ (oweVoid s)).runKept
  · exact (sameViews_endJob _ _ _ s).runKept

theorem runKept_certList (s : State) : RunKept s (certList s).state := by
  unfold certList; split <;> exact .refl s

theorem sameViews_interrupt (s : State) : SameViews s (interrupt s) := by
  unfold interrupt; split <;> exact ⟨rfl, rfl⟩

theorem sameViews_setLink (l : LinkState) (s : State) : SameViews s (setLink l s) := by
  unfold setLink
  dsimp only
  split
  · exact (sameViews_interrupt (rewindVoid (s.onCert _)) :)
  · split <;> exact ⟨rfl, rfl⟩

theorem runKept_takeStatus (c : PrinterCondition) (t : LaneTime) (s : State) : RunKept s (takeStatus c t s) := by
  unfold takeStatus
  extract_lets l told s1
  have h : RunKept s s1 := (sameViews_setLink l (s.onCert _)).runKept
  split <;> exact h

theorem runKept_printerSilent (s : State) : RunKept s (printerSilent s) := by
  unfold printerSilent
  split
  · exact (sameViews_setLink .offline (s.onCert _)).runKept
  · exact .refl s

theorem runKept_takeHello (w : Nat) (s : State) : RunKept s (takeHello w s) := by
  unfold takeHello
  extract_lets s1
  have h : RunKept s s1 := (sameViews_interrupt (rewindVoid (s.onCert _))).runKept
  split <;> exact h

theorem runKept_takeCredit (n : Nat) (s : State) : RunKept s (takeCredit n s) := by
  unfold takeCredit completeJob
  split
  · exact .of_rollers rfl
  · split
    · exact (sameViews_endJob _ _ _ (s.onCert _)).runKept
    · exact .of_rollers rfl

theorem runKept_takePrinter {m : PrinterMsg} {ok : Bool} {k : LaneTime → State → State} (s : State)
    (h : ∀ t u, RunKept u (k t u)) : RunKept s (takePrinter m ok k s) := by
  unfold takePrinter
  split
  · split
    · exact (h _ (s.onCert _) :)
    · exact .refl s
  · split
    · exact h _ s
    · exact .of_rollers rfl

theorem runKept_beginPrinter (s : State) : RunKept s (beginPrinter s) := by
  unfold beginPrinter sendNextOf
  dsimp only
  repeat' split
  all_goals exact .of_rollers rfl

/-! ## The Host Port and its settings -/

theorem runKept_takeHostFrame (f : HostFrame) (s : State) : RunKept s (takeHostFrame f s) := by
  unfold takeHostFrame bufferFrame
  repeat' split
  all_goals exact .of_rollers rfl

theorem runKept_takeRequestFrame (s : State) : RunKept s (takeRequestFrame s) := by
  unfold takeRequestFrame
  dsimp only
  repeat' split
  all_goals exact .of_rollers rfl

theorem runKept_storeSetting (s : State) (e : Nat × Nat) : RunKept s (storeSetting s e) := by
  unfold storeSetting
  split
  all_goals exact .of_rollers rfl

theorem runKept_setConfig (es : List (Nat × Nat)) (s : State) : RunKept s (setConfig es s).state := by
  have apply : RunKept s (applyConfig es s) := by
    have h1 := runKept_foldl runKept_storeSetting es s
    unfold applyConfig
    extract_lets s1 s2 s3
    have h2 : RunKept s s2 := by
      unfold s2
      split
      · exact h1
      · exact h1.trans (sameViews_onWork _ _).runKept
    have h3 : RunKept s s3 := by
      unfold s3
      split
      · exact h2.trans (sameViews_setAgeLimit _ _).runKept
      · exact h2
    have h4 : RunKept s3 (drainLowered s.traces.drainLevel s3) := by
      unfold drainLowered
      dsimp only
      split <;> exact .of_rollers rfl
    exact (h3.trans h4).trans (runKept_applyFilter _)
  unfold setConfig
  repeat' split
  case isFalse.isFalse.isFalse.isFalse.isFalse => exact apply
  all_goals exact .refl s

/-! ## RESTART -/

/-- R39: RESTART sets every output OFF, whatever stood before. -/
theorem runsOff_restartSignals (s : State) : RunsOff (restartSignals s) := ⟨rfl, rfl⟩

theorem runKept_restartPedal (s : State) : RunKept s (restartPedal s) := by
  unfold restartPedal
  have h : RunKept s (s.onPedal fun p => { p with framed := false, frame := none }) := .of_rollers rfl
  exact (h.trans (runKept_enterAbsent _ _)).trans (.of_rollers rfl)

theorem runKept_restartPort (s : State) : RunKept s (restartPort s) := .of_rollers rfl

theorem runKept_restartLast (s : State) : RunKept s (restartPort (restartGuidance (restartPedal s))) :=
  ((runKept_restartPedal s).trans (runKept_restartGuidance _)).trans (runKept_restartPort _)

theorem runLaw_restartPart (s : State) : RunLaw (restartPart s) := by
  unfold restartPart
  extract_lets lane records
  exact runKept_restartLast _ (runsOff_restartSignals records).runLaw

end Sys2Proof.Machine
end

section
/-! SUPPORT. The RUN law (R70) under every command and its settling, and O55. -/

namespace Sys2Proof.Machine

/-! ## Settling and answers -/

theorem runKept_settleHead (s : State) : RunKept s (settleHead s) := by
  unfold settleHead
  split
  · exact (sameViews_onWork _ s).runKept.trans (runKept_headChanged _)
  · exact .refl s

theorem sameViews_settleRetry (s : State) : SameViews s (settleRetry s) := by
  unfold settleRetry
  split
  · exact (sameViews_onWork _ s).trans (sameViews_retryBinding _)
  · exact .refl s

theorem runKept_settleRematch (s : State) : RunKept s (settleRematch s) := by
  unfold settleRematch
  split
  · exact (sameViews_onWork _ s).runKept.trans (runKept_rematchAxle _)
  · exact .refl s

/-- R70: what follows an event keeps the RUN law. -/
theorem runKept_settle (s : State) : RunKept s (settle s) := by
  have writes : RunKept s (settleWrites s) := (sameViews_pumpWrites _ s).runKept
  have table := (writes.trans (runKept_settleHead _)).trans (sameViews_settleRetry _).runKept
  have station := (table.trans (runKept_settleHead _)).trans (runKept_settleRematch _)
  exact (station.trans (sameViews_guardCollection _).runKept).trans (sameViews_settleGuidance _).runKept

theorem runKept_finish {s u t : State} (hf : finish u = .next t) (h : RunKept s u) : RunKept s t := by
  cases hf
  exact h.trans (runKept_settle u)

theorem runKept_finish_still {s u t : State} (hf : finish u = .next t) (h : u.rollers = s.rollers) : RunKept s t :=
  runKept_finish hf (.of_rollers h)

theorem runKept_finishWrites {s t : State} {o : WriteOutcome} (h : finishOut (finishWrite o s) = .next t) :
    RunKept s t := by
  cases hw : finishWrite o s with
  | next u => rw [hw] at h; exact runKept_finish h (runKept_finishWrite hw)
  | fault f => rw [hw] at h; cases h
  | refused r => rw [hw] at h; cases h

theorem runKept_answer (i : Instr) (k t : Nat) {op : State → Handled} (s : State)
    (h : ∀ u, RunKept u (op u).state) : RunKept s (answer i k t op s) := by
  unfold answer
  split
  · have owner : RunKept s (atOwner i s) := .of_rollers (by rw [atOwner_eq]; rfl)
    have done := owner.trans (h (atOwner i s))
    unfold postAnswer
    split
    · exact done.trans (sameViews_postReply _ _ _ _ _).runKept
    · exact done
  · exact .refl s

theorem runKept_onEdge (f : LineFn) (b : Bool) {k : LaneTime → State → State} (s : State)
    (h : ∀ t u, RunKept u (k t u)) : RunKept s (onEdge f b k s) := by
  unfold onEdge
  split
  · next t u he => exact (RunKept.of_rollers (takeEdge_rollers he)).trans (h t u)
  · exact .refl s

theorem runKept_onRequest (r : StationRequest) {k : State → State} (s : State) (h : ∀ u, RunKept u (k u)) :
    RunKept s (onRequest r k s) := by
  unfold onRequest
  split
  · next u hu => exact (RunKept.of_rollers (takeRequest_rollers hu)).trans (h u)
  · exact .refl s

/-! ## The requests that read or store one part -/

theorem runKept_getStatus (n : Nat) (s : State) : RunKept s (getStatus n s).state := by
  unfold getStatus; split <;> exact .of_rollers rfl

theorem runKept_setClock (y mo d h mi sec : Nat) (s : State) : RunKept s (setClock y mo d h mi sec s).state := by
  unfold setClock; split <;> exact .of_rollers rfl

theorem runKept_setLive (n d : Nat) (s : State) : RunKept s (setLive n d s).state := by
  unfold setLive
  split
  · exact .refl s
  · split <;> exact .of_rollers rfl

theorem runKept_traceList (n f : Nat) (s : State) : RunKept s (traceList n f s).state := by
  unfold traceList; split <;> exact .refl s

theorem runKept_traceRead (i f n : Nat) (s : State) : RunKept s (traceRead i f n s).state := by
  unfold traceRead
  repeat' split
  all_goals exact .refl s

theorem runKept_traceRelease (i : Nat) (s : State) : RunKept s (traceRelease i s).state := by
  unfold traceRelease
  repeat' split
  all_goals exact .of_rollers rfl

theorem runKept_setPartitions (b e : Nat) (s : State) : RunKept s (setPartitions b e s).state := by
  unfold setPartitions
  repeat' split
  all_goals exact .of_rollers rfl

/-! ## Every command -/

/-- R70: a power-on and the reset line leave the outputs OFF. -/
theorem runLaw_resetPart (l : Level) (s : State) : RunLaw (resetPart l s) := RunsOff.runLaw ⟨rfl, rfl⟩

/-- Every command keeps the RUN law. -/
theorem exec_runKept (i : Instr) (s t : State) (h : exec i s = .next t) : RunKept s t := by
  cases i <;> dsimp only [exec] at h
  case powerOn l => cases h; exact fun _ => runLaw_resetPart l s
  case resetLine l => cases h; exact fun _ => runLaw_resetPart l s
  case autoloadEnd l => exact runKept_finish h (sameViews_endAutoload l s).runKept
  case laneTimeTick => exact runKept_finish_still h rfl
  case clockReferenceAdvance => exact runKept_finish_still h rfl
  case conversion vs => exact runKept_finish h (runKept_takeConversion vs s)
  case pulseEdge p =>
    exact runKept_finish h (runKept_onSig (Signals.modPulse_outputs s.sig p _))
  case windowEnd =>
    refine runKept_finish h ?_
    split
    · exact (RunKept.of_rollers (t := closeWindow s) rfl).trans (runKept_collectSum _)
    · exact .refl s
  case lineSample l => exact runKept_finish_still h rfl
  case entryBarrierActive => exact runKept_finish h (runKept_onEdge _ _ s fun _ => runKept_barrierActive)
  case entryBarrierInactive => exact runKept_finish h (runKept_onEdge _ _ s fun _ => runKept_barrierInactive)
  case slipPlateSwitchActive =>
    exact runKept_finish h (runKept_onEdge _ _ s fun _ u => (entryOnly_plateActive u).runKept)
  case slipPlateSwitchInactive =>
    exact runKept_finish h (runKept_onEdge _ _ s fun _ u => (entryOnly_plateInactive u).runKept)
  case exitBarrierBroken => exact runKept_finish h (runKept_onEdge _ _ s fun _ => .refl)
  case exitBarrierClear => exact runKept_finish h (runKept_onEdge _ _ s fun _ => runKept_exitCleared)
  case wheelActive w => exact runKept_finish h (runKept_onEdge _ _ s (runKept_wheelCame w))
  case wheelInactive w => exact runKept_finish h (runKept_onEdge _ _ s (runKept_wheelWent w))
  case driveReadyActive w => exact runKept_finish h (runKept_onEdge _ _ s fun _ => runKept_driveCame)
  case driveReadyInactive w => exact runKept_finish h (runKept_onEdge _ _ s fun _ => runKept_driveWent)
  case estopActive => exact runKept_finish h (runKept_onEdge _ _ s fun _ => runKept_enterFault .estop)
  case estopInactive => exact runKept_finish h (runKept_onEdge _ _ s fun _ => .refl)
  case ageExpiry k => exact runKept_finish h (runKept_expireAge k s)
  case entryWindowEnd =>
    refine runKept_finish h ?_
    unfold takeEntryWindow
    split
    · exact .refl s
    · next d rest _ => exact (runKept_entryWindow d (s.onSig fun g => { g with entryInbox := rest }) :)
  case settleExpiry => exact runKept_finish h (runKept_settleExpired s)
  case quietExpiry => exact runKept_finish h (runKept_quietExpired s)
  case brakeWindowEnd =>
    refine runKept_finish h ?_
    unfold takeBrakeWindow
    split
    · exact .refl s
    · next d rest _ => exact (runKept_brakeWindow d (s.onSig fun g => { g with brakeInbox := rest }) :)
  case presenceExpiry => exact runKept_finish h (runKept_presenceExpired s)
  case spinUpExpiry => exact runKept_finish h (runKept_spinUpExpired s)
  case brakingExpiry => exact runKept_finish h (runKept_brakingExpired s)
  case stopExpiry => exact runKept_finish h (runKept_stopExpired s)
  case clearExpiry => exact runKept_finish h (runKept_clearExpired s)
  case markParking => exact runKept_finish h (runKept_onRequest _ s fun u => (sameViews_markParking u).runKept)
  case endAxle => exact runKept_finish h (runKept_onRequest _ s runKept_endAxle)
  case guidanceSkipAxle => exact runKept_finish h (runKept_onRequest _ s runKept_guidanceSkip)
  case guidanceReleaseVehicle => exact runKept_finish h (runKept_onRequest _ s runKept_guidanceRelease)
  case pedalByte b ok n => exact runKept_finish_still h rfl
  case pedalFrame b => exact runKept_finish h (runKept_takePedalFrame b s)
  case pedalSilenceExpiry => exact runKept_finish h (runKept_pedalSilent s)
  case stepTimeout st => exact runKept_finish h (runKept_stepTimedOut st s)
  case showRefresh st => exact runKept_finish h (runKept_refreshShow st s)
  case promptTransmitBegin => exact runKept_finish h (runKept_beginPrompt s)
  case promptTransmitEnd => exact runKept_finish h (runKept_endPrompt s)
  case printerByte b ok => exact runKept_finish_still h rfl
  case hello w => exact runKept_finish h (runKept_takePrinter s fun _ => runKept_takeHello w)
  case status c => exact runKept_finish h (runKept_takePrinter s (runKept_takeStatus c))
  case credit n => exact runKept_finish h (runKept_takePrinter s fun _ => runKept_takeCredit n)
  case printerSilenceExpiry => exact runKept_finish h (runKept_printerSilent s)
  case printerTransmitBegin => exact runKept_finish h (runKept_beginPrinter s)
  case printerTransmitEnd => exact runKept_finish_still h rfl
  case eepromWriteEnd a => exact runKept_finishWrites h
  case eepromAckTimeout =>
    unfold execEepromAckTimeout at h
    split at h
    · exact runKept_finishWrites h
    · exact runKept_finish_still h rfl
  case ctsChange a => exact runKept_finish_still h rfl
  case hostByte b ok => exact runKept_finish_still h rfl
  case hostFrameReceived k tag p => exact runKept_finish h (runKept_takeHostFrame _ s)
  case requestTaken => exact runKept_finish h (runKept_takeRequestFrame s)
  case hostTransmitBegin => exact runKept_finish_still h rfl
  case hostTransmitEnd => exact runKept_finish_still h rfl
  case getStatus tag n => exact runKept_finish h (runKept_answer _ _ _ s (runKept_getStatus n))
  case restart tag => exact runKept_finish h (runKept_answer _ _ _ s fun u _ => runLaw_restartPart u)
  case setClock tag y mo d hh mi sec =>
    exact runKept_finish h (runKept_answer _ _ _ s (runKept_setClock y mo d hh mi sec))
  case setConfig tag es => exact runKept_finish h (runKept_answer _ _ _ s (runKept_setConfig es))
  case getConfig tag => exact runKept_finish h (runKept_answer _ _ _ s .refl)
  case setChannels tag as => exact runKept_finish h (runKept_answer _ _ _ s (runKept_setChannels as))
  case setLines tag es => exact runKept_finish h (runKept_answer _ _ _ s (runKept_setLines es))
  case loadClass tag c l f => exact runKept_finish h (runKept_answer _ _ _ s (runKept_loadClass c l f))
  case loadProgram tag p u c => exact runKept_finish h (runKept_answer _ _ _ s (runKept_loadProgram p u c))
  case bookVehicle tag id c e pk => exact runKept_finish h (runKept_answer _ _ _ s (runKept_bookVehicle id c e pk))
  case armVehicle tag k => exact runKept_finish h (runKept_answer _ _ _ s (runKept_armVehicle k))
  case bindVehicle tag k id c => exact runKept_finish h (runKept_answer _ _ _ s (runKept_bindVehicle k id c))
  case discardVehicle tag k => exact runKept_finish h (runKept_answer _ _ _ s (runKept_discardVehicle k))
  case getVehicle tag k => exact runKept_finish h (runKept_answer _ _ _ s (runKept_getVehicle k))
  case listLane tag => exact runKept_finish h (runKept_answer _ _ _ s .refl)
  case skipAxle tag => exact runKept_finish h (runKept_answer _ _ _ s runKept_hostSkip)
  case releaseVehicle tag => exact runKept_finish h (runKept_answer _ _ _ s runKept_hostRelease)
  case ackFault tag => exact runKept_finish h (runKept_answer _ _ _ s runKept_ackFault)
  case setLive tag n d => exact runKept_finish h (runKept_answer _ _ _ s (runKept_setLive n d))
  case traceList tag n f => exact runKept_finish h (runKept_answer _ _ _ s (runKept_traceList n f))
  case traceRead tag i f n => exact runKept_finish h (runKept_answer _ _ _ s (runKept_traceRead i f n))
  case traceRelease tag i => exact runKept_finish h (runKept_answer _ _ _ s (runKept_traceRelease i))
  case setPartitions tag b e => exact runKept_finish h (runKept_answer _ _ _ s (runKept_setPartitions b e))
  case certQueue tag k hs => exact runKept_finish h (runKept_answer _ _ _ s (runKept_certQueue k hs))
  case certAbort tag k => exact runKept_finish h (runKept_answer _ _ _ s (runKept_certAbort k))
  case certList tag => exact runKept_finish h (runKept_answer _ _ _ s runKept_certList)
  case calRead tag n c => exact runKept_finish h (runKept_answer _ _ _ s (runKept_calRead n c))
  case calWrite tag n c r => exact runKept_finish h (runKept_answer _ _ _ s (runKept_calWrite n c r))
  case calZero tag n => exact runKept_finish h (runKept_answer _ _ _ s (runKept_calZero tag n))
  case calSpan tag n r => exact runKept_finish h (runKept_answer _ _ _ s (runKept_calSpan tag n r))
  case setCounter tag v => exact runKept_finish h (runKept_answer _ _ _ s (runKept_setCounter v))

/-- Settles O55: each command either leaves the rollers, switches them OFF, or keeps the station in a state that may
turn them. -/
theorem everyStepKeepsTheRunLaw : Obligations.EveryStepKeepsTheRunLaw := by
  intro s t hs h
  unfold step at h
  split at h
  · cases h; exact hs
  · next c rest _ => exact (exec_runKept c _ t h : RunKept { s with pending := rest } t) hs

end Sys2Proof.Machine
end

section
/-! SUPPORT. What the brake station's operations change besides the station, and what follows them on a part at rest. -/

namespace Sys2Proof.Machine

/-! ## The station, the table and the traces -/

/-- The brake station, the outputs, the Vehicle Table, the traces, the Host Port and the work owed may differ, but no axle is
to be matched again. -/
def LaneOnly (s t : State) : Prop :=
  ∃ b o v tr p w, w.rematch = s.work.rematch
    ∧ t = { s with brake := b, sig := { s.sig with outputs := o }, vt := v, traces := tr, port := p, work := w }

/-- The same, where nothing is owed besides but results for Guidance. -/
def StationOnly (s t : State) : Prop :=
  ∃ b o v tr p l, t = { s with brake := b, sig := { s.sig with outputs := o }, vt := v, traces := tr, port := p
                               work := { s.work with items := l } }

theorem StationOnly.refl (s : State) : StationOnly s s :=
  ⟨s.brake, s.sig.outputs, s.vt, s.traces, s.port, s.work.items, rfl⟩

theorem StationOnly.trans {s t u : State} (h : StationOnly s t) (k : StationOnly t u) : StationOnly s u := by
  obtain ⟨b, o, v, tr, p, l, rfl⟩ := h
  obtain ⟨b', o', v', tr', p', l', rfl⟩ := k
  exact ⟨b', o', v', tr', p', l', rfl⟩

theorem LaneOnly.trans {s t u : State} (h : LaneOnly s t) (k : LaneOnly t u) : LaneOnly s u := by
  obtain ⟨b, o, v, tr, p, w, hw, rfl⟩ := h
  obtain ⟨b', o', v', tr', p', w', hw', rfl⟩ := k
  exact ⟨b', o', v', tr', p', w', hw'.trans hw, rfl⟩

theorem StationOnly.lane {s t : State} (h : StationOnly s t) : LaneOnly s t := by
  obtain ⟨b, o, v, tr, p, l, rfl⟩ := h
  exact ⟨b, o, v, tr, p, { s.work with items := l }, rfl, rfl⟩

theorem BrakeOnly.station {s t : State} (h : BrakeOnly s t) : StationOnly s t := by
  obtain ⟨b, o, p, l, rfl⟩ := h
  exact ⟨b, o, s.vt, s.traces, p, l, rfl⟩

theorem stationOnly_onBrake (f : BrakeStation → BrakeStation) (s : State) : StationOnly s (s.onBrake f) :=
  (brakeOnly_onBrake f s).station

theorem stationOnly_writeRec (k : Nat) (f : Record → Record) (s : State) : StationOnly s (writeRec k f s) :=
  ⟨s.brake, s.sig.outputs, (writeRec k f s).vt, s.traces, s.port, s.work.items, rfl⟩

theorem stationOnly_openTrace (k : TraceKind) (n : Nat) (a : Option Nat) (s : State) :
    StationOnly s (openTrace k n a s).2 := by
  unfold openTrace
  split
  · exact ⟨s.brake, s.sig.outputs, s.vt, _, s.port, s.work.items, rfl⟩
  · exact .refl s

theorem stationOnly_closeTrace (id : Nat) (a : Bool) (s : State) : StationOnly s (closeTrace id a s).2 := by
  rw [closeTrace_eq]
  exact ⟨s.brake, s.sig.outputs, s.vt, _, _, s.work.items, rfl⟩

theorem stationOnly_abortTrace (o : Option Nat) (s : State) : StationOnly s (abortTrace o s) := by
  rw [abortTrace_eq]
  exact ⟨s.brake, s.sig.outputs, s.vt, _, _, s.work.items, rfl⟩

theorem brakeOnly_setRun (on : Bool) (s : State) : BrakeOnly s (setRun on s) :=
  ⟨s.brake, _, s.port, s.work.items, setRun_eq on s⟩

theorem brakeOnly_noticeTested (r : Option AbortReason) (x : Option AxleResult) (s : State) :
    BrakeOnly s (noticeTested r x s) := by
  rw [noticeTested_eq]
  exact ⟨s.brake, s.sig.outputs, _, s.work.items, rfl⟩

theorem laneOnly_completeHead (c : LeaveCause) (s : State) : LaneOnly s (completeHead c s) := by
  unfold completeHead
  split
  · exact (StationOnly.refl s).lane
  · exact ⟨s.brake, s.sig.outputs, _, s.traces, _, { s.work with headMoved := true, retry := true }, rfl, rfl⟩

theorem laneOnly_evaluateLeaving (s : State) : LaneOnly s (evaluateLeaving s) := by
  unfold evaluateLeaving
  split
  · exact laneOnly_completeHead _ s
  · exact (StationOnly.refl s).lane

/-! ## Aborts and faults (R78, R80) -/

theorem stationOnly_abortAttempt (r : AbortReason) (s : State) : StationOnly s (abortAttempt r s) := by
  have h1 : StationOnly s ((setRun false s).onBrake fun b =>
      { b.discarded with presence := none, spinUp := none, braking := none, stop := none, openTrace := none }) :=
    (brakeOnly_setRun false s).station.trans (stationOnly_onBrake _ _)
  unfold abortAttempt
  extract_lets s1 s2 s3
  have h3 : StationOnly s2 s3 := by
    unfold s3
    split
    · exact stationOnly_writeRec _ _ s2
    · exact .refl s2
  exact ((h1.trans (stationOnly_abortTrace _ s1)).trans h3).trans (brakeOnly_noticeTested _ _ s3).station

theorem currentAxle_eq {s : State} {v n : Nat} (hv : s.brake.vehicle = some v) (hn : s.brake.axle = some n) :
    currentAxle s = some (v, n) := by unfold currentAxle; rw [hv, hn]

/-- R78 step 4: the aborted attempt is counted in the axle's entry, up to 15. -/
theorem axle_abortAttempt (r : AbortReason) {s : State} {v n : Nat} {a : Axle} (hv : s.brake.vehicle = some v)
    (hn : s.brake.axle = some n) (ha : (s.record v).axle n = some a) :
    ((abortAttempt r s).record v).axle n = some { a with attempts := min 15 (a.attempts + 1) } := by
  unfold abortAttempt
  extract_lets s1 s2 s3
  have hvt : s2.vt = s.vt := (abortTrace_table s.brake.openTrace s1).1
  have hbr : s2.brake = s1.brake := by unfold s2; rw [abortTrace_eq]
  have hcur : currentAxle s2 = some (v, n) := currentAxle_eq (by rw [hbr]; exact hv) (by rw [hbr]; exact hn)
  have h3 : s3 = writeAxle v n (fun a => { a with attempts := bump 15 a.attempts }) s2 := by
    unfold s3
    rw [hcur]
  rw [record_of_vt (noticeTested_table _ _ s3).1, h3, axle_writeAxle v n _ s2 a (by rw [record_of_vt hvt]; exact ha)]
  rfl

theorem stationOnly_enterFault (c : BrakeCause) (s : State) : StationOnly s (enterFault c s) := by
  unfold enterFault
  split
  · exact .refl s
  · extract_lets s1 s2
    have h1 : StationOnly s s1 := by
      unfold s1
      split
      · exact stationOnly_abortAttempt _ s
      · exact .refl s
    have h2 : BrakeOnly s1 s2 := (brakeOnly_setRun false s1).trans (brakeOnly_onBrake _ _)
    have h3 : BrakeOnly s2 (noticeFault c true (raiseEvent .stationFault (enterState .fault s2))) :=
      ((brakeOnly_enterState .fault s2).trans (brakeOnly_hand _ _)).trans (brakeOnly_sendNotice _ _)
    exact h1.trans (h2.trans h3).station

theorem runsOff_enterFault_out {s : State} (c : BrakeCause) (h : s.brake.state ≠ .fault) : RunsOff (enterFault c s) := by
  obtain ⟨-, -, hl, hr, -⟩ := enterFault_brake c s h
  exact ⟨hl, hr⟩

/-! ## The vehicle and the head (R65, R66, R77) -/

@[simp] theorem setVehicle_brake (v : Option Nat) (s : State) :
    (setVehicle v s).brake = { s.brake with vehicle := v } := by
  unfold setVehicle
  split
  · next h => rw [← beq_iff_eq.mp h]
  · rfl

theorem takeHead_brake_none {s : State} (h : s.vt.queue = []) :
    (takeHead s).brake = { s.brake with state := .idle, vehicle := none, presence := none } := by
  unfold takeHead
  rw [h]
  simp [enterIdle, reportFree, raiseEvent, hand]

theorem takeHead_brake_some {s : State} {k : Nat} {rest : List Nat} (h : s.vt.queue = k :: rest) :
    (takeHead s).brake = { s.brake with
      state := .waitWheels, vehicle := some k, axle := none
      presence := if wheelsOn s then some (later s.now 2000) else none } := by
  unfold takeHead
  rw [h]
  have e : (enterWaitWheels s).brake = { s.brake with
      state := .waitWheels, vehicle := s.vt.queue.head?, axle := none
      presence := if wheelsOn s then some (later s.now 2000) else none } := by
    unfold enterWaitWheels
    dsimp only
    split <;> simp [reportFree, raiseEvent, hand]
  rw [h] at e
  exact e

/-- R65: a change of head does not concern an attempt. -/
theorem headChanged_attempt {s : State} (h : s.brake.state.attempt = true) : headChanged s = s := by
  unfold headChanged
  cases hs : s.brake.state with
  | zeroing | spinUp | drag | braking | stopping => rfl
  | idle | waitWheels | waitAxleRecord | axleDone | waitClear | fault => simp [hs, BrakeState.attempt] at h

/-! ## BRAKING's end (R74) -/

theorem brakeOnly_endBraking (c : EndCause) (ev : Option GEvent) (s : State) : BrakeOnly s (endBraking c ev s) := by
  unfold endBraking
  extract_lets s1
  have h1 : BrakeOnly s s1 := by
    unfold s1
    split
    · exact brakeOnly_hand _ s
    · exact .refl s
  exact ((h1.trans (brakeOnly_setRun false s1)).trans (brakeOnly_onBrake _ _)).trans (brakeOnly_enterState _ _)

theorem endBraking_brake (c : EndCause) (ev : Option GEvent) (s : State) :
    (endBraking c ev s).brake = { s.brake with
      state := .stopping, braking := none, held := [], run := { s.brake.run with endCause := some c }, stopCount := 0
      stop := some (later s.time.now 5000) } := by
  unfold endBraking
  rw [enterState_brake]
  cases ev <;> rfl

/-! ## What follows -/

/-- R70: outputs that are OFF stay OFF through what follows an event. -/
theorem runsOff_settle {s : State} (h : RunsOff s) : RunsOff (settle s) := by
  have head : ∀ {u}, RunsOff u → RunsOff (settleHead u) := fun {u} hu => by
    unfold settleHead
    split
    · exact hu.of_outputs (by rw [headChanged_sig]; rfl)
    · exact hu
  have rematch : ∀ {u}, RunsOff u → RunsOff (settleRematch u) := fun {u} hu => by
    unfold settleRematch rematchAxle
    split
    · split
      · split
        · exact runsOff_matchAxle _ hu
        · exact hu
      · exact hu
    · exact hu
  have writes : RunsOff (settleWrites s) := h.of_views (sameViews_pumpWrites _ s)
  have table := (head writes).of_views (sameViews_settleRetry _)
  exact ((rematch (head table)).of_views (sameViews_guardCollection _)).of_views (sameViews_settleGuidance _)

/-- Where nothing but results for Guidance is owed, only the collection is looked at and Guidance follows. -/
theorem settle_unowed {s : State} (hw : WritesRest s) (hh : s.work.headMoved = false) (hr : s.work.retry = false)
    (hm : s.work.rematch = false) : settle s = settleGuidance (guardCollection s) := by
  have hretry : settleRetry s = s := by unfold settleRetry; rw [hr]; rfl
  have hmatch : settleRematch s = s := by unfold settleRematch; rw [hm]; rfl
  unfold settle
  rw [settleWrites_rest hw, settleHead_still hh, hretry, settleHead_still hh, hmatch]

theorem sameViews_settle {s : State} (hw : WritesRest s) (hh : s.work.headMoved = false) (hr : s.work.retry = false)
    (hm : s.work.rematch = false) : SameViews s (settle s) := by
  rw [settle_unowed hw hh hr hm]
  exact (sameViews_guardCollection s).trans (sameViews_settleGuidance _)

/-- On a part at rest, nothing follows an operation of the station but Guidance. -/
theorem StationOnly.settles {s t : State} (h : StationOnly s t) (hc : Calm s) :
    Rested t (settle t) ∧ SameViews t (settle t) := by
  obtain ⟨hwork, hw, -⟩ := hc
  obtain ⟨b, o, v, tr, p, l, rfl⟩ := h
  have hh := congrArg Work.headMoved hwork
  have hr := congrArg Work.retry hwork
  have hm := congrArg Work.rematch hwork
  exact ⟨settle_rested hw hh hr hm, sameViews_settle hw hh hr hm⟩

/-- Where neither a binding nor an axle waits, only a change of head follows before Guidance. -/
theorem settle_headed {s : State} (hw : WritesRest s) (hb : s.entry.blocked = false) (hm : s.work.rematch = false) :
    Rested (settleHead s) (settle s) := by
  obtain ⟨b, o, p, w, h1, -, hm1, hh1⟩ := settleHead_brakeOnly s
  have h2 : settleRetry (settleHead s) = (settleHead s).onWork fun w => { w with retry := false } :=
    settleRetry_unblocked (by rw [h1]; exact hb)
  have h3 : settleHead (settleRetry (settleHead s)) = settleRetry (settleHead s) :=
    settleHead_still (by rw [h2, h1]; exact hh1)
  have h4 : settleRematch (settleRetry (settleHead s)) = settleRetry (settleHead s) := by
    unfold settleRematch
    rw [h2, h1]
    exact if_neg (by rw [State.onWork]; exact ne_of_eq_of_ne (hm1.trans hm) (by decide))
  unfold settle
  rw [settleWrites_rest hw, h3, h4, h2]
  exact rested_tail ((settleHead s).onWork fun w => { w with retry := false })

/-- What follows an operation on a part at rest while the entry station is not BLOCKED: the Vehicle Table stands, and the
station hears of its head. -/
theorem LaneOnly.settles {s t : State} (h : LaneOnly s t) (hc : Calm s) (hb : s.entry.blocked = false) :
    (settle t).vt = t.vt ∧ Rested (settleHead t) (settle t) := by
  obtain ⟨hwork, hw, -⟩ := hc
  obtain ⟨b, o, v, tr, p, w, hm, rfl⟩ := h
  have hm' : w.rematch = false := hm.trans (congrArg Work.rematch hwork)
  exact ⟨settle_vt hw hb hm', settle_headed hw hb hm'⟩

end Sys2Proof.Machine
end

section
/-! SUPPORT. The edges of the wheels, the drives and ESTOP at the brake station (R66, R70, R77 to R81): O37 and O38. -/

namespace Sys2Proof.Machine

/-! ## Wheel edges -/

/-- An edge whose effect leaves a part at rest is taken and nothing follows. -/
theorem exec_edge_calm {f : LineFn} {b : Bool} {k : LaneTime → State → State} {s u v : State} {t : LaneTime}
    (h : takeEdge f b s = some (t, u)) (hk : k t u = v) (hv : Calm v) : finish (onEdge f b k s) = .next v := by
  rw [onEdge_taken h, hk, finish_calm v hv]

/-- A change of the station that keeps its state keeps a part at rest. -/
theorem calm_withBrake {s : State} {b : BrakeStation} (hc : Calm s) (hb : b.state = s.brake.state) :
    Calm { s with brake := b } := Calm.of_eq hc rfl rfl rfl rfl hb

theorem wheelCame_waitWheels {w : Side} {t : LaneTime} {s : State} (hs : s.brake.state = .waitWheels)
    (ho : inputActive (wheelFn (Side.other w)) s = true) (hp : s.brake.presence = none) :
    wheelCame w t s = s.onBrake fun b => { b with presence := some (later t 2000) } := by
  unfold wheelCame; rw [hs, ho, hp]; rfl

theorem wheelCame_waitClear {w : Side} {t : LaneTime} {s : State} (hs : s.brake.state = .waitClear) :
    wheelCame w t s = s.onBrake fun b => { b with clear := none } := by
  unfold wheelCame; rw [hs]

theorem wheelWent_waitWheels {w : Side} {t : LaneTime} {s : State} (hs : s.brake.state = .waitWheels) :
    wheelWent w t s = s.onBrake fun b => { b with presence := none } := by
  unfold wheelWent; rw [hs]

theorem wheelWent_waitClear {w : Side} {t : LaneTime} {s : State} (hs : s.brake.state = .waitClear)
    (ho : inputActive (wheelFn (Side.other w)) s = false) :
    wheelWent w t s = s.onBrake fun b => { b with clear := some (later t 1000) } := by
  unfold wheelWent; rw [hs, ho]; rfl

theorem wheelWent_attempt {w : Side} {t : LaneTime} {s : State} (h : s.brake.state.attempt = true) :
    wheelWent w t s = wheelsLost s := by
  unfold wheelWent
  cases hs : s.brake.state with
  | zeroing | spinUp | drag | braking | stopping => rfl
  | idle | waitWheels | waitAxleRecord | axleDone | waitClear | fault => simp [hs, BrakeState.attempt] at h

theorem stationOnly_wheelsLost (s : State) : StationOnly s (wheelsLost s) :=
  (stationOnly_abortAttempt .wheelsLost s).trans
    ((brakeOnly_hand (.event .wheelsLost) _).trans (brakeOnly_enterWaitClear _)).station

theorem enterWaitClear_brake (s : State) : (enterWaitClear s).brake = { s.brake with
    state := .waitClear, presence := none, clear := if wheelsOff s then some (later s.now 1000) else none } := by
  unfold enterWaitClear; rw [enterState_brake]; rfl

/-- R79: a lost wheel leaves the station in WAIT_CLEAR with the axle it had. -/
theorem wheelsLost_brake (s : State) : (wheelsLost s).brake.state = .waitClear ∧ (wheelsLost s).brake.openTrace = none
    ∧ (wheelsLost s).brake.axle = s.brake.axle := by
  have hb : (raiseEvent .wheelsLost (abortAttempt .wheelsLost s)).brake = (abortAttempt .wheelsLost s).brake := rfl
  unfold wheelsLost
  rw [enterWaitClear_brake, hb, (abortAttempt_brake .wheelsLost s).2]
  exact ⟨rfl, rfl, rfl⟩

theorem runsOff_wheelsLost (s : State) : RunsOff (wheelsLost s) :=
  (runsOff_abortAttempt .wheelsLost s).of_outputs
    (congrArg Signals.outputs (enterWaitClear_sig (raiseEvent .wheelsLost (abortAttempt .wheelsLost s))))

theorem wheelsLost_vt (s : State) : (wheelsLost s).vt = (abortAttempt .wheelsLost s).vt :=
  (enterWaitClear_table (raiseEvent .wheelsLost (abortAttempt .wheelsLost s))).1

/-- Settles O37: the wheels' edges set and cancel expiries, after which nothing follows; a lost wheel aborts an attempt,
after which only Guidance follows. -/
theorem wheelEdgesTimeAndAbort : Obligations.WheelEdgesTimeAndAbort := by
  intro w s u t0 hc
  refine ⟨fun he hs hp ho => ?_, fun he hs => ?_, fun he hs => ?_, fun he hs ho => ?_, fun v n a he hs hv hn ha => ?_⟩
  all_goals
    have hcu := calm_takeEdge he hc
    obtain ⟨hvt, -, hbr, -⟩ := takeEdge_frame he
    rw [← hbr] at hs
  · have hk := wheelCame_waitWheels (t := t0) hs ho (hbr ▸ hp)
    rw [← hbr]
    exact exec_edge_calm he hk (calm_withBrake hcu rfl)
  · rw [← hbr]
    exact exec_edge_calm he (wheelCame_waitClear hs) (calm_withBrake hcu rfl)
  · rw [← hbr]
    exact exec_edge_calm he (wheelWent_waitWheels hs) (calm_withBrake hcu rfl)
  · rw [← hbr]
    exact exec_edge_calm he (wheelWent_waitClear hs ho) (calm_withBrake hcu rfl)
  · have hk : onEdge (wheelFn w) false (wheelWent w) s = wheelsLost u := (onEdge_taken he).trans (wheelWent_attempt hs)
    obtain ⟨hrest, -⟩ := (stationOnly_wheelsLost u).settles hcu
    obtain ⟨hl, hr⟩ := runsOff_settle (runsOff_wheelsLost u)
    obtain ⟨h1, h2, h3⟩ := wheelsLost_brake u
    have hax := axle_abortAttempt .wheelsLost (hbr ▸ hv) (hbr ▸ hn) ((record_of_vt hvt v).symm ▸ ha)
    refine ⟨_, congrArg finish hk, ?_, hl, hr, ?_, ?_, ?_⟩
    · rw [hrest.brake, h1]
    · rw [hrest.brake, h2]
    · rw [hrest.brake, h3, hbr, hn]
    · rw [record_of_vt hrest.vt, record_of_vt (wheelsLost_vt u), hax]

/-! ## Drive-ready and ESTOP edges -/

theorem calm_setRun {s : State} (on : Bool) (hc : Calm s) : Calm (setRun on s) := Calm.of_eq hc rfl rfl rfl rfl rfl

/-- R80: entry into FAULT and what follows it. -/
theorem settle_enterFault (c : BrakeCause) {s : State} (hc : Calm s) (hs : s.brake.state ≠ .fault) :
    RunsOff (settle (enterFault c s)) ∧ (settle (enterFault c s)).brake = (enterFault c s).brake :=
  ⟨runsOff_settle (runsOff_enterFault_out c hs), ((stationOnly_enterFault c s).settles hc).1.brake⟩

/-- Settles O38: the outputs go ON with the edge alone, and a fault takes them OFF. -/
theorem driveReadyAndEstopSwitchTheRollers : Obligations.DriveReadyAndEstopSwitchTheRollers := by
  intro w s u t0 hc
  refine ⟨fun he hs hl hr => ?_, fun he hl hs => ?_, fun he hl => ?_, fun he hs => ?_, fun he hs => ?_, fun he => ?_⟩
  all_goals
    have hcu := calm_takeEdge he hc
    obtain ⟨-, -, hbr, -⟩ := takeEdge_frame he
    have hout : u.sig.outputs = s.sig.outputs := by rw [takeEdge_eq he]
  · have hk : driveCame u = setRun true u := by
      unfold driveCame
      rw [hbr, hs, hout, hl, hr]
      rfl
    exact exec_edge_calm he hk (calm_setRun true hcu)
  · have hk : driveWent u = enterFault .driveNotReady u := by
      unfold driveWent
      rw [hout, hl]
      rfl
    have hsu : u.brake.state ≠ .fault := by rw [hbr]; exact hs
    obtain ⟨⟨h1, h2⟩, hb⟩ := settle_enterFault .driveNotReady hcu hsu
    obtain ⟨hst, hcause, -⟩ := enterFault_brake .driveNotReady u hsu
    exact ⟨_, congrArg finish ((onEdge_taken he).trans hk), (congrArg _ hb).trans hst,
      (congrArg _ hb).trans hcause, h1, h2⟩
  · have hk : driveWent u = u := by
      unfold driveWent
      rw [hout, hl]
      rfl
    exact exec_edge_calm he hk hcu
  · have hsu : u.brake.state ≠ .fault := by rw [hbr]; exact hs
    obtain ⟨⟨h1, h2⟩, hb⟩ := settle_enterFault .estop hcu hsu
    obtain ⟨hst, hcause, -, -, hspin, hstop, hbraking, hpresence, hclear⟩ := enterFault_brake .estop u hsu
    exact ⟨_, congrArg finish (onEdge_taken he), (congrArg _ hb).trans hst, (congrArg _ hb).trans hcause, h1,
      h2, (congrArg _ hb).trans hspin, (congrArg _ hb).trans hstop, (congrArg _ hb).trans hbraking,
      (congrArg _ hb).trans hpresence, (congrArg _ hb).trans hclear⟩
  · exact exec_edge_calm he (enterFault_in_fault .estop u (hbr ▸ hs)) hcu
  · exact exec_edge_calm he rfl hcu

end Sys2Proof.Machine
end

section
/-! SUPPORT. The result of a phase (R76), the head's leaving (R20, R23), and the brake station's expiries (R71, R74 to R77):
O41. -/

namespace Sys2Proof.Machine

/-! ## What a leaving head keeps -/

/-- R23: the entries of a record that becomes COMPLETE stay. -/
theorem axle_completed {r : Record} {n : Nat} {a : Axle} (h : r.axle n = some a) (c : Option ClassEntry) (t : LaneTime) :
    (r.completed c t).axle n = some a := by
  unfold Record.axle at h ⊢
  split at h
  · cases h
  · next hn =>
    rw [if_neg hn]
    exact List.getElem?_append_left (l₂ := missingAxles r) (List.getElem?_eq_some_iff.mp h).1 ▸ h

theorem axle_completeHead {s : State} {v n : Nat} {a : Axle} (h : (s.record v).axle n = some a) (c : LeaveCause) :
    ((completeHead c s).record v).axle n = some a := by
  cases hq : s.vt.queue with
  | nil =>
    have e : completeHead c s = s := by unfold completeHead; rw [hq]
    rw [e, h]
  | cons k rest =>
    rw [record_completeHead c hq]
    split
    · next hk => rw [← hk.1]; exact axle_completed h _ _
    · exact h

theorem axle_evaluateLeaving {s : State} {v n : Nat} {a : Axle} (h : (s.record v).axle n = some a) :
    ((evaluateLeaving s).record v).axle n = some a := by
  unfold evaluateLeaving
  split
  · exact axle_completeHead h _
  · exact h

/-! ## The result (R76 steps 1 to 3) -/

theorem closePhaseTrace_brake (s : State) : (closePhaseTrace s).brake = { s.brake with openTrace := none } := by
  unfold closePhaseTrace
  split
  · next h => rw [← h]
  · rw [State.onBrake_brake, closeTrace_eq]

theorem stationOnly_closePhaseTrace (s : State) : StationOnly s (closePhaseTrace s) := by
  unfold closePhaseTrace
  split
  · exact .refl s
  · exact (stationOnly_closeTrace _ _ s).trans (stationOnly_onBrake _ _)

theorem laneOnly_writeResult (v n : Nat) (s : State) : LaneOnly s (writeResult v n s) := by
  unfold writeResult
  extract_lets r s1
  have h1 : LaneOnly s s1 := (stationOnly_writeRec _ _ s).lane.trans (laneOnly_evaluateLeaving _)
  have h2 : StationOnly s1 (raiseEvent .axleDone (noticeTested none (some r) (closePhaseTrace s1))) :=
    (stationOnly_closePhaseTrace s1).trans ((brakeOnly_noticeTested _ _ _).trans (brakeOnly_hand _ _)).station
  exact h1.trans h2.lane

theorem writeResult_brake (v n : Nat) (s : State) :
    (writeResult v n s).brake = { s.brake with openTrace := none } := by
  unfold writeResult
  extract_lets r s1
  have h1 : s1.brake = s.brake := (evaluateLeaving_stations _).2
  have h2 : (noticeTested none (some r) (closePhaseTrace s1)).brake = (closePhaseTrace s1).brake := by
    rw [noticeTested_eq]
  exact (h2.trans (closePhaseTrace_brake s1)).trans (by rw [h1])

theorem axle_writeResult {v n : Nat} {s : State} {a : Axle} (ha : (s.record v).axle n = some a) :
    ((writeResult v n s).record v).axle n = some (a.withResult s.brake.phase (axleResult s)) := by
  unfold writeResult
  extract_lets r s1
  have h1 : (s1.record v).axle n = some (a.withResult s.brake.phase (axleResult s)) :=
    axle_evaluateLeaving (axle_writeAxle v n _ s a ha)
  have h2 : (raiseEvent .axleDone (noticeTested none (some r) (closePhaseTrace s1))).vt = s1.vt :=
    (noticeTested_table none (some r) (closePhaseTrace s1)).1.trans (closePhaseTrace_table s1).1
  rw [record_of_vt h2]
  exact h1

/-! ## A change of head that an operation left -/

theorem settleHead_attempt {s : State} (h : s.brake.state.attempt = true) : (settleHead s).brake = s.brake := by
  unfold settleHead
  split
  · rw [headChanged_attempt (by exact h)]; rfl
  · rfl

/-- R77: in WAIT_CLEAR a change of head drops the axle. -/
theorem settleHead_waitClear {s : State} (h : s.brake.state = .waitClear) :
    ∃ a, (settleHead s).brake = { s.brake with axle := a } := by
  unfold settleHead
  split
  · have e : ∀ f, headChanged (s.onWork f) = dropAxle (s.onWork f) := fun f => by
      unfold headChanged; rw [State.onWork_brake, h]
    rw [e]
    exact ⟨none, rfl⟩
  · exact ⟨s.brake.axle, rfl⟩

/-- R80: a change of head does not end FAULT. -/
theorem settleHead_fault {s : State} (h : s.brake.state = .fault) :
    (settleHead s).brake.state = .fault ∧ (settleHead s).brake.cause = s.brake.cause := by
  unfold settleHead
  split
  · have e : ∀ f, headChanged (s.onWork f) = setVehicle s.vt.queue.head? (dropAxle (s.onWork f)) := fun f => by
      unfold headChanged; rw [State.onWork_brake, h]; rfl
    rw [e, setVehicle_brake]
    exact ⟨h, rfl⟩
  · exact ⟨h, rfl⟩

/-! ## The expiries -/

/-- R75, R78: the stop timeout of an attempt aborts nothing. -/
theorem brakeOnly_stopFault (s : State) : BrakeOnly s (enterFault .rollerStopTimeout s) := by
  unfold enterFault
  split
  · exact .refl s
  · rw [if_neg (by simp)]
    exact (((brakeOnly_setRun false s).trans (brakeOnly_onBrake _ _)).trans (brakeOnly_enterState _ _)).trans
      ((brakeOnly_hand _ _).trans (brakeOnly_sendNotice _ _))

theorem spinUpExpired_due {s : State} (hs : s.brake.state = .spinUp) (hd : s.due s.brake.spinUp = true) :
    spinUpExpired s = enterFault .spinUpTimeout s := by unfold spinUpExpired; rw [hs, hd]; rfl

theorem brakingExpired_due {s : State} (hs : s.brake.state = .braking) (hd : s.due s.brake.braking = true) :
    brakingExpired s = endBraking .timeout none s := by unfold brakingExpired; rw [hs, hd]; rfl

theorem stopExpired_due {s : State} {v n : Nat} (hs : s.brake.state = .stopping) (hd : s.due s.brake.stop = true)
    (hv : s.brake.vehicle = some v) (hn : s.brake.axle = some n) :
    stopExpired s = enterFault .rollerStopTimeout (writeResult v n s) := by
  unfold stopExpired; rw [hs, hd, currentAxle_eq hv hn]; rfl

/-- R77: the rollers are clear and no axle is in hand. -/
def rollersClear (s : State) : State := dropAxle (s.onBrake fun b => { b with clear := none })

theorem clearExpired_due {s : State} (hs : s.brake.state = .waitClear) (hd : s.due s.brake.clear = true) :
    clearExpired s = takeHead (rollersClear s) := by unfold clearExpired; rw [hs, hd]; rfl

theorem brakeOnly_headTaken (s : State) : BrakeOnly s (takeHead (rollersClear s)) :=
  ((brakeOnly_onBrake _ s).trans (brakeOnly_dropAxle _)).trans (brakeOnly_takeHead _)

/-- A change of the brake station on a part at rest leaves the Vehicle Table, and what follows leaves the station. -/
theorem BrakeOnly.settles {s t : State} (h : BrakeOnly s t) (hc : Calm s) :
    (settle t).vt = s.vt ∧ (settle t).brake = t.brake :=
  settle_brakeOnly hc.writesRest (by rw [hc.1]; rfl) (by rw [hc.1]; rfl) (by rw [hc.1]; rfl) h

/-- Settles O41: each expiry that is due ends its state, and what follows leaves what it did. -/
theorem brakeExpiriesEndTheirStates : Obligations.BrakeExpiriesEndTheirStates := by
  intro s hc
  refine ⟨fun hs hd => ?_, fun hs hd => ?_, fun v n a hs hd hb hv hn ha => ?_, fun hs hd hq => ?_,
    fun k rest hs hd hq => ?_⟩
  · have hne : s.brake.state ≠ .fault := by rw [hs]; decide
    obtain ⟨⟨hl, hr⟩, hbr⟩ := settle_enterFault .spinUpTimeout hc hne
    obtain ⟨h1, h2, -, -, h3, -⟩ := enterFault_brake .spinUpTimeout s hne
    exact ⟨_, congrArg finish (spinUpExpired_due hs hd), (congrArg _ hbr).trans h1, (congrArg _ hbr).trans h2, hl, hr,
      (congrArg _ hbr).trans h3⟩
  · obtain ⟨hvt, hbr⟩ := (brakeOnly_endBraking .timeout none s).settles hc
    have hoff : RunsOff (settle (endBraking .timeout none s)) := runsOff_settle (runsOff_endBraking _ _ s)
    rw [endBraking_brake] at hbr
    exact ⟨_, congrArg finish (brakingExpired_due hs hd), congrArg _ hbr, congrArg (fun b => b.run.endCause) hbr, hoff.1,
      hoff.2, congrArg _ hbr, congrArg _ hbr, congrArg _ hbr, congrArg _ hbr, hvt⟩
  · have hw : (writeResult v n s).brake.state ≠ .fault := by
      rw [writeResult_brake]
      exact ne_of_eq_of_ne hs (by decide)
    obtain ⟨h1, h2, -⟩ := enterFault_brake .rollerStopTimeout (writeResult v n s) hw
    have hfault := brakeOnly_stopFault (writeResult v n s)
    obtain ⟨hvt, hrest⟩ := ((laneOnly_writeResult v n s).trans hfault.station.lane).settles hc hb
    obtain ⟨h3, h4⟩ := settleHead_fault h1
    have hrec := hvt.trans (show (enterFault .rollerStopTimeout (writeResult v n s)).vt = (writeResult v n s).vt by
      obtain ⟨b, o, p, l, e⟩ := hfault; rw [e])
    refine ⟨_, axleResult s, _, congrArg finish (stopExpired_due hs hd hv hn), ?_, ?_, ?_, rfl, rfl, rfl, rfl, rfl, rfl,
      rfl⟩
    · rw [hrest.brake, h3]
    · rw [hrest.brake, h4, h2]
    · rw [record_of_vt hrec, axle_writeResult ha]
  · obtain ⟨hvt, hbr⟩ := (brakeOnly_headTaken s).settles hc
    rw [takeHead_brake_none (s := rollersClear s) hq] at hbr
    exact ⟨_, congrArg finish (clearExpired_due hs hd), congrArg _ hbr, congrArg _ hbr, congrArg _ hbr, congrArg _ hbr,
      hvt⟩
  · obtain ⟨hvt, hbr⟩ := (brakeOnly_headTaken s).settles hc
    rw [takeHead_brake_some (s := rollersClear s) hq] at hbr
    exact ⟨_, congrArg finish (clearExpired_due hs hd), congrArg _ hbr, congrArg _ hbr, congrArg _ hbr, congrArg _ hbr,
      hvt⟩

end Sys2Proof.Machine
end

section
/-! SUPPORT. Skips and releases (R21, R22, R84, R85), and the station requests of Guidance (R83, R134): O42. -/

namespace Sys2Proof.Machine

/-! ## A skip (R22, R84) -/

/-- R84: the axle in hand during an attempt is the current one. -/
theorem axle_of_inHand {s : State} {n : Nat} (h : axleInHand s = some n) (ha : s.brake.state.attempt = true) :
    s.brake.axle = some n := by
  unfold axleInHand at h
  split at h
  · next m hm => rw [hm, h]
  · split at h
    · next hs => rw [beq_iff_eq.mp hs] at ha; cases ha
    · cases h

theorem axleOf_eq {s : State} {v n : Nat} {a : Axle} (ha : (s.record v).axle n = some a) : s.axleOf v n = a := by
  unfold State.axleOf; rw [ha]; rfl

theorem skippable_some {s : State} {v n : Nat} {a : Axle} (hv : s.brake.vehicle = some v) (hn : axleInHand s = some n)
    (ha : (s.record v).axle n = some a) (hf : a.finished = false) (hk : a.skip = none) : skippable s = some (v, n) := by
  have hof : s.axleOf v n = a := axleOf_eq ha
  unfold skippable
  rw [hv, hn]
  dsimp only
  rw [hof, hf, hk]
  rfl

theorem skippable_none {s : State} (hn : axleInHand s = none) : skippable s = none := by
  unfold skippable
  rw [hn]
  cases s.brake.vehicle <;> rfl

/-- R84: an axle marked skipped, and the head's leaving looked at. -/
def skipMarkedOn (c : SkipCause) (v n : Nat) (s : State) : State := evaluateLeaving (markSkipped v n c s)

/-- R84, R85: an attempt is aborted before its axle is skipped. -/
def skipCarried (c : SkipCause) (v n : Nat) (s : State) : State :=
  if s.brake.state.attempt then enterWaitClear (skipMarkedOn c v n (abortAttempt .skipped s)) else skipMarkedOn c v n s

theorem skipAxle_eq (c : SkipCause) (v n : Nat) (s : State) :
    skipAxle c v n s = raiseVehicleDone v s (skipCarried c v n s) := rfl

theorem brakeOnly_raiseVehicleDone (v : Nat) (b s : State) : BrakeOnly s (raiseVehicleDone v b s) := by
  unfold raiseVehicleDone
  split
  · exact brakeOnly_hand _ s
  · exact .refl s

theorem laneOnly_skipMarkedOn (c : SkipCause) (v n : Nat) (s : State) : LaneOnly s (skipMarkedOn c v n s) :=
  (stationOnly_writeRec _ _ s).lane.trans (laneOnly_evaluateLeaving _)

theorem laneOnly_skipAxle (c : SkipCause) (v n : Nat) (s : State) : LaneOnly s (skipAxle c v n s) := by
  have carried : LaneOnly s (skipCarried c v n s) := by
    unfold skipCarried
    split
    · exact ((stationOnly_abortAttempt .skipped s).lane.trans (laneOnly_skipMarkedOn c v n _)).trans
        (brakeOnly_enterWaitClear _).station.lane
    · exact laneOnly_skipMarkedOn c v n s
  rw [skipAxle_eq]
  exact carried.trans (brakeOnly_raiseVehicleDone v s _).station.lane

/-- R22: an entry not skipped before takes the cause. -/
theorem axle_skipMarkedOn {c : SkipCause} {v n : Nat} {s : State} {a : Axle} (ha : (s.record v).axle n = some a)
    (hk : a.skip = none) : ((skipMarkedOn c v n s).record v).axle n = some { a with skip := some c } := by
  have h := axle_evaluateLeaving (axle_writeAxle v n (fun a => { a with skip := some (a.skip.getD c) }) s a ha)
  rw [hk] at h
  exact h

/-- R84: the skip with its cause, and the results as they were. -/
theorem axle_skipAxle {c : SkipCause} {v n : Nat} {s : State} {a : Axle} (hv : s.brake.vehicle = some v)
    (hn : axleInHand s = some n) (ha : (s.record v).axle n = some a) (hk : a.skip = none) :
    ∃ b, ((skipAxle c v n s).record v).axle n = some b ∧ b.skip = some c ∧ b.service = a.service
      ∧ b.parkingResult = a.parkingResult := by
  rw [skipAxle_eq, record_of_vt (raiseVehicleDone_table v s (skipCarried c v n s)).1]
  unfold skipCarried
  split
  · next hat =>
    have haborted := axle_abortAttempt .skipped hv (axle_of_inHand hn hat) ha
    rw [record_of_vt (enterWaitClear_table (skipMarkedOn c v n (abortAttempt .skipped s))).1,
      axle_skipMarkedOn haborted hk]
    exact ⟨_, rfl, rfl, rfl, rfl⟩
  · rw [axle_skipMarkedOn ha hk]
    exact ⟨_, rfl, rfl, rfl, rfl⟩

/-- R85: a skip during an attempt leaves the station in WAIT_CLEAR with the rollers OFF. -/
theorem skipAxle_attempt (c : SkipCause) (v n : Nat) {s : State} (h : s.brake.state.attempt = true) :
    (skipAxle c v n s).brake.state = .waitClear ∧ RunsOff (skipAxle c v n s) := by
  have e : skipCarried c v n s = enterWaitClear (skipMarkedOn c v n (abortAttempt .skipped s)) := if_pos h
  have hmark : SameViews (abortAttempt .skipped s) (skipMarkedOn c v n (abortAttempt .skipped s)) :=
    (sameViews_writeRec v _ _).trans (sameViews_evaluateLeaving _)
  have hoff : RunsOff (enterWaitClear (skipMarkedOn c v n (abortAttempt .skipped s))) :=
    ((runsOff_abortAttempt .skipped s).of_views hmark).of_outputs (by rw [enterWaitClear_sig])
  have hdone := sameViews_raiseVehicleDone v s (skipCarried c v n s)
  have hst : (skipCarried c v n s).brake.state = .waitClear := by rw [e, enterWaitClear_brake]
  rw [skipAxle_eq]
  exact ⟨(congrArg Rollers.state hdone.1).trans hst, (e ▸ hoff : RunsOff (skipCarried c v n s)).of_views hdone⟩

/-! ## A release (R21, R85) -/

theorem releasable_head {s : State} {k : Nat} {q : List Nat} (h : s.vt.queue = k :: q) :
    releasable s = (s.record k).entryDone := by unfold releasable; rw [h]; rfl

theorem releasable_empty {s : State} (h : s.vt.queue = []) : releasable s = false := by unfold releasable; rw [h]; rfl

/-- R78, R15: a write to an axle's entry leaves the queue, and of a record its entry_done. -/
theorem writeAxle_lane (v n : Nat) (f : Axle → Axle) (s : State) : (writeAxle v n f s).vt.queue = s.vt.queue
    ∧ ∀ k, ((writeAxle v n f s).record k).entryDone = (s.record k).entryDone := by
  refine ⟨rfl, fun k => ?_⟩
  unfold writeAxle
  rw [record_writeRec]
  split <;> rfl

theorem abortAttempt_lane (r : AbortReason) (s : State) : (abortAttempt r s).vt.queue = s.vt.queue
    ∧ ∀ k, ((abortAttempt r s).record k).entryDone = (s.record k).entryDone := by
  unfold abortAttempt
  extract_lets s1 s2 s3
  have h2 : s2.vt = s.vt := (abortTrace_table s.brake.openTrace s1).1
  have h3 : s3.vt.queue = s2.vt.queue ∧ ∀ k, (s3.record k).entryDone = (s2.record k).entryDone := by
    unfold s3
    split
    · exact writeAxle_lane _ _ _ s2
    · exact ⟨rfl, fun _ => rfl⟩
  have h4 := (noticeTested_table (some r) none s3).1
  refine ⟨by rw [h4, h3.1, h2], fun k => ?_⟩
  rw [record_of_vt h4, h3.2, record_of_vt h2]

/-- R85: the station as the release of its vehicle leaves it. -/
def releasedStation (s : State) : State :=
  if s.brake.state.attempt && s.brake.vehicle == s.vt.queue.head? then enterWaitClear (abortAttempt .released s) else s

theorem carryRelease_eq (s : State) : carryRelease s = releaseHead (releasedStation s) := rfl

theorem stationOnly_releasedStation (s : State) : StationOnly s (releasedStation s) := by
  unfold releasedStation
  split
  · exact (stationOnly_abortAttempt .released s).trans (brakeOnly_enterWaitClear _).station
  · exact .refl s

theorem releasedStation_lane (s : State) : (releasedStation s).vt.queue = s.vt.queue
    ∧ ∀ k, ((releasedStation s).record k).entryDone = (s.record k).entryDone := by
  unfold releasedStation
  split
  · have e := (enterWaitClear_table (abortAttempt .released s)).1
    obtain ⟨hq, hr⟩ := abortAttempt_lane .released s
    exact ⟨by rw [e, hq], fun k => by rw [record_of_vt e, hr]⟩
  · exact ⟨rfl, fun _ => rfl⟩

theorem laneOnly_carryRelease (s : State) : LaneOnly s (carryRelease s) := by
  rw [carryRelease_eq]
  refine (stationOnly_releasedStation s).lane.trans ?_
  unfold releaseHead
  split
  · exact (StationOnly.refl _).lane
  · exact (stationOnly_writeRec _ _ _).lane.trans (laneOnly_completeHead _ _)

theorem markUntested_tested (a : Axle) : (markUntested a).finished = true ∨ (markUntested a).skip ≠ none := by
  unfold markUntested
  split
  · next h =>
    rcases Bool.or_eq_true_iff.mp h with h | h
    · exact .inl h
    · exact .inr (Option.isSome_iff_ne_none.mp h)
  · exact .inr (Option.some_ne_none _)

/-- R23 step 2: the entries added for the missing numbers are skipped. -/
theorem missingAxles_skipped {r : Record} {a : Axle} (h : a ∈ missingAxles r) : a.skip ≠ none := by
  unfold missingAxles at h
  split at h
  · cases h
  · obtain ⟨k, -, rfl⟩ := List.mem_map.mp h
    exact Option.some_ne_none _

/-- R21, R23: the released head is COMPLETE, with no untested axle left, and the rest of the queue follows. -/
theorem carryRelease_vt {s : State} {k : Nat} {q : List Nat} (hq : s.vt.queue = k :: q)
    (he : (s.record k).entryDone = true) : (carryRelease s).vt.queue = q ∧ (carryRelease s).vt.exitClear = false
      ∧ ((carryRelease s).record k).state = .complete
      ∧ ∀ a ∈ ((carryRelease s).record k).axles, a.finished = true ∨ a.skip ≠ none := by
  obtain ⟨hq', hr'⟩ := releasedStation_lane s
  let w := writeRec k (fun r => { r with axles := r.axles.map markUntested }) (releasedStation s)
  have hk : k < (releasedStation s).vt.records.length := by
    by_contra hn
    have hnone := hr' k
    rw [record_none _ k (Nat.not_lt.mp hn), he] at hnone
    cases hnone
  have hw : w.vt.queue = k :: q := hq'.trans hq
  have hlen : k < w.vt.records.length := by simpa [w, writeRec, modRec, tableMod] using hk
  have e : carryRelease s = completeHead .released w := by
    rw [carryRelease_eq]
    unfold releaseHead
    rw [hq', hq]
    rfl
  have hrec : (carryRelease s).record k = (w.record k).completed (classEntry w (w.record k).cls) w.now := by
    rw [e, record_completeHead .released hw, if_pos ⟨rfl, hlen⟩]
  have haxles : (w.record k).axles = ((releasedStation s).record k).axles.map markUntested := by
    rw [show w.record k = _ from record_writeRec_same hk]
  refine ⟨?_, ?_, ?_, fun a ha => ?_⟩
  · rw [e]; exact congrArg LaneView.queue (completeHead_laneView .released hw)
  · rw [e]; unfold completeHead; rw [hw]; rfl
  · rw [hrec]; rfl
  · rw [hrec] at ha
    rcases List.mem_append.mp ha with ha | ha
    · rw [haxles] at ha
      obtain ⟨b, -, rfl⟩ := List.mem_map.mp ha
      exact markUntested_tested b
    · exact .inr (missingAxles_skipped ha)

/-! ## The requests of Guidance (R134) -/

/-- R134: the request at the front taken. -/
def requestTaken (rest : List StationRequest) (s : State) : State := s.onGuide fun g => { g with requests := rest }

theorem onRequest_front {r : StationRequest} {rest : List StationRequest} {s : State} (h : s.guide.requests = r :: rest)
    (k : State → State) : onRequest r k s = k (requestTaken rest s) := by
  unfold onRequest takeRequest
  rw [h]
  simp [requestTaken]

theorem onRequest_other {r q : StationRequest} {rest : List StationRequest} {s : State}
    (h : s.guide.requests = q :: rest) (hne : q ≠ r) (k : State → State) : onRequest r k s = s := by
  unfold onRequest takeRequest
  rw [h]
  simp [hne]

theorem onRequest_none {r : StationRequest} {s : State} (h : s.guide.requests = []) (k : State → State) :
    onRequest r k s = s := by
  unfold onRequest takeRequest
  rw [h]

theorem calm_requestTaken {s : State} (hc : Calm s) (rest : List StationRequest) : Calm (requestTaken rest s) :=
  Calm.of_eq hc rfl rfl rfl rfl rfl

/-- R83: the current axle of an attempt or of a fault is marked for the parking phase. -/
theorem markParking_marks {s : State} {v n : Nat} {a : Axle} (hs : s.brake.state.attempt = true ∨ s.brake.state = .fault)
    (hv : s.brake.vehicle = some v) (hn : s.brake.axle = some n) (ha : (s.record v).axle n = some a) :
    (∃ t, markParking s = { s with vt := t }) ∧ ((markParking s).record v).axle n = some { a with parking := true } := by
  have hst : (s.brake.state.attempt || s.brake.state == .fault) = true := by simpa using hs
  have hof : s.axleOf v n = a := axleOf_eq ha
  unfold markParking
  rw [currentAxle_eq hv hn]
  dsimp only
  rw [hst, hof]
  cases hp : a.parking with
  | true =>
    have e : { a with parking := true } = a := by rw [← hp]
    exact ⟨⟨s.vt, rfl⟩, by rw [e]; exact ha⟩
  | false => exact ⟨⟨_, rfl⟩, axle_writeAxle v n _ s a ha⟩

/-- R181: where nothing is owed, only the collection is looked at. -/
theorem settle_owing_none {s : State} (hw : WritesRest s) (h : s.work = Work.none) : settle s = guardCollection s := by
  obtain ⟨c, r, hg⟩ := guardCollection_eq s
  have hwork : (guardCollection s).work = Work.none := by rw [hg]; exact h
  have hguide : settleGuidance (guardCollection s) = guardCollection s := by
    simp only [settleGuidance, hwork, Work.none, List.foldl_nil]
    exact onWork_none _ hwork
  rw [settle_unowed hw (congrArg Work.headMoved h) (congrArg Work.retry h) (congrArg Work.rematch h), hguide]

theorem endBraking_owes_nothing (c : EndCause) (s : State) : (endBraking c none s).work = s.work
    ∧ (endBraking c none s).cal = s.cal ∧ (endBraking c none s).guide = s.guide := by
  unfold endBraking
  rw [enterState_eq]
  exact ⟨rfl, rfl, rfl⟩

/-- Settles O42: the request at the front is carried out, and another one changes nothing. -/
theorem guidanceRequestsAreCarriedOut : Obligations.GuidanceRequestsAreCarriedOut := by
  intro s rest hc
  have unchanged : ∀ {r k}, onRequest r k s = s → finish (onRequest r k s) = .next s := fun h => by
    rw [h, finish_calm s hc]
  have hcu := calm_requestTaken hc rest
  refine ⟨fun v n a hr hs hv hn ha => ?_, fun hr hs => ?_, fun v n a hr hb hv hn ha hf hk => ?_,
    fun k q hr hq hb he => ?_, fun r hr => ?_, fun hr => ?_⟩
  · obtain ⟨⟨t, ht⟩, hax⟩ := markParking_marks (s := requestTaken rest s) hs hv hn ha
    refine ⟨markParking (requestTaken rest s), ?_, by rw [ht]; rfl, by rw [ht]; rfl, hax⟩
    have hcalm : Calm (markParking (requestTaken rest s)) := by rw [ht]; exact calm_withVt hcu t
    exact (congrArg finish (onRequest_front hr markParking)).trans (finish_calm _ hcalm)
  · have e : endAxle (requestTaken rest s) = endBraking .guidanceEnd none (requestTaken rest s) :=
      if_pos (beq_iff_eq.mpr hs)
    obtain ⟨hwork, hcal, hguide⟩ := endBraking_owes_nothing .guidanceEnd (requestTaken rest s)
    have hset : settle (endBraking .guidanceEnd none (requestTaken rest s))
        = guardCollection (endBraking .guidanceEnd none (requestTaken rest s)) :=
      settle_owing_none (by unfold WritesRest; rw [hcal]; exact hcu.writesRest) (hwork.trans hcu.1)
    have hoff := (runsOff_endBraking .guidanceEnd none (requestTaken rest s)).of_views (sameViews_guardCollection _)
    have hbr := ((guardCollection_stations (endBraking .guidanceEnd none (requestTaken rest s))).2).trans
      (endBraking_brake _ _ _)
    obtain ⟨c, p, hg⟩ := guardCollection_eq (endBraking .guidanceEnd none (requestTaken rest s))
    refine ⟨_, (congrArg finish ((onRequest_front hr endAxle).trans e)).trans (congrArg Host.Outcome.next hset), ?_,
      congrArg _ hbr, congrArg (fun b => b.run.endCause) hbr, hoff.1, hoff.2⟩
    rw [hg]
    exact congrArg Guidance.requests hguide
  · have e : guidanceSkip (requestTaken rest s) = skipAxle .guidance v n (requestTaken rest s) := by
      unfold guidanceSkip
      rw [skippable_some (s := requestTaken rest s) hv hn ha hf hk]
    obtain ⟨b, h1, h2, h3, h4⟩ := axle_skipAxle (c := .guidance) (s := requestTaken rest s) hv hn ha hk
    obtain ⟨hvt, hrest⟩ := (laneOnly_skipAxle .guidance v n (requestTaken rest s)).settles hcu hb
    refine ⟨_, b, congrArg finish ((onRequest_front hr guidanceSkip).trans e), ?_, h2, h3, h4, fun hat => ?_⟩
    · rw [record_of_vt hvt, h1]
    · obtain ⟨hst, hoff⟩ := skipAxle_attempt .guidance v n (s := requestTaken rest s) hat
      obtain ⟨ax, hax⟩ := settleHead_waitClear hst
      refine ⟨?_, (runsOff_settle hoff).1⟩
      rw [hrest.brake, hax]
      exact hst
  · have e : guidanceRelease (requestTaken rest s) = carryRelease (requestTaken rest s) :=
      if_pos ((releasable_head (s := requestTaken rest s) hq).trans he)
    obtain ⟨h1, h2, h3, -⟩ := carryRelease_vt (s := requestTaken rest s) hq he
    obtain ⟨hvt, -⟩ := (laneOnly_carryRelease (requestTaken rest s)).settles hcu hb
    exact ⟨_, congrArg finish ((onRequest_front hr guidanceRelease).trans e), by rw [hvt, h1],
      by rw [record_of_vt hvt, h3], by rw [hvt, h2]⟩
  · exact ⟨fun h => unchanged (onRequest_other hr h _), fun h => unchanged (onRequest_other hr h _),
      fun h => unchanged (onRequest_other hr h _), fun h => unchanged (onRequest_other hr h _)⟩
  · exact ⟨unchanged (onRequest_none hr _), unchanged (onRequest_none hr _), unchanged (onRequest_none hr _),
      unchanged (onRequest_none hr _)⟩

end Sys2Proof.Machine
end

section
/-! SUPPORT. The station requests of the host (R21, R81, R84): O43. -/

namespace Sys2Proof.Machine

/-! ## The owner's view -/

@[simp] theorem atOwner_axleInHand (i : Instr) (s : State) : axleInHand (atOwner i s) = axleInHand s := by
  rw [atOwner_eq]; rfl

@[simp] theorem atOwner_queue (i : Instr) (s : State) : (atOwner i s).vt.queue = s.vt.queue := by rw [atOwner_eq]

@[simp] theorem atOwner_inputActive (i : Instr) (f : LineFn) (s : State) :
    inputActive f (atOwner i s) = inputActive f s := by rw [atOwner_eq]; rfl

@[simp] theorem atOwner_wheelsOn (i : Instr) (s : State) : wheelsOn (atOwner i s) = wheelsOn s := by
  rw [atOwner_eq]; rfl

theorem laneOnly_postReply (k t : Nat) (st : Status) (b : ReplyBody) (s : State) : LaneOnly s (postReply k t st b s) :=
  ⟨s.brake, s.sig.outputs, s.vt, s.traces, _, s.work, rfl, rfl⟩

theorem brakeOnly_postReply (k t : Nat) (st : Status) (b : ReplyBody) (s : State) : BrakeOnly s (postReply k t st b s) :=
  ⟨s.brake, s.sig.outputs, _, s.work.items, rfl⟩

/-- R191: what an accepted request did to the Vehicle Table stands, its reply placed and what follows done. -/
theorem answered_vt {i : Instr} {k t : Nat} {b : ReplyBody} {s u : State} (h : LaneOnly (atOwner i s) u) (hc : Calm s)
    (hb : s.entry.blocked = false) : (settle (postReply k t .ok b u)).vt = u.vt :=
  ((h.trans (laneOnly_postReply k t .ok b u)).settles (calm_atOwner i s hc) (by rw [atOwner_entry]; exact hb)).1

/-! ## ACK_FAULT (R81) -/

/-- R81: the fault's cause and the axle given up, and the notice sent. -/
def acknowledged (s : State) : State :=
  noticeFault (s.brake.cause.getD .estop) false (dropAxle (s.onBrake fun b => { b with cause := none }))

theorem ackFault_taken {s : State} (hs : s.brake.state = .fault) (he : inputActive .estop s = false) :
    ackFault s = accept (takeHead (acknowledged s)) := by
  unfold ackFault
  rw [hs, he]
  rfl

theorem ackFault_refused {s : State} (h : s.brake.state ≠ .fault ∨ inputActive .estop s = true) :
    ackFault s = refuse .state s := by
  unfold ackFault
  rw [if_pos]
  rcases h with h | h <;> simp [h]

theorem brakeOnly_acknowledged (s : State) : BrakeOnly s (takeHead (acknowledged s)) :=
  (((brakeOnly_onBrake _ s).trans (brakeOnly_dropAxle _)).trans (brakeOnly_sendNotice _ _)).trans (brakeOnly_takeHead _)

/-- R81: the station takes whatever head the queue has. -/
theorem acknowledged_brake (s : State) : (takeHead (acknowledged s)).brake.cause = none
    ∧ (takeHead (acknowledged s)).brake.axle = none ∧ (takeHead (acknowledged s)).brake.vehicle = s.vt.queue.head?
    ∧ (takeHead (acknowledged s)).brake.state = (if s.vt.queue = [] then .idle else .waitWheels)
    ∧ (takeHead (acknowledged s)).brake.presence
      = if s.vt.queue ≠ [] ∧ wheelsOn s = true then some (later s.time.now 2000) else none := by
  cases hq : s.vt.queue with
  | nil =>
    rw [takeHead_brake_none (s := acknowledged s) hq]
    exact ⟨rfl, rfl, rfl, rfl, rfl⟩
  | cons k rest =>
    have hw : wheelsOn (acknowledged s) = wheelsOn s := rfl
    rw [takeHead_brake_some (s := acknowledged s) hq, hw]
    exact ⟨rfl, rfl, rfl, rfl, if_congr (and_iff_right (List.cons_ne_nil k rest)).symm rfl rfl⟩

/-- Settles O43: the owner's effect stands once its reply is placed, and a refusal changes nothing. -/
theorem hostStationRequestsAreCarriedOut : Obligations.HostStationRequestsAreCarriedOut := by
  intro tag s hc
  refine ⟨fun v n a hr hb hv hn ha hf hk => ?_, fun hr hn => ?_, fun k q hr hq hb he => ?_, fun k q hr hcond => ?_,
    fun hr hs he => ?_, fun hr hcond => ?_⟩
  · have hv' : (atOwner (.skipAxle tag) s).brake.vehicle = some v := by rw [atOwner_brake]; exact hv
    have hn' : axleInHand (atOwner (.skipAxle tag) s) = some n := by rw [atOwner_axleInHand]; exact hn
    have ha' : ((atOwner (.skipAxle tag) s).record v).axle n = some a := by rw [atOwner_record]; exact ha
    have ho : hostSkip (atOwner (.skipAxle tag) s) = accept (skipAxle .host v n (atOwner (.skipAxle tag) s)) := by
      unfold hostSkip
      rw [skippable_some hv' hn' ha' hf hk]
    obtain ⟨b, h1, h2, h3, h4⟩ := axle_skipAxle (c := .host) hv' hn' ha' hk
    refine ⟨_, b, answer_settles hr ho, ?_, h2, h3, h4⟩
    rw [record_of_vt (answered_vt (laneOnly_skipAxle .host v n _) hc hb), h1]
  · refine answer_unchanged hc hr ?_
    unfold hostSkip
    rw [skippable_none (by rw [atOwner_axleInHand]; exact hn)]
    rfl
  · have hq' : (atOwner (.releaseVehicle tag) s).vt.queue = k :: q := by rw [atOwner_queue]; exact hq
    have he' : ((atOwner (.releaseVehicle tag) s).record k).entryDone = true := by rw [atOwner_record]; exact he
    have ho : hostRelease (atOwner (.releaseVehicle tag) s) = accept (carryRelease (atOwner (.releaseVehicle tag) s)) :=
      if_pos ((releasable_head hq').trans he')
    obtain ⟨h1, -, h3, h4⟩ := carryRelease_vt hq' he'
    have hvt := answered_vt (k := 0x11) (t := tag) (b := .none)
      (laneOnly_carryRelease (atOwner (.releaseVehicle tag) s)) hc hb
    refine ⟨_, answer_settles hr ho, ?_, ?_, fun a ha => h4 a ?_⟩
    · rw [hvt, h1]
    · rw [record_of_vt hvt, h3]
    · rw [record_of_vt hvt] at ha
      exact ha
  · refine answer_unchanged hc hr ?_
    have hne : releasable (atOwner (.releaseVehicle tag) s) = false := by
      rcases hcond with h | ⟨h, he⟩
      · exact releasable_empty (by rw [atOwner_queue]; exact h)
      · rw [releasable_head (by rw [atOwner_queue]; exact h), atOwner_record, he]
    unfold hostRelease
    rw [hne]
    rfl
  · have ho : ackFault (atOwner (.ackFault tag) s) = accept (takeHead (acknowledged (atOwner (.ackFault tag) s))) :=
      ackFault_taken (by rw [atOwner_brake]; exact hs) (by rw [atOwner_inputActive]; exact he)
    obtain ⟨-, hbr⟩ := ((brakeOnly_acknowledged (atOwner (.ackFault tag) s)).trans
      (brakeOnly_postReply 0x12 tag .ok .none _)).settles (calm_atOwner _ s hc)
    obtain ⟨h1, h2, h3, h4, h5⟩ := acknowledged_brake (atOwner (.ackFault tag) s)
    rw [atOwner_queue] at h3 h4 h5
    rw [atOwner_wheelsOn, atOwner_now] at h5
    exact ⟨_, answer_settles hr ho, (congrArg _ hbr).trans h1, (congrArg _ hbr).trans h2, (congrArg _ hbr).trans h3,
      (congrArg _ hbr).trans h4, (congrArg _ hbr).trans h5⟩
  · refine answer_unchanged hc hr ?_
    refine (ackFault_refused ?_).trans rfl
    rw [atOwner_brake, atOwner_inputActive]
    exact hcond

end Sys2Proof.Machine
end

section
/-! SUPPORT. The brake station's samples (R64, R193) under the station's own operations and under what follows a window
end: the history, the last sample, the window ends that wait and the live frame stay. -/

namespace Sys2Proof.Machine

/-! ## States, vehicle and head -/

theorem samples_enterState (st : BrakeState) (s : State) : (enterState st s).samples = s.samples := by
  unfold enterState; dsimp only; split <;> rfl

theorem samples_setVehicle (v : Option Nat) (s : State) : (setVehicle v s).samples = s.samples := by
  unfold setVehicle; split <;> rfl

theorem samples_enterIdle (s : State) : (enterIdle s).samples = s.samples :=
  (samples_enterState .idle ((setVehicle none s).onBrake fun b => { b with presence := none })).trans
    (samples_setVehicle none s)

theorem samples_enterWaitWheels (s : State) : (enterWaitWheels s).samples = s.samples := by
  have h : ∀ p, (enterState .waitWheels ((setVehicle s.vt.queue.head? s).onBrake fun b =>
      { b with axle := none, presence := p })).samples = s.samples := fun p =>
    (samples_enterState .waitWheels ((setVehicle s.vt.queue.head? s).onBrake _)).trans (samples_setVehicle _ s)
  unfold enterWaitWheels
  dsimp only
  split <;> exact h _

theorem samples_takeHead (s : State) : (takeHead s).samples = s.samples := by
  unfold takeHead
  split
  · exact samples_enterIdle s
  · exact samples_enterWaitWheels s

theorem samples_enterWaitClear (s : State) : (enterWaitClear s).samples = s.samples :=
  samples_enterState .waitClear (s.onBrake _)

theorem samples_headChanged (s : State) : (headChanged s).samples = s.samples := by
  have left : (let s1 := dropAxle (s.onBrake fun b => { b with presence := none })
      if inputActive .wheelL s || inputActive .wheelR s then enterWaitClear s1 else takeHead s1).samples = s.samples := by
    dsimp only
    split
    · exact samples_enterWaitClear _
    · exact samples_takeHead _
  unfold headChanged
  cases s.brake.state with
  | idle =>
    dsimp only
    split
    · rfl
    · exact samples_takeHead s
  | waitWheels | waitAxleRecord => exact left
  | zeroing | spinUp | drag | braking | stopping | axleDone | waitClear => rfl
  | fault => exact samples_setVehicle _ (dropAxle s)

/-! ## Aborts, faults and matches -/

theorem samples_abortAttempt (r : AbortReason) (s : State) : (abortAttempt r s).samples = s.samples := by
  unfold abortAttempt
  extract_lets s1 s2 s3
  have h2 : s2.samples = s1.samples := (sameViews_abortTrace _ s1).2
  have h3 : s3.samples = s2.samples := by unfold s3; split <;> rfl
  exact (sameViews_noticeTested _ _ s3).2.trans (h3.trans h2)

theorem samples_enterFault (c : BrakeCause) (s : State) : (enterFault c s).samples = s.samples := by
  unfold enterFault
  split
  · rfl
  · extract_lets s1 s2
    have h1 : s1.samples = s.samples := by
      unfold s1
      split
      · exact samples_abortAttempt _ s
      · rfl
    exact (samples_enterState .fault s2).trans h1

theorem samples_takeAxle (n : Nat) (ph : Phase) (s : State) : (takeAxle n ph s).samples = s.samples := by
  unfold takeAxle enterZeroing
  split
  · exact samples_enterFault _ (s.onBrake fun b => { b with axle := some n, phase := ph })
  · exact samples_enterState .zeroing ((s.onBrake fun b => { b with axle := some n, phase := ph }).onBrake _)

theorem samples_matchAxle (v : Nat) (s : State) : (matchAxle v s).samples = s.samples := by
  unfold matchAxle
  extract_lets r t
  have ht : t.2.samples = s.samples := (sameViews_appendAxle _ _ s).2
  split
  · exact samples_takeAxle _ _ s
  · split
    · split
      · exact (samples_takeAxle _ _ _).trans ((sameViews_evaluateLeaving t.2).2.trans ht)
      · exact (samples_enterWaitClear (dropAxle t.2)).trans ht
    · exact samples_enterState .waitAxleRecord (dropAxle s)

theorem samples_rematchAxle (s : State) : (rematchAxle s).samples = s.samples := by
  unfold rematchAxle
  split
  · split
    · exact samples_matchAxle _ s
    · rfl
  · rfl

/-! ## The phases -/

theorem samples_enterSpinUp (s : State) : (enterSpinUp s).samples = s.samples := by
  unfold enterSpinUp
  extract_lets b kind t s1
  have h1 : s1.samples = s.samples := (sameViews_openTrace kind _ _ s).2
  refine (samples_enterState .spinUp _).trans ?_
  split <;> exact h1

theorem samples_zeroingSample (d : Delivery) (s : State) : (zeroingSample d s).samples = s.samples := by
  unfold zeroingSample
  extract_lets s1 l r
  split
  · exact samples_enterSpinUp (s1.onBrake fun b => { b with zeroL := l.1, zeroR := r.1, subL := l.2, subR := r.2 })
  · rfl

theorem samples_spinUpSample (x : BrakeSample) (s : State) : (spinUpSample x s).samples = s.samples := by
  unfold spinUpSample enterDrag
  extract_lets ts n s1
  split
  · exact samples_enterState .drag ((raiseEvent .atSpeed s1).onBrake _)
  · rfl

theorem samples_dragSample (x : BrakeSample) (s : State) : (dragSample x s).samples = s.samples := by
  unfold dragSample enterBraking
  extract_lets s1
  split
  · exact samples_enterState .braking
      ((raiseEvent .dragDone (s1.onBrake fun b => { b with run := b.run.finishDrag })).onBrake _)
  · rfl

theorem samples_endBraking (c : EndCause) (ev : Option GEvent) (s : State) :
    (endBraking c ev s).samples = s.samples := by
  unfold endBraking
  extract_lets s1
  have h1 : s1.samples = s.samples := by unfold s1; cases ev <;> rfl
  exact (samples_enterState .stopping ((setRun false s1).onBrake _)).trans h1

theorem samples_brakingSample (x : BrakeSample) (s : State) : (brakingSample x s).samples = s.samples := by
  unfold brakingSample
  extract_lets s1 s2 n s3
  split
  · exact samples_endBraking _ _ s1
  · split
    · exact samples_endBraking _ _ s3
    · rfl

theorem samples_axleDone (s : State) : (axleDone s).samples = s.samples := by
  unfold axleDone
  split
  · exact samples_enterWaitClear s
  · next v n _ =>
    have h := (sameViews_writeResult v n (enterState .axleDone s)).2.trans (samples_enterState _ s)
    extract_lets s1
    split
    · exact (samples_enterSpinUp (s1.onBrake fun b => { b with phase := .parking })).trans h
    · exact (sameViews_raiseVehicleDone v s (enterWaitClear s1)).2.trans ((samples_enterWaitClear s1).trans h)

theorem samples_stoppingSample (d : Delivery) (s : State) : (stoppingSample d s).samples = s.samples := by
  unfold stoppingSample
  extract_lets n s1
  split
  · exact samples_axleDone (s1.onBrake fun b => { b with stop := none })
  · rfl

theorem samples_actOnSample (d : Delivery) (x : BrakeSample) (s : State) :
    (actOnSample d x s).samples = s.samples := by
  have orFault : ∀ f : State → State, (f s).samples = s.samples →
      (if d.brakeFaulted then enterFault .sensorFault s else f s).samples = s.samples := fun f hf => by
    split
    · exact samples_enterFault _ s
    · exact hf
  unfold actOnSample
  cases s.brake.state with
  | zeroing => exact orFault _ (samples_zeroingSample d s)
  | spinUp => exact orFault _ (samples_spinUpSample x s)
  | drag => exact orFault _ (samples_dragSample x s)
  | braking => exact orFault _ (samples_brakingSample x s)
  | stopping => exact samples_stoppingSample d s
  | idle | waitWheels | waitAxleRecord | axleDone | waitClear | fault => rfl

/-! ## What follows -/

theorem samples_settleHead (s : State) : (settleHead s).samples = s.samples := by
  unfold settleHead
  split
  · exact samples_headChanged (s.onWork _)
  · rfl

theorem samples_settleRematch (s : State) : (settleRematch s).samples = s.samples := by
  unfold settleRematch
  split
  · exact samples_rematchAxle (s.onWork _)
  · rfl

/-- R64, R193: what follows an event leaves the samples. -/
theorem samples_settle (s : State) : (settle s).samples = s.samples := by
  have writes : (settleWrites s).samples = s.samples := (sameViews_pumpWrites _ s).2
  have head := (samples_settleHead (settleWrites s)).trans writes
  have retry := (sameViews_settleRetry (settleHead (settleWrites s))).2.trans head
  have moved := (samples_settleHead (settleRetry (settleHead (settleWrites s)))).trans retry
  have rematch := (samples_settleRematch _).trans moved
  exact ((sameViews_settleGuidance _).2.trans (sameViews_guardCollection _).2).trans rematch

end Sys2Proof.Machine
end

section
/-! SUPPORT. A brake window end (R64): the sample it makes, the live frame (R193), and the phase trace (R82, R146). -/

namespace Sys2Proof.Machine

/-! ## The sample -/

/-- R64: the window end's totals joined to the history. -/
def BrakeStation.joined (d : Delivery) (b : BrakeStation) : BrakeStation :=
  { b with history := d.totals :: b.history.take 9 }

/-- R64: the sample of a window end that the station takes in state `s`. -/
def windowSample (d : Delivery) (s : State) : BrakeSample := brakeSample d (s.onBrake (BrakeStation.joined d))

/-- R64: the force of a side whose reading is usable. -/
theorem sideForce_usable {r : Option Reading} {q : Reading} {pz z g : Nat} {s : State} (hr : r = some q)
    (hf : q.faulted = false) (hc : calibration s q.channel = some (z, g)) : sideForce r pz s =
      (some (wheelForce q.sum (if s.brake.state.onPhaseZero then pz else z) g),
        forceClamped q.sum (if s.brake.state.onPhaseZero then pz else z) g) := by
  unfold sideForce usable
  rw [hr]
  simp [hf, hc]

/-- R64: the last sample and the history, as a window end leaves them. -/
def BrakeStation.sampled (d : Delivery) (x : BrakeSample) (b : BrakeStation) : BrakeStation :=
  { b.joined d with lastSample := some x }

/-- R30, R64: the window end taken, with its sample. -/
def windowEndTaken (d : Delivery) (rest : List Delivery) (s : State) : State :=
  (s.onSig fun g => { g with brakeInbox := rest }).onBrake (BrakeStation.sampled d (windowSample d s))

/-- R82, R193: the sample offered to the live stream and to the phase trace. -/
def sampleTold (x : BrakeSample) (s : State) : State := recordBrakeSample x (liveBrake x s)

/-- R64: what the station does with its oldest window end, before what follows. -/
def windowActed (d : Delivery) (rest : List Delivery) (s : State) : State :=
  actOnSample d (windowSample d s) (sampleTold (windowSample d s) (windowEndTaken d rest s))

theorem exec_brakeWindowEnd {s : State} {d : Delivery} {rest : List Delivery} (hi : s.sig.brakeInbox = d :: rest) :
    exec .brakeWindowEnd s = .next (settle (hand .brakeSample (windowActed d rest s))) := by
  have ht : takeBrakeWindow s = hand .brakeSample (windowActed d rest s) := by
    unfold takeBrakeWindow
    rw [hi]
    rfl
  exact congrArg finish ht

/-! ## The live frame (R193) -/

theorem liveBrake_off {x : BrakeSample} {s : State} (h : s.port.brakeDivider = 0 ∨ s.brake.state = .idle) :
    liveBrake x s = s := by
  unfold liveBrake
  rw [if_pos (by simpa using h)]

theorem liveBrake_counts {x : BrakeSample} {s : State} (hs : s.brake.state ≠ .idle)
    (h : s.port.brakeLiveCount + 1 < s.port.brakeDivider) :
    liveBrake x s = s.onPort fun p => { p with brakeLiveCount := p.brakeLiveCount + 1 } := by
  have h0 : s.port.brakeDivider ≠ 0 := by omega
  unfold liveBrake
  rw [if_neg (by simp [hs, h0]), if_neg (Nat.not_le.mpr h)]

theorem liveBrake_places {x : BrakeSample} {s : State} (hs : s.brake.state ≠ .idle) (h0 : 0 < s.port.brakeDivider)
    (h : s.port.brakeDivider ≤ s.port.brakeLiveCount + 1) : liveBrake x s = s.onPort fun p =>
      { p with brakeLiveCount := 0
               live := some (.brake s.brake.state s.brake.vehicle s.brake.axle
                 (if s.brake.axle.isSome then some s.brake.phase else none) x) } := by
  unfold liveBrake
  rw [if_neg (by simp [hs, h0.ne']), if_pos h]

theorem liveBrake_eq (x : BrakeSample) (s : State) : liveBrake x s = { s with port := (liveBrake x s).port } := by
  unfold liveBrake
  split
  · rfl
  · split <;> rfl

/-! ## The phase trace (R82) -/

theorem recordBrakeSample_eq (x : BrakeSample) (s : State) :
    recordBrakeSample x s = { s with traces := (recordBrakeSample x s).traces } := by
  unfold recordBrakeSample appendSample
  split
  · split <;> rfl
  · rfl

/-- What is told of a sample changes the Host Port and the traces alone. -/
theorem sampleTold_eq (x : BrakeSample) (s : State) : ∃ p, sampleTold x s =
    { s with port := p, traces := (sampleTold x s).traces } := by
  obtain ⟨p, hp⟩ : ∃ p, liveBrake x s = { s with port := p } := ⟨_, liveBrake_eq x s⟩
  unfold sampleTold
  rw [hp]
  exact ⟨p, recordBrakeSample_eq x { s with port := p }⟩

theorem sampleTold_traces {x : BrakeSample} {s : State} {id : Nat} (hs : s.brake.state.onPhaseZero = true)
    (ho : s.brake.openTrace = some id) : (sampleTold x s).traces = s.traces.append id x.stored x.time := by
  unfold sampleTold
  rw [liveBrake_eq]
  unfold recordBrakeSample
  rw [if_pos (by exact hs)]
  unfold appendSample
  dsimp only
  rw [ho]
  rfl

/-! ## What a window end leaves -/

/-- The samples, once the station has acted and everything followed. -/
theorem windowEnd_samples (d : Delivery) (rest : List Delivery) (s : State) :
    (settle (hand .brakeSample (windowActed d rest s))).samples
      = (liveBrake (windowSample d s) (windowEndTaken d rest s)).samples :=
  (samples_settle _).trans ((samples_actOnSample d _ _).trans (sameViews_recordBrakeSample _ _).2)

theorem calm_windowEndTaken {d : Delivery} {rest : List Delivery} {s : State} (hc : Calm s) :
    Calm (windowEndTaken d rest s) := Calm.of_eq hc rfl rfl rfl rfl rfl

end Sys2Proof.Machine
end

section
/-! SUPPORT. What the brake station does with a sample in each state of a phase (R69 to R75). -/

namespace Sys2Proof.Machine

/-! ## The state decides (R64, R80) -/

section
variable {d : Delivery} {x : BrakeSample} {s : State}

/-- R80: a faulted brake sum in an attempt that does not stop yet. -/
theorem actOnSample_faulted (ha : s.brake.state.attempt = true) (hs : s.brake.state ≠ .stopping)
    (hf : d.brakeFaulted = true) : actOnSample d x s = enterFault .sensorFault s := by
  unfold actOnSample
  cases h : s.brake.state with
  | zeroing | spinUp | drag | braking => exact if_pos hf
  | stopping => exact absurd h hs
  | idle | waitWheels | waitAxleRecord | axleDone | waitClear | fault => simp [h, BrakeState.attempt] at ha

theorem actOnSample_zeroing (hs : s.brake.state = .zeroing) (hf : d.brakeFaulted = false) :
    actOnSample d x s = zeroingSample d s := by unfold actOnSample; rw [hs, hf]; rfl

theorem actOnSample_spinUp (hs : s.brake.state = .spinUp) (hf : d.brakeFaulted = false) :
    actOnSample d x s = spinUpSample x s := by unfold actOnSample; rw [hs, hf]; rfl

theorem actOnSample_drag (hs : s.brake.state = .drag) (hf : d.brakeFaulted = false) :
    actOnSample d x s = dragSample x s := by unfold actOnSample; rw [hs, hf]; rfl

theorem actOnSample_braking (hs : s.brake.state = .braking) (hf : d.brakeFaulted = false) :
    actOnSample d x s = brakingSample x s := by unfold actOnSample; rw [hs, hf]; rfl

theorem actOnSample_stopping (hs : s.brake.state = .stopping) : actOnSample d x s = stoppingSample d s := by
  unfold actOnSample; rw [hs]

/-! ## ZEROING (R69) and the entry into SPIN_UP (R70, R71) -/

/-- R69: the phase zero of a side that has a reading with its calibration. -/
theorem phaseZero_eq {r : Option Reading} {q : Reading} {sum z g : Nat} (hr : r = some q)
    (hc : calibration s q.channel = some (z, g)) : phaseZero r sum s =
      (if zeroFar (roundDiv sum 16) z then z else roundDiv sum 16, zeroFar (roundDiv sum 16) z) := by
  unfold phaseZero zeroMean
  rw [hr]
  simp only [Option.bind_some, hc]
  cases zeroFar (roundDiv sum 16) z <;> rfl

/-- R69: the sums with a window end's readings. -/
def BrakeStation.zeroSummed (d : Delivery) (b : BrakeStation) : BrakeStation :=
  { b with zeroSumL := b.zeroSumL + readingSum d.brakeL, zeroSumR := b.zeroSumR + readingSum d.brakeR
           zeroCount := b.zeroCount + 1 }

/-- R69: the zeros that 16 sums give. -/
def BrakeStation.zeroed (d : Delivery) (s : State) (b : BrakeStation) : BrakeStation :=
  let l := phaseZero d.brakeL (b.zeroSumL + readingSum d.brakeL) s
  let r := phaseZero d.brakeR (b.zeroSumR + readingSum d.brakeR) s
  { b.zeroSummed d with zeroL := l.1, zeroR := r.1, subL := l.2, subR := r.2 }

theorem zeroingSample_counts (h : s.brake.zeroCount < 15) :
    zeroingSample d s = s.onBrake (BrakeStation.zeroSummed d) :=
  if_neg (Nat.not_le.mpr (Nat.succ_lt_succ h))

theorem zeroingSample_ends (h : s.brake.zeroCount = 15) :
    zeroingSample d s = enterSpinUp (s.onBrake (BrakeStation.zeroed d s)) :=
  if_pos (Nat.succ_le_succ h.ge)

theorem stationOnly_enterSpinUp (s : State) : StationOnly s (enterSpinUp s) := by
  unfold enterSpinUp
  extract_lets b kind t s1
  have h1 : StationOnly s s1 := (stationOnly_openTrace kind _ _ s).trans (stationOnly_onBrake _ _)
  split
  · exact h1.trans ((brakeOnly_setRun true s1).trans (brakeOnly_enterState _ _)).station
  · exact h1.trans (brakeOnly_enterState _ s1).station

theorem enterSpinUp_brake (s : State) : ∃ o, (enterSpinUp s).brake = { s.brake with
    state := .spinUp, run := Running.none, openTrace := o, spinUp := some (later s.time.now 5000), speedCount := 0 } := by
  unfold enterSpinUp
  extract_lets b kind t s1
  have h1 : s1.brake = { s.brake with
      run := Running.none, openTrace := t.1, spinUp := some (later s.time.now 5000), speedCount := 0 } := by
    have ht : t.2.brake = s.brake := (openTrace_stations kind _ _ s).2
    unfold s1
    rw [State.onBrake_brake, ht]
    rfl
  refine ⟨t.1, ?_⟩
  rw [enterState_brake]
  split
  · rw [setRun_eq, h1]
  · rw [h1]

/-- R70: with both drives ready the rollers are switched on at once. -/
theorem enterSpinUp_runs (h : drivesReady s = true) :
    (enterSpinUp s).sig.outputs.runL = true ∧ (enterSpinUp s).sig.outputs.runR = true := by
  unfold enterSpinUp
  rw [enterState_sig, if_pos h]
  exact ⟨rfl, rfl⟩

theorem stationOnly_zeroingSample (d : Delivery) (s : State) : StationOnly s (zeroingSample d s) := by
  unfold zeroingSample
  extract_lets s1 l r
  split
  · exact ((stationOnly_onBrake _ s).trans (stationOnly_onBrake _ _)).trans (stationOnly_enterSpinUp _)
  · exact stationOnly_onBrake _ s

/-! ## SPIN_UP (R71) and DRAG (R72) -/

/-- R71: a speed within a tenth of the test speed. -/
theorem speedOk_some {ts a : Nat} : speedOk ts (some a) = true ↔ ((a : Int) - (ts : Int)).natAbs * 10 ≤ ts := by
  simp [speedOk, inBand]

/-- R71: a side without a speed, or with one out of band. -/
theorem speedOk_pair_false {ts : Nat} {l r : Option Nat} (h : l = none ∨ r = none
    ∨ ∃ a : Nat, (l = some a ∨ r = some a) ∧ ts < ((a : Int) - (ts : Int)).natAbs * 10) :
    (speedOk ts l && speedOk ts r) = false := by
  have out : ∀ a : Nat, ts < ((a : Int) - (ts : Int)).natAbs * 10 → speedOk ts (some a) = false := fun a ha =>
    Bool.eq_false_iff.mpr fun hok => Nat.not_le.mpr ha (speedOk_some.mp hok)
  rcases h with rfl | rfl | ⟨a, rfl | rfl, ha⟩
  · rfl
  · exact Bool.and_false _
  · rw [out a ha]; rfl
  · rw [out a ha]; exact Bool.and_false _

theorem brakeOnly_spinUpSample (x : BrakeSample) (s : State) : BrakeOnly s (spinUpSample x s) := by
  unfold spinUpSample
  extract_lets ts n s1
  split
  · exact ((brakeOnly_onBrake _ s).trans (brakeOnly_hand _ _)).trans
      ((brakeOnly_onBrake _ _).trans (brakeOnly_enterState _ _))
  · exact brakeOnly_onBrake _ s

/-- R71: both speeds of a sample are in band. -/
def bothInBand (x : BrakeSample) (s : State) : Bool :=
  speedOk s.cal.constants.testSpeed x.speedL && speedOk s.cal.constants.testSpeed x.speedR

/-- R71: the station with its count of samples in band. -/
def speedCounted (n : Nat) (s : State) : State := s.onBrake fun b => { b with speedCount := n }

theorem spinUpSample_eq (x : BrakeSample) (s : State) {n : Nat}
    (hn : (if bothInBand x s then s.brake.speedCount + 1 else 0) = n) : spinUpSample x s =
      if 5 ≤ n then enterDrag (raiseEvent .atSpeed (speedCounted n s)) else speedCounted n s := by
  subst hn; rfl

theorem spinUpSample_out (h : bothInBand x s = false) : spinUpSample x s = speedCounted 0 s :=
  (spinUpSample_eq x s (n := 0) (by rw [h]; rfl)).trans (if_neg (by decide))

theorem spinUpSample_counts (h : bothInBand x s = true) (hn : s.brake.speedCount < 4) :
    spinUpSample x s = speedCounted (s.brake.speedCount + 1) s :=
  (spinUpSample_eq x s (if_pos h)).trans (if_neg (Nat.not_le.mpr (Nat.succ_lt_succ hn)))

theorem spinUpSample_ends (h : bothInBand x s = true) (hn : 4 ≤ s.brake.speedCount) :
    (spinUpSample x s).brake = { s.brake with
      speedCount := s.brake.speedCount + 1, state := .drag, spinUp := none, dragCount := 0
      run := { s.brake.run with dragSumL := 0, dragSumR := 0 } } := by
  rw [spinUpSample_eq x s (if_pos h), if_pos (Nat.succ_le_succ hn)]
  unfold enterDrag
  rw [enterState_brake]
  rfl

theorem brakeOnly_dragSample (x : BrakeSample) (s : State) : BrakeOnly s (dragSample x s) := by
  unfold dragSample
  extract_lets s1
  split
  · exact ((brakeOnly_onBrake _ s).trans (brakeOnly_onBrake _ _)).trans ((brakeOnly_hand _ _).trans
      ((brakeOnly_onBrake _ _).trans (brakeOnly_enterState _ _)))
  · exact brakeOnly_onBrake _ s

theorem dragSample_counts (h : s.brake.dragCount < 199) : dragSample x s = s.onBrake fun b =>
    { b with dragCount := b.dragCount + 1, run := b.run.addDrag x } :=
  if_neg (Nat.not_le.mpr (Nat.succ_lt_succ h))

/-- R72, R73, R96: the last drag sample gives the drags and enters BRAKING. -/
theorem dragSample_ends (h : 199 ≤ s.brake.dragCount) : (dragSample x s).brake = { s.brake with
    dragCount := s.brake.dragCount + 1, state := .braking, braking := some (later s.time.now 20000), slipRunL := 0
    slipRunR := 0, held := [], releaseCount := 0
    run := { (s.brake.run.addDrag x).finishDrag with
      maxL := 0, maxR := 0, maxLR := 0, imbalanceMax := none, pedalAtMax := none, pedalPartial := false } } := by
  have e : dragSample x s = enterBraking (raiseEvent .dragDone ((s.onBrake fun b =>
      { b with dragCount := b.dragCount + 1, run := b.run.addDrag x }).onBrake fun b =>
        { b with run := b.run.finishDrag })) := if_pos (Nat.succ_le_succ h)
  rw [e]
  unfold enterBraking
  rw [enterState_brake]
  rfl

/-- R72: in either case the sample joins the drag sums. -/
theorem dragSample_sums (x : BrakeSample) (s : State) :
    (dragSample x s).brake.run.dragSumL = s.brake.run.dragSumL + x.forceL.getD 0
      ∧ (dragSample x s).brake.run.dragSumR = s.brake.run.dragSumR + x.forceR.getD 0
      ∧ (dragSample x s).brake.run.overrange = (s.brake.run.overrange || x.clampL || x.clampR) := by
  rcases Nat.lt_or_ge s.brake.dragCount 199 with h | h
  · rw [dragSample_counts h]; exact ⟨rfl, rfl, rfl⟩
  · rw [dragSample_ends h]; exact ⟨rfl, rfl, rfl⟩

/-! ## BRAKING (R73, R74) -/

theorem nextRun_slips {limit slip run : Nat} (h : limit ≤ slip) : nextRun limit slip run = run + 1 := if_pos h

/-- R73 step 1: a side that grips, or whose run is short, does not reach 3. -/
theorem nextRun_short {limit slip run : Nat} (h : slip < limit ∨ run < 2) : nextRun limit slip run < 3 := by
  unfold nextRun
  split
  · next hl => have := h.resolve_left (Nat.not_lt.mpr hl); omega
  · omega

/-- R73 step 2: no later, by the signed difference. -/
theorem noLater_iff (t u : LaneTime) : noLater t u = true ↔ 0 ≤ (u - t).toInt := by
  unfold noLater
  rw [Bool.not_eq_true', BitVec.msb_eq_toInt, decide_eq_false_iff_not, not_lt]

theorem brakeOnly_brakingSample (x : BrakeSample) (s : State) : BrakeOnly s (brakingSample x s) := by
  unfold brakingSample
  extract_lets s1 s2 n s3
  have h1 : BrakeOnly s s1 := brakeOnly_onBrake _ s
  have h3 : BrakeOnly s s3 := (h1.trans (brakeOnly_onBrake _ s1)).trans (brakeOnly_onBrake _ s2)
  split
  · exact h1.trans (brakeOnly_endBraking _ _ s1)
  · split
    · exact h3.trans (brakeOnly_endBraking _ _ s3)
    · exact h3

/-- R73 step 1: a slip stop leaves the sample unfolded. -/
theorem brakingSample_slips (h : 3 ≤ (s.brake.runs x).slipRunL ∨ 3 ≤ (s.brake.runs x).slipRunR) :
    brakingSample x s = endBraking (slipCause (s.brake.runs x)) (some .slipStop) (s.onBrake fun b => b.runs x) :=
  if_pos (by simpa using h)

/-- R74: the station when neither run has reached 3: the sample is folded or held, and the release counted. -/
def BrakeStation.gripped (x : BrakeSample) (b : BrakeStation) : BrakeStation :=
  { (b.runs x).foldSamples x with
    releaseCount := releaseAfter ((b.runs x).foldSamples x).run.maxLR x.both b.releaseCount }

theorem brakingSample_grips (hl : (s.brake.runs x).slipRunL < 3) (hr : (s.brake.runs x).slipRunR < 3) :
    brakingSample x s = if 100 ≤ (s.brake.gripped x).releaseCount then
        endBraking .release (some .released) (s.onBrake (BrakeStation.gripped x))
      else s.onBrake (BrakeStation.gripped x) :=
  if_neg (by simpa using ⟨hl, hr⟩)

/-- R73, R74: the station after such a sample, in BRAKING still or stopped by the release. -/
theorem brakingSample_grips_brake (hl : (s.brake.runs x).slipRunL < 3) (hr : (s.brake.runs x).slipRunR < 3) :
    ((s.brake.gripped x).releaseCount < 100 → (brakingSample x s).brake = s.brake.gripped x)
    ∧ (100 ≤ (s.brake.gripped x).releaseCount → (brakingSample x s).brake = { s.brake.gripped x with
        state := .stopping, braking := none, held := [], run := { (s.brake.gripped x).run with endCause := some .release }
        stopCount := 0, stop := some (later s.time.now 5000) }) := by
  refine ⟨fun h => ?_, fun h => ?_⟩
  · rw [brakingSample_grips hl hr, if_neg (Nat.not_le.mpr h)]; rfl
  · rw [brakingSample_grips hl hr, if_pos h, endBraking_brake]; rfl

/-- R74: the side that reached 3 alone. -/
theorem slipCause_left {b : BrakeStation} (hl : 3 ≤ b.slipRunL) (hr : b.slipRunR < 3) : slipCause b = .slipStopL := by
  unfold slipCause
  rw [if_neg (by simp; omega), if_pos hl]

theorem slipCause_right {b : BrakeStation} (hl : b.slipRunL < 3) : slipCause b = .slipStopR := by
  unfold slipCause
  rw [if_neg (by simp; omega), if_neg (Nat.not_le.mpr hl)]

/-- R74: both sides reached 3: the earlier start, by the signed difference. -/
theorem slipCause_both {b : BrakeStation} (hl : 3 ≤ b.slipRunL) (hr : 3 ≤ b.slipRunR) : slipCause b =
    if (b.slipStartR - b.slipStartL).toInt < 0 then .slipStopR else .slipStopL := by
  unfold slipCause
  rw [if_pos (by simp [hl, hr])]
  by_cases h : (b.slipStartR - b.slipStartL).toInt < 0
  · rw [if_pos h, if_neg (fun hn => not_le.mpr h ((noLater_iff _ _).mp hn))]
  · rw [if_neg h, if_pos ((noLater_iff _ _).mpr (not_lt.mp h))]

/-! ## STOPPING (R75) -/

/-- R75: a window end that does not end the stop moves its count alone. -/
theorem stoppingSample_counts {n : Nat} (hn : n = if d.totals.still then s.brake.stopCount + 1 else 0) (h : n < 50) :
    stoppingSample d s = s.onBrake fun b => { b with stopCount := n } := by
  subst hn
  exact if_neg (Nat.not_le.mpr h)

theorem stoppingSample_ends (hd : d.totals.still = true) (h : s.brake.stopCount = 49) :
    stoppingSample d s = axleDone (s.onBrake fun b => { b with stopCount := 50, stop := none }) := by
  unfold stoppingSample
  rw [hd, h]
  rfl

theorem still_iff {t : PulseTotals} : t.still = true ↔ t.driveL = 0 ∧ t.driveR = 0 := by simp [PulseTotals.still]

end

end Sys2Proof.Machine
end

section
/-! SUPPORT. AXLE_DONE (R76), the trace of a phase at a window end (R82, R146), and O39. -/

namespace Sys2Proof.Machine

/-! ## AXLE_DONE (R76) -/

/-- R76: the phase that ends leaves the marks of the axle as they are. -/
theorem parkingNext_withResult (a : Axle) (ph : Phase) (r : AxleResult) :
    (a.withResult ph r).parkingNext ph = true ↔ ph = .service ∧ a.parking = true ∧ a.skip = none := by
  cases ph with
  | service => simp [Axle.withResult, Axle.parkingNext]
  | parking => simp [Axle.withResult, Axle.parkingNext]

theorem axleResult_enterState (st : BrakeState) (s : State) : axleResult (enterState st s) = axleResult s := by
  rw [enterState_eq]; rfl

theorem laneOnly_axleDone (s : State) : LaneOnly s (axleDone s) := by
  unfold axleDone
  split
  · exact (brakeOnly_enterWaitClear s).station.lane
  · next v n _ =>
    extract_lets s1
    have h1 : LaneOnly s s1 := (brakeOnly_enterState .axleDone s).station.lane.trans (laneOnly_writeResult v n _)
    split
    · exact h1.trans ((stationOnly_onBrake _ s1).trans (stationOnly_enterSpinUp _)).lane
    · exact h1.trans ((brakeOnly_enterWaitClear s1).trans (brakeOnly_raiseVehicleDone v s _)).station.lane

section
variable {s : State} {v n : Nat} {a : Axle} (hv : s.brake.vehicle = some v) (hn : s.brake.axle = some n)
  (ha : (s.record v).axle n = some a)

include hv hn ha

/-- R76 step 4: the parking phase at once where it is marked, or WAIT_CLEAR. -/
theorem axleDone_current : axleDone s =
    if s.brake.phase = .service ∧ a.parking = true ∧ a.skip = none then
      enterSpinUp ((writeResult v n (enterState .axleDone s)).onBrake fun b => { b with phase := .parking })
    else raiseVehicleDone v s (enterWaitClear (writeResult v n (enterState .axleDone s))) := by
  have hrec : (enterState .axleDone s).vt = s.vt := by rw [enterState_eq]
  have hw := axle_writeResult (s := enterState .axleDone s) ((record_of_vt hrec v).symm ▸ ha)
  have hph : (enterState .axleDone s).brake.phase = s.brake.phase := by rw [enterState_brake]
  rw [hph, axleResult_enterState] at hw
  have hnext := parkingNext_withResult a s.brake.phase (axleResult s)
  unfold axleDone
  rw [currentAxle_eq hv hn]
  dsimp only
  rw [axleOf_eq hw]
  simp only [hnext]

/-- R76 step 1: the result stands in the axle's entry. -/
theorem axle_axleDone : ((axleDone s).record v).axle n = some (a.withResult s.brake.phase (axleResult s)) := by
  have hrec : (enterState .axleDone s).vt = s.vt := by rw [enterState_eq]
  have hw := axle_writeResult (s := enterState .axleDone s) ((record_of_vt hrec v).symm ▸ ha)
  rw [axleResult_enterState, enterState_brake] at hw
  have hvt : (axleDone s).vt = (writeResult v n (enterState .axleDone s)).vt := by
    rw [axleDone_current hv hn ha]
    split
    · exact (enterSpinUp_table ((writeResult v n (enterState .axleDone s)).onBrake _)).1
    · exact (raiseVehicleDone_table v s _).1.trans (enterWaitClear_table _).1
  rw [record_of_vt hvt]
  exact hw

theorem axleDone_brake : (axleDone s).brake.stop = s.brake.stop ∧ (axleDone s).brake.state =
    if s.brake.phase = .service ∧ a.parking = true ∧ a.skip = none then .spinUp else .waitClear := by
  have hstop : (writeResult v n (enterState .axleDone s)).brake.stop = s.brake.stop := by
    rw [writeResult_brake, enterState_brake]
  rw [axleDone_current hv hn ha]
  split
  · obtain ⟨o, ho⟩ := enterSpinUp_brake
      ((writeResult v n (enterState .axleDone s)).onBrake fun b => { b with phase := .parking })
    rw [ho]
    exact ⟨hstop, rfl⟩
  · have hb : (raiseVehicleDone v s (enterWaitClear (writeResult v n (enterState .axleDone s)))).brake
        = (enterWaitClear (writeResult v n (enterState .axleDone s))).brake := by
      unfold raiseVehicleDone
      split <;> rfl
    rw [hb, enterWaitClear_brake]
    exact ⟨hstop, rfl⟩

/-- R65, R76: a change of head that the result brought leaves the station where it went. -/
theorem settleHead_axleDone {t : State} (ht : t.brake = (axleDone s).brake) :
    (settleHead t).brake.stop = s.brake.stop ∧ (settleHead t).brake.state =
      if s.brake.phase = .service ∧ a.parking = true ∧ a.skip = none then .spinUp else .waitClear := by
  obtain ⟨hstop, hst⟩ := axleDone_brake hv hn ha
  rw [← ht] at hstop hst
  by_cases hp : s.brake.phase = .service ∧ a.parking = true ∧ a.skip = none
  · rw [if_pos hp] at hst ⊢
    rw [settleHead_attempt (by rw [hst]; rfl)]
    exact ⟨hstop, hst⟩
  · rw [if_neg hp] at hst ⊢
    obtain ⟨ax, hax⟩ := settleHead_waitClear hst
    rw [hax]
    exact ⟨hstop, hst⟩

end

/-! ## The station at a window end -/

/-- R64, R193: the state in which the station acts: the window end taken, with what its telling left. -/
def windowTold (p : HostPort) (tr : TraceStore) (d : Delivery) (rest : List Delivery) (s : State) : State :=
  { windowEndTaken d rest s with port := p, traces := tr }

theorem windowActed_eq (d : Delivery) (rest : List Delivery) (s : State) : ∃ p tr,
    windowActed d rest s = actOnSample d (windowSample d s) (windowTold p tr d rest s)
      ∧ ∀ id, s.brake.state.onPhaseZero = true → s.brake.openTrace = some id →
        tr = s.traces.append id (windowSample d s).stored (windowSample d s).time := by
  obtain ⟨p, hp⟩ := sampleTold_eq (windowSample d s) (windowEndTaken d rest s)
  exact ⟨p, _, congrArg (actOnSample d (windowSample d s)) hp, fun id hs ho => sampleTold_traces hs ho⟩

theorem stationOnly_windowTold (p : HostPort) (tr : TraceStore) (d : Delivery) (rest : List Delivery) (s : State) :
    StationOnly (windowEndTaken d rest s) (windowTold p tr d rest s) :=
  ⟨_, _, _, _, _, _, rfl⟩

/-- Where the station's own operations are all that the sample brings, the station, the traces and the rollers stand. -/
theorem windowEnd_settles {p : HostPort} {tr : TraceStore} {d : Delivery} {rest : List Delivery} {s a : State}
    (hc : Calm s) (h : StationOnly (windowTold p tr d rest s) a) : (settle (hand .brakeSample a)).brake = a.brake
      ∧ (settle (hand .brakeSample a)).traces = a.traces ∧ (settle (hand .brakeSample a)).rollers = a.rollers := by
  obtain ⟨hrest, hviews, -⟩ := (((stationOnly_windowTold p tr d rest s).trans h).trans
    (brakeOnly_hand .brakeSample a).station).settles (calm_windowEndTaken hc)
  exact ⟨hrest.brake, hrest.traces, hviews⟩

/-! ## The trace of a phase (R82, R146) -/

/-- R82: the states in which a sample joins the phase trace and the trace stays open. -/
def Recording (d : Delivery) (s : State) : Prop :=
  (s.brake.state = .stopping ∧ s.brake.stopCount < 49)
    ∨ (d.brakeFaulted = false ∧ (s.brake.state = .spinUp ∨ s.brake.state = .drag ∨ s.brake.state = .braking))

theorem Recording.onPhaseZero {d : Delivery} {s : State} (h : Recording d s) : s.brake.state.onPhaseZero = true := by
  rcases h with ⟨h, -⟩ | ⟨-, h | h | h⟩ <;> rw [h] <;> rfl

theorem Recording.brakeOnly {d : Delivery} {s : State} (h : Recording d s) (x : BrakeSample) :
    BrakeOnly s (actOnSample d x s) := by
  rcases h with ⟨hs, hc⟩ | ⟨hf, hs | hs | hs⟩
  · have hlt : (if d.totals.still then s.brake.stopCount + 1 else 0) < 50 := by split <;> omega
    rw [actOnSample_stopping hs, stoppingSample_counts rfl hlt]
    exact brakeOnly_onBrake _ s
  · rw [actOnSample_spinUp hs hf]; exact brakeOnly_spinUpSample x s
  · rw [actOnSample_drag hs hf]; exact brakeOnly_dragSample x s
  · rw [actOnSample_braking hs hf]; exact brakeOnly_brakingSample x s

theorem BrakeOnly.traces {s t : State} (h : BrakeOnly s t) : t.traces = s.traces := by
  obtain ⟨b, o, p, l, rfl⟩ := h; rfl

theorem windowEnd_recorded {d : Delivery} {rest : List Delivery} {s : State} {id : Nat} (hc : Calm s)
    (h : Recording d s) (ho : s.brake.openTrace = some id) :
    (settle (hand .brakeSample (windowActed d rest s))).traces
      = s.traces.append id (windowSample d s).stored (windowSample d s).time := by
  obtain ⟨p, tr, hacted, htr⟩ := windowActed_eq d rest s
  have hb : BrakeOnly (windowTold p tr d rest s) (windowActed d rest s) :=
    hacted ▸ Recording.brakeOnly (s := windowTold p tr d rest s) h (windowSample d s)
  obtain ⟨-, htraces, -⟩ := windowEnd_settles hc hb.station
  rw [htraces, hb.traces]
  exact htr id h.onPhaseZero ho

/-! ## BRAKING (R73, R74) -/

theorem BrakeStation.foldable_iff (b : BrakeStation) (y : BrakeSample) : b.foldable y = true ↔
    (b.slipRunL = 0 ∨ 0 ≤ (b.slipStartL - y.time).toInt) ∧ (b.slipRunR = 0 ∨ 0 ≤ (b.slipStartR - y.time).toInt) := by
  simp [foldable, noLater_iff]

section
variable {x : BrakeSample} {s : State}

/-- R73: what the sample leaves of the runs, the running values and the held samples, whether the release ends the
phase or not. -/
theorem brakingSample_folds (hl : (s.brake.runs x).slipRunL < 3) (hr : (s.brake.runs x).slipRunR < 3) :
    ((brakingSample x s).brake.slipRunL = (s.brake.runs x).slipRunL
        ∧ (brakingSample x s).brake.slipRunR = (s.brake.runs x).slipRunR
        ∧ (brakingSample x s).brake.slipStartL = (s.brake.runs x).slipStartL
        ∧ (brakingSample x s).brake.slipStartR = (s.brake.runs x).slipStartR)
    ∧ (brakingSample x s).brake.run = { (s.brake.gripped x).run with
        endCause := (brakingSample x s).brake.run.endCause }
    ∧ ((brakingSample x s).brake.held = (s.brake.gripped x).held
        ∨ ((brakingSample x s).brake.state = .stopping ∧ (brakingSample x s).brake.held = [])) := by
  obtain ⟨hstay, hend⟩ := brakingSample_grips_brake hl hr
  rcases Nat.lt_or_ge (s.brake.gripped x).releaseCount 100 with h | h
  · rw [hstay h]; exact ⟨⟨rfl, rfl, rfl, rfl⟩, rfl, .inl rfl⟩
  · rw [hend h]; exact ⟨⟨rfl, rfl, rfl, rfl⟩, rfl, .inr ⟨rfl, rfl⟩⟩

/-- R73: while neither side slips, every held sample is folded. -/
theorem BrakeStation.gripped_free {b : BrakeStation} (hl : x.slipL < b.slipLimit) (hr : x.slipR < b.slipLimit) :
    (b.runs x).slipRunL = 0 ∧ (b.runs x).slipRunR = 0
      ∧ (b.gripped x).run = (b.held ++ [x]).foldl (Running.fold b.imbFloor) b.run ∧ (b.gripped x).held = [] := by
  have h0l : (b.runs x).slipRunL = 0 := if_neg (Nat.not_le.mpr hl)
  have h0r : (b.runs x).slipRunR = 0 := if_neg (Nat.not_le.mpr hr)
  have hall : ∀ y, (b.runs x).foldable y = true := fun y => (foldable_iff _ _).mpr ⟨.inl h0l, .inl h0r⟩
  have hrun : (b.gripped x).run
      = ((b.held ++ [x]).filter (b.runs x).foldable).foldl (Running.fold b.imbFloor) b.run := rfl
  have hheld : (b.gripped x).held = (b.held ++ [x]).filter (fun y => !(b.runs x).foldable y) := rfl
  refine ⟨h0l, h0r, ?_, ?_⟩
  · rw [hrun, List.filter_eq_self.mpr fun y _ => hall y]
  · rw [hheld, List.filter_eq_nil_iff]
    simp [hall]

/-- R73 step 3: the release count with the running maximum that the sample left. -/
theorem BrakeStation.gripped_release {b : BrakeStation} :
    ((b.gripped x).run.maxLR < 200 ∨ (b.gripped x).run.maxLR ≤ 2 * x.both → (b.gripped x).releaseCount = 0)
    ∧ (200 ≤ (b.gripped x).run.maxLR → 2 * x.both < (b.gripped x).run.maxLR →
        (b.gripped x).releaseCount = b.releaseCount + 1) := by
  have e : (b.gripped x).releaseCount = releaseAfter (b.gripped x).run.maxLR x.both b.releaseCount := rfl
  rw [e]
  unfold releaseAfter
  refine ⟨fun h => if_neg ?_, fun h1 h2 => if_pos ?_⟩
  · simp only [Bool.and_eq_true, decide_eq_true_eq]
    omega
  · simp only [Bool.and_eq_true, decide_eq_true_eq]
    exact ⟨h1, h2⟩

/-- R74: the release stops the rollers. -/
theorem brakingSample_released (hl : (s.brake.runs x).slipRunL < 3) (hr : (s.brake.runs x).slipRunR < 3)
    (h : 100 ≤ (s.brake.gripped x).releaseCount) : RunsOff (brakingSample x s) := by
  rw [brakingSample_grips hl hr, if_pos h]
  exact runsOff_endBraking _ _ _

/-- R74: what a slip stop leaves. -/
theorem brakingSample_slips_brake (h : 3 ≤ (s.brake.runs x).slipRunL ∨ 3 ≤ (s.brake.runs x).slipRunR) :
    (brakingSample x s).brake = { s.brake.runs x with
        state := .stopping, braking := none, held := []
        run := { s.brake.run with endCause := some (slipCause (s.brake.runs x)) }
        stopCount := 0, stop := some (later s.time.now 5000) }
      ∧ RunsOff (brakingSample x s) := by
  rw [brakingSample_slips h, endBraking_brake]
  exact ⟨rfl, runsOff_endBraking _ _ _⟩

end

end Sys2Proof.Machine
end

section
/-! SUPPORT. A brake window end in each state of a phase (R69 to R76), and O39. -/

namespace Sys2Proof.Machine

/-! ## The station once a window end is dealt with -/

/-- R64: the state that a window end leaves, once everything followed. -/
def windowEnded (d : Delivery) (rest : List Delivery) (s : State) : State :=
  settle (hand .brakeSample (windowActed d rest s))

section
variable {d : Delivery} {rest : List Delivery} {s : State}

/-- Where the state's own operation is all that the sample brings, the station and the rollers stand as it leaves them. -/
theorem windowEnded_station {f : State → State} (hc : Calm s)
    (hf : ∀ u, u.brake.state = s.brake.state → actOnSample d (windowSample d s) u = f u)
    (hst : ∀ u, u.brake.state = s.brake.state → StationOnly u (f u)) :
    ∃ p tr, (windowEnded d rest s).brake = (f (windowTold p tr d rest s)).brake
      ∧ (windowEnded d rest s).rollers = (f (windowTold p tr d rest s)).rollers := by
  obtain ⟨p, tr, hacted, -⟩ := windowActed_eq d rest s
  have he := hacted.trans (hf (windowTold p tr d rest s) rfl)
  obtain ⟨hb, -, hr⟩ := windowEnd_settles hc (hst (windowTold p tr d rest s) rfl)
  refine ⟨p, tr, ?_, ?_⟩ <;> unfold windowEnded <;> rw [he]
  · exact hb
  · exact hr

theorem windowEnded_zeroing (hc : Calm s) (hs : s.brake.state = .zeroing) (hf : d.brakeFaulted = false) :
    ∃ p tr, (windowEnded d rest s).brake = (zeroingSample d (windowTold p tr d rest s)).brake
      ∧ (windowEnded d rest s).rollers = (zeroingSample d (windowTold p tr d rest s)).rollers :=
  windowEnded_station hc (fun _ hu => actOnSample_zeroing (hu.trans hs) hf) fun u _ => stationOnly_zeroingSample d u

theorem windowEnded_spinUp (hc : Calm s) (hs : s.brake.state = .spinUp) (hf : d.brakeFaulted = false) :
    ∃ p tr, (windowEnded d rest s).brake = (spinUpSample (windowSample d s) (windowTold p tr d rest s)).brake := by
  obtain ⟨p, tr, hb, -⟩ := windowEnded_station (rest := rest) hc (fun _ hu => actOnSample_spinUp (hu.trans hs) hf)
    fun u _ => (brakeOnly_spinUpSample (windowSample d s) u).station
  exact ⟨p, tr, hb⟩

theorem windowEnded_drag (hc : Calm s) (hs : s.brake.state = .drag) (hf : d.brakeFaulted = false) :
    ∃ p tr, (windowEnded d rest s).brake = (dragSample (windowSample d s) (windowTold p tr d rest s)).brake := by
  obtain ⟨p, tr, hb, -⟩ := windowEnded_station (rest := rest) hc (fun _ hu => actOnSample_drag (hu.trans hs) hf)
    fun u _ => (brakeOnly_dragSample (windowSample d s) u).station
  exact ⟨p, tr, hb⟩

theorem windowEnded_braking (hc : Calm s) (hs : s.brake.state = .braking) (hf : d.brakeFaulted = false) :
    ∃ p tr, (windowEnded d rest s).brake = (brakingSample (windowSample d s) (windowTold p tr d rest s)).brake
      ∧ (windowEnded d rest s).rollers = (brakingSample (windowSample d s) (windowTold p tr d rest s)).rollers :=
  windowEnded_station hc (fun _ hu => actOnSample_braking (hu.trans hs) hf)
    fun u _ => (brakeOnly_brakingSample (windowSample d s) u).station

theorem runsOff_of_rollers {s t : State} (h : RunsOff s) (e : t.rollers = s.rollers) : RunsOff t :=
  ⟨(congrArg Rollers.runL e).trans h.1, (congrArg Rollers.runR e).trans h.2⟩

/-- R80: a faulted brake sum in an attempt. -/
theorem windowEnded_faulted (hc : Calm s) (ha : s.brake.state.attempt = true) (hs : s.brake.state ≠ .stopping)
    (hf : d.brakeFaulted = true) : (windowEnded d rest s).brake.state = .fault
      ∧ (windowEnded d rest s).brake.cause = some .sensorFault ∧ RunsOff (windowEnded d rest s) := by
  obtain ⟨p, tr, hb, hr⟩ := windowEnded_station (rest := rest) hc
    (fun u hu => actOnSample_faulted (s := u) (hu ▸ ha) (hu ▸ hs) hf) fun u _ => stationOnly_enterFault .sensorFault u
  have hne : (windowTold p tr d rest s).brake.state ≠ .fault := fun h => by
    have h' : s.brake.state = .fault := h
    rw [h'] at ha
    cases ha
  obtain ⟨h1, h2, -⟩ := enterFault_brake .sensorFault (windowTold p tr d rest s) hne
  exact ⟨(congrArg _ hb).trans h1, (congrArg _ hb).trans h2, runsOff_of_rollers (runsOff_enterFault_out _ hne) hr⟩

/-- R74: a slip stop. -/
theorem windowEnded_slips (hc : Calm s) (hs : s.brake.state = .braking) (hf : d.brakeFaulted = false)
    (h : 3 ≤ (s.brake.runs (windowSample d s)).slipRunL ∨ 3 ≤ (s.brake.runs (windowSample d s)).slipRunR) :
    (windowEnded d rest s).brake.state = .stopping
      ∧ (windowEnded d rest s).brake.run =
        { s.brake.run with endCause := some (slipCause (s.brake.runs (windowSample d s))) }
      ∧ RunsOff (windowEnded d rest s) ∧ (windowEnded d rest s).brake.held = []
      ∧ (windowEnded d rest s).brake.stop = some (later s.time.now 5000) := by
  obtain ⟨p, tr, hb, hr⟩ := windowEnded_braking (rest := rest) hc hs hf
  obtain ⟨hbr, hoff⟩ := brakingSample_slips_brake (s := windowTold p tr d rest s) h
  rw [hbr] at hb
  exact ⟨congrArg _ hb, congrArg _ hb, runsOff_of_rollers hoff hr, congrArg _ hb, congrArg _ hb⟩

/-- R76: the result of the axle whose rollers have stopped. -/
theorem windowEnded_axleDone {v n : Nat} {a : Axle} (hc : Calm s) (hs : s.brake.state = .stopping)
    (hd : d.totals.still = true) (h49 : s.brake.stopCount = 49) (hb : s.entry.blocked = false)
    (hv : s.brake.vehicle = some v) (hn : s.brake.axle = some n) (ha : (s.record v).axle n = some a) :
    ∃ r, ((windowEnded d rest s).record v).axle n = some (a.withResult s.brake.phase r)
      ∧ r.maxL = s.brake.run.maxL ∧ r.maxR = s.brake.run.maxR ∧ r.dragL = s.brake.run.dragL
      ∧ r.dragR = s.brake.run.dragR ∧ r.overrange = s.brake.run.overrange ∧ r.completed = s.time.now
      ∧ r.traceId = s.brake.openTrace ∧ (windowEnded d rest s).brake.stop = none
      ∧ (windowEnded d rest s).brake.state =
        if s.brake.phase = .service ∧ a.parking = true ∧ a.skip = none then .spinUp else .waitClear := by
  obtain ⟨p, tr, hacted, -⟩ := windowActed_eq d rest s
  let u := (windowTold p tr d rest s).onBrake fun b => { b with stopCount := 50, stop := none }
  have he : windowActed d rest s = axleDone u :=
    hacted.trans ((actOnSample_stopping (s := windowTold p tr d rest s) hs).trans
      (stoppingSample_ends (s := windowTold p tr d rest s) hd h49))
  have hlane : LaneOnly (windowEndTaken d rest s) (hand .brakeSample (axleDone u)) :=
    (((stationOnly_windowTold p tr d rest s).trans (stationOnly_onBrake _ _)).lane.trans (laneOnly_axleDone u)).trans
      (brakeOnly_hand .brakeSample _).station.lane
  obtain ⟨hvt, hrest⟩ := hlane.settles (calm_windowEndTaken hc) hb
  obtain ⟨hstop, hst⟩ := settleHead_axleDone (s := u) (t := hand .brakeSample (axleDone u)) hv hn ha rfl
  unfold windowEnded
  rw [he]
  refine ⟨axleResult u, ?_, rfl, rfl, rfl, rfl, rfl, rfl, rfl, ?_, ?_⟩
  · exact (congrArg (fun r : Record => r.axle n) (record_of_vt hvt v)).trans (axle_axleDone (s := u) hv hn ha)
  · exact (congrArg BrakeStation.stop hrest.brake).trans hstop
  · exact (congrArg BrakeStation.state hrest.brake).trans hst

/-- R75: a window end that does not end the stop. -/
theorem windowEnded_stopping {n : Nat} (hc : Calm s) (hs : s.brake.state = .stopping)
    (hn : n = if d.totals.still then s.brake.stopCount + 1 else 0) (hlt : n < 50) :
    (windowEnded d rest s).brake.state = .stopping ∧ (windowEnded d rest s).brake.stopCount = n
      ∧ (windowEnded d rest s).brake.run = s.brake.run := by
  obtain ⟨p, tr, hacted, -⟩ := windowActed_eq d rest s
  have he := hacted.trans ((actOnSample_stopping (s := windowTold p tr d rest s) hs).trans
    (stoppingSample_counts (s := windowTold p tr d rest s) hn hlt))
  obtain ⟨hb, -⟩ := windowEnd_settles hc (stationOnly_onBrake (fun b => { b with stopCount := n })
    (windowTold p tr d rest s))
  unfold windowEnded
  rw [he]
  exact ⟨(congrArg BrakeStation.state hb).trans hs, (congrArg BrakeStation.stopCount hb :),
    (congrArg BrakeStation.run hb :)⟩

end

/-- R69, R71: the sixteenth sums give the zeros, and SPIN_UP begins. -/
theorem zeroingSample_ends_brake {d : Delivery} {u : State} {l r : Reading} {zl gl zr gr ml mr : Nat}
    (h : u.brake.zeroCount = 15) (hl : d.brakeL = some l) (hr : d.brakeR = some r)
    (hzl : calibration u l.channel = some (zl, gl)) (hzr : calibration u r.channel = some (zr, gr))
    (hml : ml = roundDiv (u.brake.zeroSumL + l.sum) 16) (hmr : mr = roundDiv (u.brake.zeroSumR + r.sum) 16) :
    ∃ b : BrakeStation, (zeroingSample d u).brake = b ∧ b.state = .spinUp
      ∧ b.spinUp = some (later u.time.now 5000) ∧ b.speedCount = 0 ∧ b.phase = u.brake.phase
      ∧ b.subL = zeroFar ml zl ∧ b.subR = zeroFar mr zr
      ∧ b.zeroL = (if b.subL then zl else ml) ∧ b.zeroR = (if b.subR then zr else mr) := by
  have hpl := phaseZero_eq (sum := u.brake.zeroSumL + readingSum d.brakeL) hl hzl
  have hpr := phaseZero_eq (sum := u.brake.zeroSumR + readingSum d.brakeR) hr hzr
  have hsumL : readingSum d.brakeL = l.sum := by rw [hl]; rfl
  have hsumR : readingSum d.brakeR = r.sum := by rw [hr]; rfl
  rw [show roundDiv (u.brake.zeroSumL + readingSum d.brakeL) 16 = ml by rw [hsumL, hml]] at hpl
  rw [show roundDiv (u.brake.zeroSumR + readingSum d.brakeR) 16 = mr by rw [hsumR, hmr]] at hpr
  have hzero : u.brake.zeroed d u = { u.brake.zeroSummed d with
      zeroL := if zeroFar ml zl then zl else ml, zeroR := if zeroFar mr zr then zr else mr
      subL := zeroFar ml zl, subR := zeroFar mr zr } := by
    unfold BrakeStation.zeroed
    rw [hpl, hpr]
  obtain ⟨o, ho⟩ := enterSpinUp_brake (u.onBrake (BrakeStation.zeroed d u))
  rw [State.onBrake_brake, hzero] at ho
  rw [zeroingSample_ends h, ho]
  exact ⟨_, rfl, rfl, rfl, rfl, rfl, rfl, rfl, rfl, rfl⟩

theorem zeroingSample_runs {d : Delivery} {u : State} (h : u.brake.zeroCount = 15) (hr : drivesReady u = true) :
    (zeroingSample d u).rollers.runL = true ∧ (zeroingSample d u).rollers.runR = true := by
  rw [zeroingSample_ends h]
  exact enterSpinUp_runs (s := u.onBrake (BrakeStation.zeroed d u)) hr

/-! ## The live frame and the trace -/

section
variable {d : Delivery} {rest : List Delivery} {s : State}

theorem windowEnded_samples : (windowEnded d rest s).samples
    = (liveBrake (windowSample d s) (windowEndTaken d rest s)).samples := windowEnd_samples d rest s

/-- R64: the window end taken, the history with it, and its sample the last one. -/
theorem windowEnded_sampled : (windowEnded d rest s).sig.brakeInbox = rest
    ∧ (windowEnded d rest s).brake.history = d.totals :: s.brake.history.take 9
    ∧ (windowEnded d rest s).brake.lastSample = some (windowSample d s) := by
  have h := windowEnded_samples (d := d) (rest := rest) (s := s)
  rw [liveBrake_eq] at h
  exact ⟨congrArg SampleView.inbox h, congrArg SampleView.history h, congrArg SampleView.lastSample h⟩

/-- R193: the live frame and its count are as the telling of the sample left them. -/
theorem windowEnded_live {u : State} (h : liveBrake (windowSample d s) (windowEndTaken d rest s) = u) :
    (windowEnded d rest s).port.live = u.port.live
      ∧ (windowEnded d rest s).port.brakeLiveCount = u.port.brakeLiveCount := by
  have hs := windowEnded_samples.trans (congrArg State.samples h)
  exact ⟨congrArg SampleView.live hs, congrArg SampleView.count hs⟩

theorem windowEnded_live_placed (hs : s.brake.state ≠ .idle) (h0 : 0 < s.port.brakeDivider)
    (h : s.port.brakeDivider ≤ s.port.brakeLiveCount + 1) : (windowEnded d rest s).port.brakeLiveCount = 0
      ∧ (windowEnded d rest s).port.live = some (.brake s.brake.state s.brake.vehicle s.brake.axle
        (if s.brake.axle = none then none else some s.brake.phase) (windowSample d s)) := by
  obtain ⟨h1, h2⟩ := windowEnded_live (liveBrake_places (s := windowEndTaken d rest s) hs h0 h)
  have hph : (if s.brake.axle.isSome then some s.brake.phase else none)
      = if s.brake.axle = none then none else some s.brake.phase := by
    cases s.brake.axle <;> rfl
  rw [← hph]
  exact ⟨h2, h1⟩

section
variable {id : Nat} {e : Descriptor} (hc : Calm s) (hrec : Recording d s) (ho : s.brake.openTrace = some id)
  (he : s.traces.find id = some e) (hcl : e.closed = false) (htr : e.truncated = false)

include hc hrec ho he hcl htr

/-- R82: the sample joins a trace whose last block has room. -/
theorem windowEnded_room (hroom : e.samples.length % e.kind.perBlock ≠ 0) :
    ∃ e', (windowEnded d rest s).traces.find id = some e' ∧ e'.samples = e.samples ++ [(windowSample d s).stored] := by
  have ht : (windowEnded d rest s).traces = _ := windowEnd_recorded hc hrec ho
  rw [ht, TraceStore.append_room _ _ he hcl htr hroom]
  exact ⟨_, TraceStore.find_modify_some he fun _ => rfl, rfl⟩

/-- R146: a free block is taken for the sample, or the trace is TRUNCATED. -/
theorem windowEnded_block (hfull : e.samples.length % e.kind.perBlock = 0) :
    (∀ b r, Runs.pop (s.traces.free e.kind) = some (b, r) → (windowEnded d rest s).traces.free e.kind = r
      ∧ ∃ e', (windowEnded d rest s).traces.find id = some e' ∧ e'.blocks = Runs.snoc e.blocks (b, 1)
        ∧ e'.samples = e.samples ++ [(windowSample d s).stored])
    ∧ (Runs.count (s.traces.free e.kind) = 0 →
        (windowEnded d rest s).traces.find id = some { e with truncated := true }) := by
  have ht : (windowEnded d rest s).traces = _ := windowEnd_recorded hc hrec ho
  rw [ht]
  refine ⟨fun b r hp => ?_, fun h0 => ?_⟩
  · obtain ⟨e', he', hroom, hblock, -⟩ := TraceStore.find_append (windowSample d s).stored (windowSample d s).time he
      hcl htr
    obtain ⟨hbl, hfr⟩ := hblock b r hfull hp
    have hpos : 0 < Runs.count (s.traces.free e.kind) := Nat.pos_of_ne_zero fun hz => by
      rw [(Runs.pop_eq_none_iff _).mpr hz] at hp
      cases hp
    exact ⟨hfr, e', he', hbl, hroom (.inr hpos)⟩
  · rw [TraceStore.append_truncated _ _ he hcl htr hfull ((Runs.pop_eq_none_iff _).mpr h0)]
    exact TraceStore.find_modify_some he fun _ => rfl

end

/-! ## ZEROING, SPIN_UP and DRAG -/

theorem windowEnded_zeroing_counts {l r : Reading} (hc : Calm s) (hs : s.brake.state = .zeroing)
    (hf : d.brakeFaulted = false) (hl : d.brakeL = some l) (hr : d.brakeR = some r) (h : s.brake.zeroCount < 15) :
    (windowEnded d rest s).brake.state = .zeroing
      ∧ (windowEnded d rest s).brake.zeroCount = s.brake.zeroCount + 1
      ∧ (windowEnded d rest s).brake.zeroSumL = s.brake.zeroSumL + l.sum
      ∧ (windowEnded d rest s).brake.zeroSumR = s.brake.zeroSumR + r.sum := by
  obtain ⟨p, tr, hb, -⟩ := windowEnded_zeroing (rest := rest) hc hs hf
  have hsumL : readingSum d.brakeL = l.sum := by rw [hl]; rfl
  have hsumR : readingSum d.brakeR = r.sum := by rw [hr]; rfl
  rw [hb, zeroingSample_counts (s := windowTold p tr d rest s) h, ← hsumL, ← hsumR]
  exact ⟨hs, rfl, rfl, rfl⟩

theorem windowEnded_zeroing_ends {l r : Reading} {zl gl zr gr ml mr : Nat} (hc : Calm s)
    (hs : s.brake.state = .zeroing) (hf : d.brakeFaulted = false) (hl : d.brakeL = some l) (hr : d.brakeR = some r)
    (h : s.brake.zeroCount = 15) (hzl : calibration s l.channel = some (zl, gl))
    (hzr : calibration s r.channel = some (zr, gr)) (hml : ml = roundDiv (s.brake.zeroSumL + l.sum) 16)
    (hmr : mr = roundDiv (s.brake.zeroSumR + r.sum) 16) :
    (∃ b : BrakeStation, (windowEnded d rest s).brake = b ∧ b.state = .spinUp
      ∧ b.spinUp = some (later s.time.now 5000) ∧ b.speedCount = 0 ∧ b.phase = s.brake.phase
      ∧ b.subL = zeroFar ml zl ∧ b.subR = zeroFar mr zr
      ∧ b.zeroL = (if b.subL then zl else ml) ∧ b.zeroR = (if b.subR then zr else mr))
    ∧ (drivesReady s = true → (windowEnded d rest s).sig.outputs.runL = true
      ∧ (windowEnded d rest s).sig.outputs.runR = true) := by
  obtain ⟨p, tr, hb, hrol⟩ := windowEnded_zeroing (rest := rest) hc hs hf
  refine ⟨?_, fun hready => ?_⟩
  · rw [hb]
    exact zeroingSample_ends_brake (u := windowTold p tr d rest s) h hl hr hzl hzr hml hmr
  · obtain ⟨hrunL, hrunR⟩ := zeroingSample_runs (d := d) (u := windowTold p tr d rest s) h hready
    exact ⟨(congrArg Rollers.runL hrol).trans hrunL, (congrArg Rollers.runR hrol).trans hrunR⟩

theorem windowEnded_inBand {a b : Nat} (hc : Calm s) (hs : s.brake.state = .spinUp) (hf : d.brakeFaulted = false)
    (ha : (windowSample d s).speedL = some a) (hb : (windowSample d s).speedR = some b)
    (hina : ((a : Int) - (s.cal.constants.testSpeed : Int)).natAbs * 10 ≤ s.cal.constants.testSpeed)
    (hinb : ((b : Int) - (s.cal.constants.testSpeed : Int)).natAbs * 10 ≤ s.cal.constants.testSpeed) :
    (s.brake.speedCount < 4 → (windowEnded d rest s).brake.state = .spinUp
      ∧ (windowEnded d rest s).brake.speedCount = s.brake.speedCount + 1)
    ∧ (4 ≤ s.brake.speedCount → (windowEnded d rest s).brake.state = .drag
      ∧ (windowEnded d rest s).brake.spinUp = none ∧ (windowEnded d rest s).brake.dragCount = 0
      ∧ (windowEnded d rest s).brake.run.dragSumL = 0 ∧ (windowEnded d rest s).brake.run.dragSumR = 0) := by
  obtain ⟨p, tr, hbr⟩ := windowEnded_spinUp (rest := rest) hc hs hf
  have hband : bothInBand (windowSample d s) (windowTold p tr d rest s) = true :=
    Bool.and_eq_true_iff.mpr ⟨ha ▸ speedOk_some.mpr hina, hb ▸ speedOk_some.mpr hinb⟩
  refine ⟨fun h => ?_, fun h => ?_⟩
  · rw [hbr, spinUpSample_counts hband h]
    exact ⟨hs, rfl⟩
  · rw [hbr, spinUpSample_ends hband h]
    exact ⟨rfl, rfl, rfl, rfl, rfl⟩

theorem windowEnded_outOfBand (hc : Calm s) (hs : s.brake.state = .spinUp) (hf : d.brakeFaulted = false)
    (hout : (windowSample d s).speedL = none ∨ (windowSample d s).speedR = none ∨ ∃ a : Nat,
      ((windowSample d s).speedL = some a ∨ (windowSample d s).speedR = some a) ∧ s.cal.constants.testSpeed
        < ((a : Int) - (s.cal.constants.testSpeed : Int)).natAbs * 10) :
    (windowEnded d rest s).brake.state = .spinUp ∧ (windowEnded d rest s).brake.speedCount = 0 := by
  obtain ⟨p, tr, hb⟩ := windowEnded_spinUp (rest := rest) hc hs hf
  rw [hb, spinUpSample_out (s := windowTold p tr d rest s) (speedOk_pair_false hout)]
  exact ⟨hs, rfl⟩

theorem windowEnded_drag_sums (hc : Calm s) (hs : s.brake.state = .drag) (hf : d.brakeFaulted = false) :
    (windowEnded d rest s).brake.run.dragSumL = s.brake.run.dragSumL + (windowSample d s).forceL.getD 0
      ∧ (windowEnded d rest s).brake.run.dragSumR = s.brake.run.dragSumR + (windowSample d s).forceR.getD 0
      ∧ (windowEnded d rest s).brake.run.overrange
        = (s.brake.run.overrange || (windowSample d s).clampL || (windowSample d s).clampR) := by
  obtain ⟨p, tr, hb⟩ := windowEnded_drag (rest := rest) hc hs hf
  rw [hb]
  exact dragSample_sums (windowSample d s) (windowTold p tr d rest s)

theorem windowEnded_drag_counts (hc : Calm s) (hs : s.brake.state = .drag) (hf : d.brakeFaulted = false)
    (h : s.brake.dragCount < 199) : (windowEnded d rest s).brake.state = .drag
      ∧ (windowEnded d rest s).brake.dragCount = s.brake.dragCount + 1 := by
  obtain ⟨p, tr, hb⟩ := windowEnded_drag (rest := rest) hc hs hf
  rw [hb, dragSample_counts (s := windowTold p tr d rest s) h]
  exact ⟨hs, rfl⟩

/-- R72, R96: the drags are those of the sums with this sample. -/
theorem windowEnded_drag_ends (hc : Calm s) (hs : s.brake.state = .drag) (hf : d.brakeFaulted = false)
    (h : s.brake.dragCount = 199) : ∃ b : BrakeStation, (windowEnded d rest s).brake = b ∧ b.state = .braking
      ∧ b.braking = some (later s.time.now 20000) ∧ b.run.dragL = roundDiv b.run.dragSumL 200
      ∧ b.run.dragR = roundDiv b.run.dragSumR 200 ∧ b.run.maxL = 0 ∧ b.run.maxR = 0 ∧ b.run.maxLR = 0 ∧ b.held = []
      ∧ b.slipRunL = 0 ∧ b.slipRunR = 0 ∧ b.releaseCount = 0 := by
  obtain ⟨p, tr, hb⟩ := windowEnded_drag (rest := rest) hc hs hf
  rw [hb, dragSample_ends (s := windowTold p tr d rest s) h.ge]
  exact ⟨_, rfl, rfl, rfl, rfl, rfl, rfl, rfl, rfl, rfl, rfl, rfl, rfl⟩

/-! ## BRAKING -/

/-- R74: a slip stop for one cause leaves the running values. -/
theorem windowEnded_slipStop {c : EndCause} (hc : Calm s) (hs : s.brake.state = .braking) (hf : d.brakeFaulted = false)
    (h : 3 ≤ (s.brake.runs (windowSample d s)).slipRunL ∨ 3 ≤ (s.brake.runs (windowSample d s)).slipRunR)
    (hcause : slipCause (s.brake.runs (windowSample d s)) = c) : (windowEnded d rest s).brake.state = .stopping
      ∧ (windowEnded d rest s).brake.run.endCause = some c ∧ (windowEnded d rest s).sig.outputs.runL = false
      ∧ (windowEnded d rest s).sig.outputs.runR = false ∧ (windowEnded d rest s).brake.held = []
      ∧ (windowEnded d rest s).brake.stop = some (later s.time.now 5000)
      ∧ (windowEnded d rest s).brake.run.maxL = s.brake.run.maxL
      ∧ (windowEnded d rest s).brake.run.maxR = s.brake.run.maxR := by
  obtain ⟨h1, hrun, ⟨hoffL, hoffR⟩, hheld, hstop⟩ := windowEnded_slips (rest := rest) hc hs hf h
  rw [hrun, hcause]
  exact ⟨h1, rfl, hoffL, hoffR, hheld, hstop, rfl, rfl⟩

end

section
variable {b : BrakeStation} {x : BrakeSample}

/-- R74: the left side reaches 3 alone. -/
theorem slipCause_runs_left (h2 : b.slipRunL = 2) (hl : b.slipLimit ≤ x.slipL)
    (hr : x.slipR < b.slipLimit ∨ b.slipRunR < 2) :
    (3 ≤ (b.runs x).slipRunL ∨ 3 ≤ (b.runs x).slipRunR) ∧ slipCause (b.runs x) = .slipStopL := by
  have h3 : (b.runs x).slipRunL = 3 := (nextRun_slips hl).trans (congrArg Nat.succ h2)
  exact ⟨.inl h3.ge, slipCause_left h3.ge (nextRun_short hr)⟩

/-- R74: the right side reaches 3 alone. -/
theorem slipCause_runs_right (h2 : b.slipRunR = 2) (hr : b.slipLimit ≤ x.slipR)
    (hl : x.slipL < b.slipLimit ∨ b.slipRunL < 2) :
    (3 ≤ (b.runs x).slipRunL ∨ 3 ≤ (b.runs x).slipRunR) ∧ slipCause (b.runs x) = .slipStopR := by
  have h3 : (b.runs x).slipRunR = 3 := (nextRun_slips hr).trans (congrArg Nat.succ h2)
  exact ⟨.inr h3.ge, slipCause_right (nextRun_short hl)⟩

/-- R74: both sides reach 3, and the starts are those of their first samples. -/
theorem slipCause_runs_both (h2l : b.slipRunL = 2) (h2r : b.slipRunR = 2) (hl : b.slipLimit ≤ x.slipL)
    (hr : b.slipLimit ≤ x.slipR) : (3 ≤ (b.runs x).slipRunL ∨ 3 ≤ (b.runs x).slipRunR) ∧ slipCause (b.runs x) =
      if (b.slipStartR - b.slipStartL).toInt < 0 then .slipStopR else .slipStopL := by
  have h3l : (b.runs x).slipRunL = 3 := (nextRun_slips hl).trans (congrArg Nat.succ h2l)
  have h3r : (b.runs x).slipRunR = 3 := (nextRun_slips hr).trans (congrArg Nat.succ h2r)
  have hsl : (b.runs x).slipStartL = b.slipStartL := if_neg (ne_of_eq_of_ne h3l (by decide))
  have hsr : (b.runs x).slipStartR = b.slipStartR := if_neg (ne_of_eq_of_ne h3r (by decide))
  exact ⟨.inl h3l.ge, by rw [slipCause_both h3l.ge h3r.ge, hsl, hsr]⟩

/-- R73: the runs and their starts after a sample. -/
theorem BrakeStation.runs_values {l r : Nat} {sl sr : LaneTime}
    (hl : l = if b.slipLimit ≤ x.slipL then b.slipRunL + 1 else 0)
    (hr : r = if b.slipLimit ≤ x.slipR then b.slipRunR + 1 else 0)
    (hsl : sl = if l = 1 then x.time else b.slipStartL) (hsr : sr = if r = 1 then x.time else b.slipStartR) :
    (b.runs x).slipRunL = l ∧ (b.runs x).slipRunR = r ∧ (b.runs x).slipStartL = sl ∧ (b.runs x).slipStartR = sr := by
  subst hl hr hsl hsr
  exact ⟨rfl, rfl, rfl, rfl⟩

theorem BrakeStation.gripped_run : (b.gripped x).run
    = ((b.held ++ [x]).filter (b.runs x).foldable).foldl (Running.fold b.imbFloor) b.run := rfl

theorem BrakeStation.gripped_held : (b.gripped x).held = (b.held ++ [x]).filter fun y => !(b.runs x).foldable y := rfl

end

/-- R73 step 3, R74: the release is counted while the sum has fallen below half of its maximum, and ends the phase at
100. -/
theorem brakingSample_release {u : State} {x : BrakeSample} {run : Running} (hs : u.brake.state = .braking)
    (hl : x.slipL < u.brake.slipLimit) (hr : x.slipR < u.brake.slipLimit)
    (hrun : run = (u.brake.held ++ [x]).foldl (Running.fold u.brake.imbFloor) u.brake.run) :
    (run.maxLR < 200 ∨ run.maxLR ≤ 2 * x.both →
      (brakingSample x u).brake.state = .braking ∧ (brakingSample x u).brake.releaseCount = 0)
    ∧ (200 ≤ run.maxLR → 2 * x.both < run.maxLR → u.brake.releaseCount < 99 →
      (brakingSample x u).brake.state = .braking
        ∧ (brakingSample x u).brake.releaseCount = u.brake.releaseCount + 1)
    ∧ (200 ≤ run.maxLR → 2 * x.both < run.maxLR → u.brake.releaseCount = 99 →
      (brakingSample x u).brake.state = .stopping ∧ (brakingSample x u).brake.run.endCause = some .release
        ∧ RunsOff (brakingSample x u) ∧ (brakingSample x u).brake.braking = none
        ∧ (brakingSample x u).brake.stopCount = 0
        ∧ (brakingSample x u).brake.stop = some (later u.time.now 5000)) := by
  obtain ⟨h0l, h0r, hgrun, -⟩ := BrakeStation.gripped_free hl hr
  have hl3 := h0l.trans_lt (show 0 < 3 by decide)
  have hr3 := h0r.trans_lt (show 0 < 3 by decide)
  obtain ⟨hnone, hrelease⟩ := BrakeStation.gripped_release (x := x) (b := u.brake)
  rw [hgrun, ← hrun] at hnone hrelease
  obtain ⟨hstay, hend⟩ := brakingSample_grips_brake hl3 hr3
  refine ⟨fun h => ?_, fun hmax hfall hn => ?_, fun hmax hfall hn => ?_⟩
  · have h0 := hnone h
    rw [hstay (h0.trans_lt (by decide))]
    exact ⟨hs, h0⟩
  · have h0 := hrelease hmax hfall
    rw [hstay (h0.trans_lt (Nat.succ_lt_succ hn))]
    exact ⟨hs, h0⟩
  · have h0 := (hrelease hmax hfall).trans (congrArg Nat.succ hn)
    have hoff := brakingSample_released hl3 hr3 h0.ge
    rw [hend h0.ge]
    exact ⟨rfl, rfl, hoff, rfl, rfl, rfl⟩

section
variable {d : Delivery} {rest : List Delivery} {s : State}

/-- R73 step 2: the samples that stand no later than the start of every run are folded, the others held. -/
theorem windowEnded_folds {l r : Nat} {sl sr : LaneTime} {free : BrakeSample → Bool} (hc : Calm s)
    (hs : s.brake.state = .braking) (hf : d.brakeFaulted = false)
    (hv : (s.brake.runs (windowSample d s)).slipRunL = l ∧ (s.brake.runs (windowSample d s)).slipRunR = r
      ∧ (s.brake.runs (windowSample d s)).slipStartL = sl ∧ (s.brake.runs (windowSample d s)).slipStartR = sr)
    (hl3 : l < 3) (hr3 : r < 3)
    (hfree : ∀ y, free y = true ↔ (l = 0 ∨ 0 ≤ (sl - y.time).toInt) ∧ (r = 0 ∨ 0 ≤ (sr - y.time).toInt)) :
    (windowEnded d rest s).brake.slipRunL = l ∧ (windowEnded d rest s).brake.slipRunR = r
      ∧ (windowEnded d rest s).brake.slipStartL = sl ∧ (windowEnded d rest s).brake.slipStartR = sr
      ∧ (windowEnded d rest s).brake.run =
        { ((s.brake.held ++ [windowSample d s]).filter free).foldl (Running.fold s.brake.imbFloor) s.brake.run with
          endCause := (windowEnded d rest s).brake.run.endCause }
      ∧ ((windowEnded d rest s).brake.state = .braking →
        (windowEnded d rest s).brake.held = (s.brake.held ++ [windowSample d s]).filter fun y => !free y) := by
  obtain ⟨hL, hR, hSL, hSR⟩ := hv
  have hfold : (s.brake.runs (windowSample d s)).foldable = free := funext fun y => by
    rw [Bool.eq_iff_iff, hfree y, BrakeStation.foldable_iff, hL, hR, hSL, hSR]
  obtain ⟨p, tr, hb, -⟩ := windowEnded_braking (rest := rest) hc hs hf
  obtain ⟨⟨h1, h2, h3, h4⟩, hrun, hheld⟩ := brakingSample_folds (x := windowSample d s)
    (s := windowTold p tr d rest s) (hL.trans_lt hl3) (hR.trans_lt hr3)
  rw [← hb] at h1 h2 h3 h4 hrun hheld
  have hgrun := BrakeStation.gripped_run (b := s.brake) (x := windowSample d s)
  have hgheld := BrakeStation.gripped_held (b := s.brake) (x := windowSample d s)
  rw [hfold] at hgrun hgheld
  refine ⟨h1.trans hL, h2.trans hR, h3.trans hSL, h4.trans hSR, ?_, fun hst => ?_⟩
  · rw [← hgrun]
    exact hrun
  · rw [← hgheld]
    exact hheld.resolve_right fun h => by rw [hst] at h; cases h.1

section
variable {run : Running} (hc : Calm s) (hs : s.brake.state = .braking) (hf : d.brakeFaulted = false)
  (hl : (windowSample d s).slipL < s.brake.slipLimit) (hr : (windowSample d s).slipR < s.brake.slipLimit)
  (hrun : run = (s.brake.held ++ [windowSample d s]).foldl (Running.fold s.brake.imbFloor) s.brake.run)

include hc hs hf hl hr hrun

/-- R73: while neither side slips, everything held is folded with the sample. -/
theorem windowEnded_grips : (windowEnded d rest s).brake.run =
      { run with endCause := (windowEnded d rest s).brake.run.endCause }
    ∧ (windowEnded d rest s).brake.held = [] ∧ (windowEnded d rest s).brake.slipRunL = 0
    ∧ (windowEnded d rest s).brake.slipRunR = 0 := by
  obtain ⟨h0l, h0r, hgrun, hgheld⟩ := BrakeStation.gripped_free hl hr
  obtain ⟨p, tr, hb, -⟩ := windowEnded_braking (rest := rest) hc hs hf
  obtain ⟨⟨h1, h2, -, -⟩, hfolded, hheld⟩ := brakingSample_folds (x := windowSample d s)
    (s := windowTold p tr d rest s) (h0l.trans_lt (by decide)) (h0r.trans_lt (by decide))
  rw [← hb] at h1 h2 hfolded hheld
  rw [hrun, ← hgrun]
  exact ⟨hfolded, hheld.elim (fun h => h.trans hgheld) (fun h => h.2), h1.trans h0l, h2.trans h0r⟩

theorem windowEnded_release :
    (run.maxLR < 200 ∨ run.maxLR ≤ 2 * (windowSample d s).both →
      (windowEnded d rest s).brake.state = .braking ∧ (windowEnded d rest s).brake.releaseCount = 0)
    ∧ (200 ≤ run.maxLR → 2 * (windowSample d s).both < run.maxLR → s.brake.releaseCount < 99 →
      (windowEnded d rest s).brake.state = .braking
        ∧ (windowEnded d rest s).brake.releaseCount = s.brake.releaseCount + 1)
    ∧ (200 ≤ run.maxLR → 2 * (windowSample d s).both < run.maxLR → s.brake.releaseCount = 99 →
      (windowEnded d rest s).brake.state = .stopping ∧ (windowEnded d rest s).brake.run.endCause = some .release
        ∧ (windowEnded d rest s).sig.outputs.runL = false ∧ (windowEnded d rest s).sig.outputs.runR = false
        ∧ (windowEnded d rest s).brake.braking = none ∧ (windowEnded d rest s).brake.stopCount = 0
        ∧ (windowEnded d rest s).brake.stop = some (later s.time.now 5000)) := by
  obtain ⟨p, tr, hb, hrol⟩ := windowEnded_braking (rest := rest) hc hs hf
  obtain ⟨hnone, hcounts, hends⟩ := brakingSample_release (x := windowSample d s) (u := windowTold p tr d rest s) hs hl
    hr hrun
  rw [hb]
  refine ⟨hnone, hcounts, fun hmax hfall hn => ?_⟩
  obtain ⟨h1, h2, hoff, h3, h4, h5⟩ := hends hmax hfall hn
  obtain ⟨hoffL, hoffR⟩ := runsOff_of_rollers hoff hrol
  exact ⟨h1, h2, hoffL, hoffR, h3, h4, h5⟩

end

/-! ## STOPPING -/

theorem windowEnded_moving (hc : Calm s) (hs : s.brake.state = .stopping)
    (h : d.totals.driveL ≠ 0 ∨ d.totals.driveR ≠ 0) : (windowEnded d rest s).brake.state = .stopping
      ∧ (windowEnded d rest s).brake.stopCount = 0 ∧ (windowEnded d rest s).brake.run = s.brake.run := by
  have hmoves : d.totals.still = false := Bool.eq_false_iff.mpr fun hstill => by
    obtain ⟨h1, h2⟩ := still_iff.mp hstill
    exact h.elim (fun k => k h1) fun k => k h2
  exact windowEnded_stopping hc hs (by rw [hmoves]; rfl) (by decide)

theorem windowEnded_still (hc : Calm s) (hs : s.brake.state = .stopping) (hl : d.totals.driveL = 0)
    (hr : d.totals.driveR = 0) (h : s.brake.stopCount < 49) : (windowEnded d rest s).brake.state = .stopping
      ∧ (windowEnded d rest s).brake.stopCount = s.brake.stopCount + 1
      ∧ (windowEnded d rest s).brake.run = s.brake.run := by
  have hstill : d.totals.still = true := still_iff.mpr ⟨hl, hr⟩
  exact windowEnded_stopping hc hs (by rw [hstill]; rfl) (Nat.succ_lt_succ h)

end

/-! ## O39 -/

/-- Settles O39: the sample and what it tells stand whatever follows; in each state of a phase the state's own operation
decides, and what follows it leaves the station. -/
theorem brakeWindowEndSamplesAndStopsTheSlip : Obligations.BrakeWindowEndSamplesAndStopsTheSlip := by
  intro s d rest hc hi
  obtain ⟨hinbox, hhistory, hlast⟩ := windowEnded_sampled (d := d) (rest := rest) (s := s)
  refine ⟨windowEnded d rest s, windowSample d s, exec_brakeWindowEnd hi, hinbox, hhistory, hlast, rfl, rfl,
    fun r z g hr hf hg => ?_, fun r z g hr hf hg => ?_, rfl,
    fun h => windowEnded_live (u := windowEndTaken d rest s) (liveBrake_off h),
    fun hs h => windowEnded_live (liveBrake_counts (s := windowEndTaken d rest s) hs h),
    fun hs h0 h => windowEnded_live_placed hs h0 h,
    fun id e hrec ho he hcl htr hroom => windowEnded_room hc hrec ho he hcl htr hroom,
    fun id e hrec ho he hcl htr hfull => windowEnded_block hc hrec ho he hcl htr hfull,
    fun ha hs hf => ?_, fun l r hs hl hr hf => ⟨fun h => windowEnded_zeroing_counts hc hs hf hl hr h,
      fun zl gl zr gr ml mr h hzl hzr hml hmr => ?_⟩,
    fun hs hf => ⟨fun a b ha hb hina hinb => windowEnded_inBand hc hs hf ha hb hina hinb,
      fun hout => windowEnded_outOfBand hc hs hf hout⟩,
    fun hs hf => ?_, fun hs hf h2 hl hr => ?_, fun hs hf h2 hr hl => ?_, fun hs hf h2l h2r hl hr => ?_,
    fun l r sl sr free hs hf hl hr hl3 hr3 hsl hsr hfree =>
      windowEnded_folds hc hs hf (BrakeStation.runs_values hl hr hsl hsr) hl3 hr3 hfree,
    fun run hs hf hl hr hrun => ?_, fun hs => ⟨windowEnded_moving hc hs, windowEnded_still hc hs,
      fun v n a hzl hzr h49 hbl hv hn ha => ?_⟩⟩
  · have h := sideForce_usable (pz := s.brake.zeroL) (s := s.onBrake (BrakeStation.joined d)) hr hf hg
    exact ⟨congrArg Prod.fst h, congrArg Prod.snd h⟩
  · have h := sideForce_usable (pz := s.brake.zeroR) (s := s.onBrake (BrakeStation.joined d)) hr hf hg
    exact ⟨congrArg Prod.fst h, congrArg Prod.snd h⟩
  · obtain ⟨h1, h2, h3, h4⟩ := windowEnded_faulted (rest := rest) hc ha hs hf
    exact ⟨h1, h2, h3, h4⟩
  · obtain ⟨⟨b, hb, h1, h2, h3, h4, h5, h6, h7, h8⟩, hruns⟩ :=
      windowEnded_zeroing_ends (rest := rest) hc hs hf hl hr h hzl hzr hml hmr
    rw [hb]
    exact ⟨h1, h2, h3, h4, h5, h6, h7, h8, hruns⟩
  · obtain ⟨h1, h2, h3⟩ := windowEnded_drag_sums (rest := rest) hc hs hf
    refine ⟨h1, h2, h3, windowEnded_drag_counts hc hs hf, fun h => ?_⟩
    obtain ⟨b, hb, hdone⟩ := windowEnded_drag_ends (rest := rest) hc hs hf h
    rw [hb]
    exact hdone
  · obtain ⟨h3, hcause⟩ := slipCause_runs_left h2 hl hr
    exact windowEnded_slipStop hc hs hf h3 hcause
  · obtain ⟨h3, hcause⟩ := slipCause_runs_right h2 hr hl
    exact windowEnded_slipStop hc hs hf h3 hcause
  · obtain ⟨h3, hcause⟩ := slipCause_runs_both h2l h2r hl hr
    obtain ⟨h1, hend, hoffL, hoffR, hheld, -⟩ := windowEnded_slipStop (rest := rest) hc hs hf h3 hcause
    exact ⟨h1, hend, hoffL, hoffR, hheld⟩
  · obtain ⟨h1, h2, h4, h5⟩ := windowEnded_grips (rest := rest) hc hs hf hl hr hrun
    refine ⟨h1, h2, h4, h5, fun hempty => ?_, windowEnded_release hc hs hf hl hr hrun⟩
    rw [hrun, hempty]
    exact ⟨rfl, rfl, rfl, rfl, rfl, rfl⟩
  · obtain ⟨r, hax, hr⟩ := windowEnded_axleDone (rest := rest) hc hs (still_iff.mpr ⟨hzl, hzr⟩) h49 hbl hv hn ha
    exact ⟨r, _, hax, rfl, hr⟩

end Sys2Proof.Machine
end

section
/-! SUPPORT. Totals and verdicts of a record (R99, R100, R102 to R104): the rounded quotient, the three judgements, the
items of a set, and O45. -/

namespace Sys2Proof.Machine

/-! ## Rounding (R89) and the efficiency (R99) -/

/-- R89: the rounded quotient is the one multiple within half a divisor of the dividend, a half going up. -/
theorem roundDiv_bounds (n : Nat) {d : Nat} (hd : 0 < d) :
    2 * (roundDiv n d * d) ≤ 2 * n + d ∧ 2 * n < 2 * (roundDiv n d * d) + d := by
  have hsplit : n / d * d + n % d = n := Nat.div_add_mod' n d
  have hrem : n % d < d := Nat.mod_lt n hd
  unfold roundDiv
  split
  · omega
  · have hup : (n / d + 1) * d = n / d * d + d := Nat.add_one_mul _ _
    omega

theorem efficiency_le (f m : Nat) : efficiency f m ≤ 2000 := Nat.min_le_left _ _

/-- R99: the clamp only lowers the rounded quotient, and below 2000 it leaves it. -/
theorem efficiency_bounds (f : Nat) {m : Nat} (hm : m ≠ 0) :
    2 * (efficiency f m * (m * 981)) ≤ 2 * (f * 1000000) + m * 981
      ∧ (efficiency f m < 2000 → 2 * (f * 1000000) < 2 * (efficiency f m * (m * 981)) + m * 981) := by
  obtain ⟨hlow, hhigh⟩ := roundDiv_bounds (f * 1000000) (d := m * 981) (by omega)
  refine ⟨?_, fun hlt => ?_⟩
  · have hle : efficiency f m * (m * 981) ≤ roundDiv (f * 1000000) (m * 981) * (m * 981) :=
      Nat.mul_le_mul_right _ (Nat.min_le_right _ _)
    omega
  · have heq : efficiency f m = roundDiv (f * 1000000) (m * 981) := by
      unfold efficiency at hlt ⊢
      omega
    rwa [heq]

/-! ## The two efficiencies and their bounds (R99, R100) -/

theorem effOf_absent_iff {m : Nat} {p : Bool} {rs : List AxleResult} :
    (p || m == 0 || rs.isEmpty) = true ↔ p = true ∨ m = 0 ∨ rs = [] := by
  simp [or_assoc]

theorem effOf_eq_none_iff {m : Nat} {p : Bool} {rs : List AxleResult} :
    effOf m p rs = none ↔ p = true ∨ m = 0 ∨ rs = [] := by
  rw [← effOf_absent_iff, effOf]
  split <;> simp [*]

theorem effOf_eq_some {m : Nat} {p : Bool} {rs : List AxleResult} {e : Nat} (h : effOf m p rs = some e) :
    p = false ∧ m ≠ 0 ∧ rs ≠ [] ∧ e = efficiency (forceTotal rs) m := by
  unfold effOf at h
  split at h
  · cases h
  · next hpresent =>
    rw [effOf_absent_iff, not_or, not_or, Bool.not_eq_true] at hpresent
    obtain ⟨hp, hm, hrs⟩ := hpresent
    exact ⟨hp, hm, hrs, (Option.some.inj h).symm⟩

/-- R99, R100: a present efficiency is at most 2000 and the quotient of its force by the mass, rounded. -/
theorem effOf_bounds {m : Nat} {p : Bool} {rs : List AxleResult} {e : Nat} (h : effOf m p rs = some e) :
    e ≤ 2000 ∧ ∀ d q, d = m * 981 → q = forceTotal rs * 1000000 →
      2 * (e * d) ≤ 2 * q + d ∧ (e < 2000 → 2 * q < 2 * (e * d) + d) := by
  obtain ⟨-, hm, -, rfl⟩ := effOf_eq_some h
  refine ⟨efficiency_le _ _, ?_⟩
  rintro d q rfl rfl
  exact efficiency_bounds _ hm

theorem boundOf_iff {eff : Option Nat} {rs : List AxleResult} :
    boundOf eff rs = true ↔ eff ≠ none ∧ ∃ r ∈ rs, r.overrange = true := by
  simp [boundOf, Option.isSome_iff_ne_none]

theorem mem_serviceResults {axles : List Axle} {r : AxleResult} :
    r ∈ serviceResults axles ↔ ∃ a ∈ axles, a.service = some r := List.mem_filterMap

theorem mem_parkingResults {axles : List Axle} {r : AxleResult} :
    r ∈ parkingResults axles ↔ ∃ a ∈ axles, a.parking = true ∧ a.parkingResult = some r := by
  simp [parkingResults, and_assoc]

theorem serviceResults_eq_nil_iff {axles : List Axle} :
    serviceResults axles = [] ↔ ∀ a ∈ axles, a.service = none := List.filterMap_eq_nil_iff

theorem parkingResults_eq_nil_iff {axles : List Axle} :
    parkingResults axles = [] ↔ ∀ a ∈ axles, a.parking = true → a.parkingResult = none := by
  simp [parkingResults]

theorem any_parking_of_results {axles : List Axle} (h : parkingResults axles ≠ []) : axles.any Axle.parking = true := by
  obtain ⟨r, hr⟩ := List.exists_mem_of_ne_nil _ h
  obtain ⟨a, ha, hp, -⟩ := mem_parkingResults.mp hr
  exact List.any_eq_true.mpr ⟨a, ha, hp⟩

/-! ## The mass (R99) -/

theorem bothSum_eq_none_iff {l r : Option Nat} : bothSum l r = none ↔ l = none ∨ r = none := by
  cases l <;> cases r <;> simp [bothSum]

theorem partialMass_iff {a : Axle} :
    a.partialMass = true ↔ a.weightL = none ∨ a.weightR = none ∨ a.overrange = true := by
  simp [Axle.partialMass, Axle.weight, bothSum_eq_none_iff, or_assoc]

theorem totalsOf_massPartial {c : Option ClassEntry} {axles : List Axle} :
    (totalsOf c axles).massPartial = true
      ↔ ∃ a ∈ axles, a.weightL = none ∨ a.weightR = none ∨ a.overrange = true := by
  rw [show (totalsOf c axles).massPartial = axles.any Axle.partialMass from rfl, List.any_eq_true]
  simp only [partialMass_iff]

/-! ## The three judgements (R103) -/

@[simp] theorem judgeMax_none (limit : Nat) : judgeMax limit none = .notTested := rfl
@[simp] theorem judgeMax_some (limit v : Nat) : judgeMax limit (some v) = if v ≤ limit then .pass else .fail := rfl

@[simp] theorem judgeEff_none (minimum : Nat) (bound : Bool) : judgeEff minimum bound none = .notTested := rfl
@[simp] theorem judgeEff_some (minimum v : Nat) (bound : Bool) :
    judgeEff minimum bound (some v) = if minimum ≤ v then .pass else if bound then .notTested else .fail := rfl

theorem judgeAxle_weight_unlimited {c : ClassEntry} (h : c.maxAxleWeight = 0) (a : Axle) :
    (judgeAxle c a).weight = none := if_pos h

theorem judgeAxle_weight_limited {c : ClassEntry} (h : c.maxAxleWeight ≠ 0) (a : Axle) :
    (judgeAxle c a).weight = some (judgeWeight c.maxAxleWeight a.overrange (bothSum a.weightL a.weightR)) := if_neg h

/-- R102, R103: what each item of an axle is judged by, and when it is not tested. -/
theorem judgeAxle_items (c : ClassEntry) (a : Axle) :
    (∀ r i, a.service = some r → r.imbalanceMax = some i →
        (judgeAxle c a).imbalance = (if i ≤ c.maxImbalance then .pass else .fail))
      ∧ (∀ r, a.service = some r → r.imbalanceMax = none → (judgeAxle c a).imbalance = .notTested)
      ∧ (∀ r, a.service = some r → (judgeAxle c a).dragL = (if r.dragL ≤ c.maxDrag then .pass else .fail)
          ∧ (judgeAxle c a).dragR = (if r.dragR ≤ c.maxDrag then .pass else .fail))
      ∧ (a.service = none → (judgeAxle c a).imbalance = .notTested ∧ (judgeAxle c a).dragL = .notTested
          ∧ (judgeAxle c a).dragR = .notTested)
      ∧ (∀ x, a.sideSlip = some x → (judgeAxle c a).sideSlip = (if x.natAbs ≤ c.maxSideSlip then .pass else .fail))
      ∧ (a.sideSlip = none → (judgeAxle c a).sideSlip = .notTested)
      ∧ (c.maxAxleWeight = 0 → (judgeAxle c a).weight = none)
      ∧ (∀ l r, c.maxAxleWeight ≠ 0 → a.weightL = some l → a.weightR = some r → (judgeAxle c a).weight = some
          (if c.maxAxleWeight < l + r then .fail else if a.overrange then .notTested else .pass))
      ∧ (c.maxAxleWeight ≠ 0 → a.weightL = none ∨ a.weightR = none → (judgeAxle c a).weight = some .notTested) := by
  refine ⟨fun r i hs hi => ?imbalance, fun r hs hi => ?noImbalance, fun r hs => ?drags, fun hs => ?noService,
    fun x hx => ?sideSlip, fun hx => ?noSideSlip, fun h0 => judgeAxle_weight_unlimited h0 a,
    fun l r h0 hl hr => ?weight, fun h0 hlr => ?noWeight⟩
  case imbalance => simp [judgeAxle, hs, hi]
  case noImbalance => simp [judgeAxle, hs, hi]
  case drags => simp [judgeAxle, hs]
  case noService => simp [judgeAxle, hs]
  case sideSlip => simp [judgeAxle, hx]
  case noSideSlip => simp [judgeAxle, hx]
  case weight =>
    rw [judgeAxle_weight_limited h0, hl, hr]
    rfl
  case noWeight =>
    rw [judgeAxle_weight_limited h0, bothSum_eq_none_iff.mpr hlr]
    rfl

/-! ## The overall verdict (R104) -/

theorem overallOf_eq_fail_iff {items : List Verdict} {skipped : Bool} :
    overallOf items skipped = .fail ↔ .fail ∈ items := by
  unfold overallOf
  split
  · next h => simpa using h
  · next h =>
    have hno : .fail ∉ items := by simpa using h
    split <;> simp [hno]

theorem overallOf_ne_pass {items : List Verdict} {skipped : Bool} (h : .notTested ∈ items ∨ skipped = true) :
    overallOf items skipped ≠ .pass := by
  have hopen : (items.contains .notTested || skipped) = true := by simpa using h
  rw [overallOf, if_pos hopen]
  split <;> exact Overall.noConfusion

theorem overallOf_eq_incomplete {items : List Verdict} {skipped : Bool} (hfail : .fail ∉ items)
    (h : .notTested ∈ items) : overallOf items skipped = .incomplete := by
  simp [overallOf, hfail, h]

theorem mem_axleItems {x : Verdict} {v : AxleVerdicts} :
    x ∈ v.items ↔ v.imbalance = x ∨ v.dragL = x ∨ v.dragR = x ∨ v.sideSlip = x ∨ v.weight = some x := by
  simp [AxleVerdicts.items, eq_comm (a := x)]

theorem mem_itemsOf {x service : Verdict} {parking : Option Verdict} {axles : List AxleVerdicts} :
    x ∈ itemsOf service parking axles ↔ service = x ∨ parking = some x ∨ ∃ v ∈ axles,
      v.imbalance = x ∨ v.dragL = x ∨ v.dragR = x ∨ v.sideSlip = x ∨ v.weight = some x := by
  simp [itemsOf, eq_comm (a := x), mem_axleItems]

/-! ## The verdict set of a loaded class (R102 to R104) -/

section
variable {c : ClassEntry} {axles : List Axle}

theorem totalsOf_service : (totalsOf (some c) axles).verdicts.service
    = judgeEff c.minServiceEff (totalsOf (some c) axles).serviceBound (totalsOf (some c) axles).serviceEff := rfl

theorem totalsOf_parking (h : axles.any Axle.parking = true) : (totalsOf (some c) axles).verdicts.parking
    = some (judgeEff c.minParkingEff (totalsOf (some c) axles).parkingBound (totalsOf (some c) axles).parkingEff) :=
  if_pos h

theorem totalsOf_noParking (h : axles.any Axle.parking = false) : (totalsOf (some c) axles).verdicts.parking = none :=
  if_neg (Bool.eq_false_iff.mp h)

theorem totalsOf_axles : (totalsOf (some c) axles).verdicts.axles = axles.map (judgeAxle c) := rfl

theorem totalsOf_overall {c : Option ClassEntry} : (totalsOf c axles).verdicts.overall
    = overallOf (itemsOf (totalsOf c axles).verdicts.service (totalsOf c axles).verdicts.parking
        (totalsOf c axles).verdicts.axles) (axles.any fun a => a.skip.isSome) := rfl

/-- R104: the vehicle fails exactly when an item fails. -/
theorem totalsOf_fail_iff : (totalsOf (some c) axles).verdicts.overall = .fail ↔
    (totalsOf (some c) axles).verdicts.service = .fail ∨ (totalsOf (some c) axles).verdicts.parking = some .fail
      ∨ ∃ v ∈ (totalsOf (some c) axles).verdicts.axles, v.imbalance = .fail ∨ v.dragL = .fail ∨ v.dragR = .fail
        ∨ v.sideSlip = .fail ∨ v.weight = some .fail := by
  rw [totalsOf_overall, overallOf_eq_fail_iff, mem_itemsOf]

theorem mem_items_of_axle {x : Verdict} {a : Axle} (ha : a ∈ axles) (h : x ∈ (judgeAxle c a).items) :
    x ∈ itemsOf (totalsOf (some c) axles).verdicts.service (totalsOf (some c) axles).verdicts.parking
      (totalsOf (some c) axles).verdicts.axles :=
  mem_itemsOf.mpr (.inr (.inr ⟨_, List.mem_map_of_mem ha, mem_axleItems.mp h⟩))

theorem totalsOf_fail_of_axle {a : Axle} (ha : a ∈ axles) (h : .fail ∈ (judgeAxle c a).items) :
    (totalsOf (some c) axles).verdicts.overall = .fail :=
  overallOf_eq_fail_iff.mpr (mem_items_of_axle ha h)

theorem totalsOf_fail_of_drag {a : Axle} {r : AxleResult} (ha : a ∈ axles) (hs : a.service = some r)
    (h : c.maxDrag < r.dragL ∨ c.maxDrag < r.dragR) : (totalsOf (some c) axles).verdicts.overall = .fail := by
  have hdrag : (judgeAxle c a).dragL = .fail ∨ (judgeAxle c a).dragR = .fail := by
    simpa [judgeAxle, hs] using h
  exact totalsOf_fail_of_axle ha (mem_axleItems.mpr (.inr (hdrag.imp_right .inl)))

theorem totalsOf_fail_of_sideSlip {a : Axle} {x : Int} (ha : a ∈ axles) (hx : a.sideSlip = some x)
    (h : c.maxSideSlip < x.natAbs) : (totalsOf (some c) axles).verdicts.overall = .fail := by
  have hslip : (judgeAxle c a).sideSlip = .fail := by
    simpa [judgeAxle, hx] using h
  exact totalsOf_fail_of_axle ha (mem_axleItems.mpr (.inr (.inr (.inr (.inl hslip)))))

/-- R104: an axle without a service result, skipped, or without a side-slip keeps the vehicle from a pass. -/
theorem totalsOf_not_pass {a : Axle} (ha : a ∈ axles) (h : a.service = none ∨ a.skip ≠ none ∨ a.sideSlip = none) :
    (totalsOf (some c) axles).verdicts.overall ≠ .pass := by
  obtain ⟨-, -, -, hnoService, -, hnoSlip, -⟩ := judgeAxle_items c a
  apply overallOf_ne_pass
  rcases h with hs | hk | hx
  · exact .inl (mem_items_of_axle ha (mem_axleItems.mpr (.inl (hnoService hs).1)))
  · exact .inr (List.any_eq_true.mpr ⟨a, ha, Option.isSome_iff_ne_none.mpr hk⟩)
  · exact .inl (mem_items_of_axle ha (mem_axleItems.mpr (.inr (.inr (.inr (.inl (hnoSlip hx)))))))

/-- R104: without a loaded class nothing is tested, so nothing fails and the vehicle is INCOMPLETE. -/
theorem totalsOf_unloaded : (totalsOf none axles).verdicts.overall = .incomplete := by
  refine overallOf_eq_incomplete (fun hfail => ?_) (mem_itemsOf.mpr (.inl rfl))
  rcases mem_itemsOf.mp hfail with hservice | hparking | ⟨v, hv, hitem⟩
  · cases hservice
  · obtain ⟨-, h⟩ := Option.ite_none_right_eq_some.mp hparking
    cases h
  · obtain ⟨a, -, rfl⟩ := List.mem_map.mp hv
    simp [unjudgedAxle] at hitem

/-! ## The efficiencies of a loaded class -/

theorem totalsOf_serviceEff_none : (totalsOf (some c) axles).serviceEff = none ↔
    (totalsOf (some c) axles).massPartial = true ∨ (totalsOf (some c) axles).mass = 0
      ∨ ∀ a ∈ axles, a.service = none := by
  rw [← serviceResults_eq_nil_iff]
  exact effOf_eq_none_iff

theorem totalsOf_parkingEff_none : (totalsOf (some c) axles).parkingEff = none ↔
    (totalsOf (some c) axles).massPartial = true ∨ (totalsOf (some c) axles).mass = 0
      ∨ ∀ a ∈ axles, a.parking = true → a.parkingResult = none := by
  rw [← parkingResults_eq_nil_iff]
  exact effOf_eq_none_iff

theorem totalsOf_serviceBound : (totalsOf (some c) axles).serviceBound = true ↔
    (totalsOf (some c) axles).serviceEff ≠ none ∧ ∃ a ∈ axles, ∃ r, a.service = some r ∧ r.overrange = true := by
  refine boundOf_iff.trans (and_congr_right fun _ => ⟨?_, ?_⟩)
  · rintro ⟨r, hr, ho⟩
    obtain ⟨a, ha, hs⟩ := mem_serviceResults.mp hr
    exact ⟨a, ha, r, hs, ho⟩
  · rintro ⟨a, ha, r, hs, ho⟩
    exact ⟨r, mem_serviceResults.mpr ⟨a, ha, hs⟩, ho⟩

theorem totalsOf_parkingBound : (totalsOf (some c) axles).parkingBound = true ↔
    (totalsOf (some c) axles).parkingEff ≠ none
      ∧ ∃ a ∈ axles, a.parking = true ∧ ∃ r, a.parkingResult = some r ∧ r.overrange = true := by
  refine boundOf_iff.trans (and_congr_right fun _ => ⟨?_, ?_⟩)
  · rintro ⟨r, hr, ho⟩
    obtain ⟨a, ha, hp, hs⟩ := mem_parkingResults.mp hr
    exact ⟨a, ha, hp, r, hs, ho⟩
  · rintro ⟨a, ha, hp, r, hs, ho⟩
    exact ⟨r, mem_parkingResults.mpr ⟨a, ha, hp, hs⟩, ho⟩

/-- R103: a service efficiency judged; below the minimum a lower bound leaves it open. -/
theorem totalsOf_service_some {e : Nat} (h : (totalsOf (some c) axles).serviceEff = some e) :
    (totalsOf (some c) axles).verdicts.service = (if c.minServiceEff ≤ e then .pass
      else if (totalsOf (some c) axles).serviceBound then .notTested else .fail) := by
  rw [totalsOf_service, h, judgeEff_some]

/-- R103: a parking efficiency judged; it is present only where a parking axle is. -/
theorem totalsOf_parking_some {e : Nat} (h : (totalsOf (some c) axles).parkingEff = some e) :
    (totalsOf (some c) axles).verdicts.parking = some (if c.minParkingEff ≤ e then .pass
      else if (totalsOf (some c) axles).parkingBound then .notTested else .fail) := by
  obtain ⟨-, -, hrs, -⟩ := effOf_eq_some h
  rw [totalsOf_parking (any_parking_of_results hrs), h, judgeEff_some]

end

/-! ## O45 -/

/-- Settles O45: an efficiency is a rounded quotient or absent, each item is judged by its own limit, and the overall verdict
is read off the list of the items. -/
theorem totalsAndVerdictsFollowTheClass : Obligations.TotalsAndVerdictsFollowTheClass := by
  intro c axles
  refine ⟨fun hlacks => ?partialMass, fun e he => ?service, fun a r ha hs h => totalsOf_fail_of_drag ha hs h,
    fun a v ha hv h => totalsOf_fail_of_sideSlip ha hv h, fun ⟨a, ha, h⟩ => totalsOf_not_pass ha h, totalsOf_unloaded,
    totalsOf_serviceEff_none, fun hnone => ?serviceAbsent, totalsOf_parkingEff_none,
    fun e he => ?parking, totalsOf_serviceBound, totalsOf_parkingBound, fun hnot => ?noParking,
    fun ⟨a, ha, hp⟩ hnone => ?parkingAbsent, by rw [totalsOf_axles, List.length_map],
    fun n a ha => ⟨judgeAxle c a, ?axle, judgeAxle_items c a⟩, totalsOf_fail_iff⟩
  case partialMass =>
    have hp := (totalsOf_massPartial (c := some c)).mpr hlacks
    exact ⟨hp, totalsOf_serviceEff_none.mpr (.inl hp), totalsOf_parkingEff_none.mpr (.inl hp)⟩
  case service =>
    obtain ⟨hwhole, -, -, -⟩ := effOf_eq_some he
    obtain ⟨hmax, hquotient⟩ := effOf_bounds he
    refine ⟨hwhole, hmax, hquotient, fun hb => ?_, fun hb => ?_⟩
    · rw [totalsOf_service_some he, hb, if_neg Bool.false_ne_true]
    · rw [totalsOf_service_some he, hb, if_pos rfl]
  case serviceAbsent => rw [totalsOf_service, hnone, judgeEff_none]
  case parking =>
    obtain ⟨hmax, hquotient⟩ := effOf_bounds he
    exact ⟨hmax, hquotient, totalsOf_parking_some he⟩
  case noParking =>
    exact totalsOf_noParking (List.any_eq_false.mpr fun a ha => Bool.eq_false_iff.mp (hnot a ha))
  case parkingAbsent =>
    rw [totalsOf_parking (List.any_eq_true.mpr ⟨a, ha, hp⟩), hnone, judgeEff_none]
  case axle => rw [totalsOf_axles, List.getElem?_map, ha, Option.map_some]

end Sys2Proof.Machine
end

section
/-! SUPPORT. The pedal receiver (R106), on a part at rest: O46. -/

namespace Sys2Proof.Machine

/-! ## What follows a change of the Pedal Link -/

/-- Nothing that an event leaves over depends on the Pedal Link, the notices or the traces. -/
theorem finish_linkChange {s t : State} (h : Calm s)
    (ht : t = { s with pedal := t.pedal, port := t.port, traces := t.traces }) : finish t = .next t :=
  finish_calm t (by rw [ht]; exact Calm.of_eq h rfl rfl rfl rfl rfl)

theorem finish_onPedal {s : State} (h : Calm s) (f : PedalLink → PedalLink) :
    finish (s.onPedal f) = .next (s.onPedal f) := finish_linkChange h rfl

theorem exec_pedalByte {s : State} (h : Calm s) (b : Byte) (ok : Bool) (idle : Nat) :
    exec (.pedalByte b ok idle) s = .next { s with pedal := s.pedal.takeByte b ok idle s.now } :=
  finish_onPedal h fun p => p.takeByte b ok idle s.now

/-! ## The receiver (R106) -/

section
variable {p : PedalLink} {b : Byte} {ok quiet : Bool} {idle : Nat} {now : LaneTime} {f : List Byte}

/-- R106: in HUNTING a start delimiter after an idle line begins a frame. -/
theorem PedalLink.openByte_hunting (h : p.framed = false) : p.openByte b ok quiet =
    if ok = true ∧ quiet = true ∧ b = 0x7E then { p with frame := some [b] } else p := by
  simp [openByte, h, pedalDelimiter, and_assoc]

/-- R106: with no frame in collection a framing loss costs the framing alone. -/
theorem PedalLink.loseFrame_none (h : p.frame = none) :
    p.loseFrame = { p with framed := false, framingLosses := min 65535 (p.framingLosses + 1) } := by
  cases p; cases h; rfl

/-- R106: in FRAMED a start delimiter begins a frame, and any other byte loses the framing. -/
theorem PedalLink.openByte_framed (h : p.framed = true) : p.openByte b ok quiet =
    if ok = true ∧ b = 0x7E then { p with frame := some [b] } else p.loseFrame := by
  simp [openByte, h, pedalDelimiter]

/-- R106: with no frame in collection a byte can only begin one. -/
theorem PedalLink.takeByte_none (h : p.frame = none) :
    p.takeByte b ok idle now = p.openByte b ok (decide (2000 ≤ idle)) := by
  unfold takeByte; rw [h]

/-- R106: a gap of 2 ms loses the frame in collection, and the byte is met in HUNTING after an idle line. -/
theorem PedalLink.takeByte_gap (h : p.frame = some f) (hi : 2000 ≤ idle) :
    p.takeByte b ok idle now = p.loseFrame.openByte b ok true := by
  unfold takeByte; simp [h, hi]

/-- R106: a framing error loses the frame in collection. -/
theorem PedalLink.takeByte_badStop (h : p.frame = some f) (hi : idle < 2000) :
    p.takeByte b false idle now = p.loseFrame := by
  unfold takeByte; simp [h, hi]

/-- R106: a byte before the 16th joins the frame. -/
theorem PedalLink.takeByte_joins (h : p.frame = some f) (hi : idle < 2000) (hl : f.length < 15) :
    p.takeByte b true idle now = { p with frame := some (f ++ [b]) } := by
  have hshort : ¬ 16 ≤ f.length + 1 := by omega
  unfold takeByte; simp [h, hi, hshort]

/-- R106: the 16th byte completes the frame. -/
theorem PedalLink.takeByte_completes (h : p.frame = some f) (hi : idle < 2000) (hl : f.length = 15) :
    p.takeByte b true idle now = p.complete (f ++ [b]) now := by
  unfold takeByte; simp [h, hi, hl]

/-- R201: the 16th byte is the check of the 15 before it. -/
theorem pedalCrcOk_append (hl : f.length = 15) : pedalCrcOk (f ++ [b]) = true ↔ crc8 f = b := by
  have htake : (f ++ [b]).take 15 = f := List.take_left' hl
  have hlast : (f ++ [b]).getD 15 0 = b := by simp [List.getD_eq_getElem?_getD, ← hl]
  rw [pedalCrcOk, htake, hlast, beq_iff_eq]

theorem PedalLink.complete_append (hl : f.length = 15) : p.complete (f ++ [b]) now =
    if crc8 f = b then { p with framed := true, frame := none, completed := p.completed ++ [(f ++ [b], now)] }
    else { p with framed := false, frame := none, crcErrors := min 65535 (p.crcErrors + 1) } := by
  simp only [complete, pedalCrcOk_append hl, bump]

end

/-- Settles O46: the receiver's answer to a byte, by whether a frame is in collection, the idle time before the byte,
its stop bit and the length so far. -/
theorem pedalBytesAreCollectedIntoFrames : Obligations.PedalBytesAreCollectedIntoFrames := by
  intro b ok idle s hc
  rw [exec_pedalByte hc]
  refine ⟨fun hf hh => ?hunting, fun hf hh => ?framed, fun f hf hok hi hl => ?joins, fun f hf hok hi hl => ?completes,
    fun f hf hok hi => ?badStop, fun f hf hi => ?gap⟩
  case hunting =>
    rw [PedalLink.takeByte_none hf, PedalLink.openByte_hunting hh]
    simp only [decide_eq_true_eq]
    split <;> rfl
  case framed =>
    rw [PedalLink.takeByte_none hf, PedalLink.openByte_framed hh, PedalLink.loseFrame_none hf]
  case joins => rw [hok, PedalLink.takeByte_joins hf hi hl]
  case completes =>
    rw [hok, PedalLink.takeByte_completes hf hi hl, PedalLink.complete_append hl]
    rfl
  case badStop =>
    rw [hok, PedalLink.takeByte_badStop hf hi]
    rfl
  case gap =>
    rw [PedalLink.takeByte_gap hf hi, PedalLink.openByte_hunting (p := s.pedal.loseFrame) rfl]
    simp only [true_and]
    split <;> rfl

end Sys2Proof.Machine
end

section
/-! SUPPORT. The pedal sample ring (R117): which entries a frame's present samples make, and what placing them in turn
leaves of the ring and of the count of dropped samples. -/

namespace Sys2Proof.Machine

/-! ## The entries of a frame -/

/-- R117: a present sample with its index in the frame stands 10 ms after the one before it. -/
def sampleEntry (base : LaneTime) (v : Option Nat × Nat) : Option RingEntry :=
  v.1.map fun n => { time := base + BitVec.ofNat 32 (10 * v.2), force := n }

/-- R117: the entries of a frame's present samples, the first of them with index `k`. -/
def sampleEntries (base : LaneTime) (k : Nat) (samples : List (Option Nat)) : List RingEntry :=
  (samples.zipIdx k).filterMap (sampleEntry base)

/-- A frame's samples are placed one after the other, the absent ones left out. -/
theorem placeFrom_eq_foldl (base : LaneTime) (k : Nat) (vs : List (Option Nat)) (p : PedalLink) :
    placeFrom base k vs p = (sampleEntries base k vs).foldl placeOne p := by
  induction vs generalizing k p with
  | nil => rfl
  | cons v vs ih => cases v <;> exact ih (k + 1) _

theorem PedalLink.place_eq {p : PedalLink} {g : Following} {o : LaneTime} (hg : p.following = some g)
    (ho : p.offset = some o) (vs : List (Option Nat)) :
    p.place vs = (sampleEntries (g.extended + o + 120) 0 vs).foldl placeOne p := by
  unfold place
  rw [hg, ho]
  exact placeFrom_eq_foldl _ 0 vs p

/-! ## Their order -/

/-- Section 4.3: of two times less than 2^31 ms past a base the greater one is later. -/
theorem later_sub_later_pos (t : LaneTime) {m n : Nat} (hmn : m < n) (hn : n < 2 ^ 31) :
    0 < (later t n - later t m).toInt := by
  have hdiff : later t n - later t m = BitVec.ofNat 32 (n - m) := by unfold later; bv_omega
  rw [hdiff, BitVec.toInt_ofNat', Int.bmod_eq_of_le] <;> omega

theorem exists_of_mem_sampleEntries {base : LaneTime} {k : Nat} {vs : List (Option Nat)} {a : RingEntry}
    (h : a ∈ sampleEntries base k vs) : ∃ i < k + vs.length, k ≤ i ∧ a.time = later base (10 * i) := by
  obtain ⟨⟨v, i⟩, hv, ha⟩ := List.mem_filterMap.mp h
  obtain ⟨hk, hi, -⟩ := List.mem_zipIdx hv
  obtain ⟨n, -, rfl⟩ := Option.map_eq_some_iff.mp ha
  exact ⟨i, hi, hk, rfl⟩

/-- R117: the entries of a frame stand in the order of lane time. -/
theorem sampleEntries_increase (base : LaneTime) (k : Nat) (vs : List (Option Nat))
    (h : 10 * (k + vs.length) < 2 ^ 31) :
    (sampleEntries base k vs).Pairwise fun a b => 0 < (b.time - a.time).toInt := by
  induction vs generalizing k with
  | nil => exact .nil
  | cons v vs ih =>
    rw [List.length_cons] at h
    have hrest := ih (k + 1) (by omega)
    cases v with
    | none => exact hrest
    | some n =>
      refine .cons (fun b hb => ?_) hrest
      obtain ⟨i, hi, hk, hb⟩ := exists_of_mem_sampleEntries hb
      rw [hb]
      exact later_sub_later_pos base (by omega) (by omega)

/-! ## One entry -/

/-- R117: an entry later than the newest is placed, and a full ring loses its oldest. -/
theorem placeOne_later {p : PedalLink} {e : RingEntry} (hl : p.ring.length ≤ 32)
    (h : ∀ n, p.ring.getLast? = some n → 0 < (e.time - n.time).toInt) :
    placeOne p e = { p with ring := (p.ring ++ [e]).drop (p.ring.length + 1 - 32) } := by
  have hring : (if 32 ≤ p.ring.length then p.ring.drop 1 else p.ring) ++ [e]
      = (p.ring ++ [e]).drop (p.ring.length + 1 - 32) := by
    split
    · rw [show p.ring.length + 1 - 32 = 1 by omega, List.drop_append_of_le_length (by omega)]
    · rw [show p.ring.length + 1 - 32 = 0 by omega, List.drop_zero]
  rw [← hring]
  unfold placeOne
  cases hn : p.ring.getLast? with
  | none => rfl
  | some n => exact if_pos (decide_eq_true (h n hn))

/-- R117: an entry not later than the newest is dropped and counted. -/
theorem placeOne_dropped {p : PedalLink} {e n : RingEntry} (hn : p.ring.getLast? = some n)
    (h : (e.time - n.time).toInt ≤ 0) : placeOne p e = { p with dropped := min 65535 (p.dropped + 1) } := by
  unfold placeOne
  rw [hn]
  exact if_neg (fun hlater => absurd (of_decide_eq_true hlater) (Int.not_lt.mpr h))

/-- R117: placing an entry changes the ring or the count of dropped samples. -/
theorem placeOne_eq (p : PedalLink) (e : RingEntry) :
    placeOne p e = { p with ring := (placeOne p e).ring, dropped := (placeOne p e).dropped } := by
  unfold placeOne
  dsimp only
  split
  · rfl
  · split <;> rfl

/-! ## The entries of a frame placed in turn -/

theorem foldl_placeOne_eq (es : List RingEntry) (p : PedalLink) :
    es.foldl placeOne p = { p with ring := (es.foldl placeOne p).ring, dropped := (es.foldl placeOne p).dropped } := by
  induction es generalizing p with
  | nil => rfl
  | cons e es ih => rw [List.foldl_cons, ih, placeOne_eq]

/-- R117: entries each later than the ones before it and than the newest of the ring are all placed; the newest 32
stay. -/
theorem foldl_placeOne_later {es : List RingEntry} {p : PedalLink} (hl : p.ring.length ≤ 32)
    (hes : es.Pairwise fun a b => 0 < (b.time - a.time).toInt)
    (h : ∀ n, p.ring.getLast? = some n → ∀ a ∈ es, 0 < (a.time - n.time).toInt) :
    es.foldl placeOne p = { p with ring := (p.ring ++ es).drop (p.ring.length + es.length - 32) } := by
  induction es generalizing p with
  | nil => simp [show p.ring.length - 32 = 0 by omega]
  | cons e es ih =>
    obtain ⟨he, hes⟩ := List.pairwise_cons.mp hes
    have hlen : (p.ring ++ [e]).length = p.ring.length + 1 := List.length_append
    have hnewest : ((p.ring ++ [e]).drop (p.ring.length + 1 - 32)).getLast? = some e := by
      rw [List.getLast?_drop, if_neg (by omega), List.getLast?_concat]
    rw [List.foldl_cons, placeOne_later hl fun n hn => h n hn e List.mem_cons_self, ih (by simp; omega) hes]
    · rw [← List.drop_append_of_le_length (by omega), List.drop_drop, List.append_assoc, List.length_drop, hlen,
        List.singleton_append, List.length_cons]
      congr 2
      omega
    · intro n hn
      cases hnewest.symm.trans hn
      exact he

/-- R117: entries none of which is later than the newest of the ring are all dropped and counted. -/
theorem foldl_placeOne_dropped {es : List RingEntry} {p : PedalLink} {n : RingEntry} (hn : p.ring.getLast? = some n)
    (h : ∀ a ∈ es, (a.time - n.time).toInt ≤ 0) (hd : p.dropped + es.length ≤ 65535) :
    es.foldl placeOne p = { p with dropped := p.dropped + es.length } := by
  induction es generalizing p with
  | nil => rfl
  | cons e es ih =>
    rw [List.length_cons] at hd ⊢
    have hone : placeOne p e = { p with dropped := p.dropped + 1 } := by
      rw [placeOne_dropped hn (h e List.mem_cons_self), Nat.min_eq_right (by omega)]
    have hrest : p.dropped + 1 + es.length ≤ 65535 := by omega
    rw [List.foldl_cons, hone, ih (p := { p with dropped := p.dropped + 1 }) hn
      (fun a ha => h a (List.mem_cons_of_mem e ha)) hrest]
    simp only [Nat.add_assoc, Nat.add_comm 1]

end Sys2Proof.Machine
end

section
/-! SUPPORT. The pedal link (R108 to R117): the link's states and their notices, the offset taken anew, a frame tested
in each state, and how a frame reaches the link; O47. -/

namespace Sys2Proof.Machine

/-! ## Link states (R109, R116) -/

@[simp] theorem enterLink_pedal (st : PedalState) (c : PedalCause) (s : State) :
    (enterLink st c s).pedal = { s.pedal with state := st } := rfl

/-- R109: a change of state is told with the followed unit and its battery while the queue has a place. -/
theorem enterLink_notices {s : State} {g : Following} (st : PedalState) (c : PedalCause)
    (hg : s.pedal.following = some g) (h : s.port.notices.length < 32) :
    ∃ k, (enterLink st c s).port.notices = s.port.notices
      ++ [(k, .pedalState st c (some g.unit.toNat) (some g.battery) s.time.now)] := by
  refine ⟨nextNotice s.port, ?_⟩
  have hnotice : (enterLink st c s).port.notices = if s.port.notices.length < 32 then s.port.notices
      ++ [(nextNotice s.port, .pedalState st c (s.pedal.following.map fun f => f.unit.toNat)
        (s.pedal.following.map Following.battery) s.time.now)] else s.port.notices := rfl
  rw [hnotice, if_pos h, hg]
  rfl

theorem enterAbsent_of_ne {s : State} (c : PedalCause) (h : s.pedal.state ≠ .absent) :
    enterAbsent c s = noticePedal c (s.onPedal PedalLink.absented) := if_neg (by rwa [beq_iff_eq])

/-- R116: a due silence expiry makes the link ABSENT. -/
theorem exec_pedalSilenceExpiry_due {s : State} (hc : Calm s) (ha : s.pedal.state ≠ .absent)
    (hd : s.due (s.pedal.following.map Following.silence) = true) :
    exec .pedalSilenceExpiry s = .next (noticePedal .silence (s.onPedal PedalLink.absented)) := by
  have hexec : exec .pedalSilenceExpiry s = finish (pedalSilent s) := rfl
  rw [hexec, pedalSilent, if_pos hd, enterAbsent_of_ne _ ha]
  exact finish_linkChange hc rfl

theorem exec_pedalSilenceExpiry_early {s : State} (hc : Calm s)
    (hd : s.due (s.pedal.following.map Following.silence) = false) : exec .pedalSilenceExpiry s = .next s := by
  have hexec : exec .pedalSilenceExpiry s = finish (pedalSilent s) := rfl
  rw [hexec, pedalSilent, hd, if_neg Bool.false_ne_true]
  exact finish_calm s hc

/-! ## Samples placed and the offset taken anew (R112, R117) -/

section
variable (p : PedalLink) (vs : List (Option Nat)) (t : LaneTime)

theorem PedalLink.place_fields :
    p.place vs = { p with ring := (p.place vs).ring, dropped := (p.place vs).dropped } := by
  unfold place
  split
  · rw [placeFrom_eq_foldl]
    exact foldl_placeOne_eq _ p
  · rfl

@[simp] theorem PedalLink.place_state : (p.place vs).state = p.state := by rw [place_fields]
@[simp] theorem PedalLink.place_following : (p.place vs).following = p.following := by rw [place_fields]
@[simp] theorem PedalLink.place_offset : (p.place vs).offset = p.offset := by rw [place_fields]
@[simp] theorem PedalLink.place_inWindow : (p.place vs).inWindow = p.inWindow := by rw [place_fields]
@[simp] theorem PedalLink.place_outRun : (p.place vs).outRun = p.outRun := by rw [place_fields]
@[simp] theorem PedalLink.place_lastError : (p.place vs).lastError = p.lastError := by rw [place_fields]
@[simp] theorem PedalLink.place_lost : (p.place vs).lost = p.lost := by rw [place_fields]

theorem PedalLink.retake_fields :
    p.retake t = { p with offset := (p.retake t).offset, inWindow := (p.retake t).inWindow } := by
  unfold retake; split <;> rfl

@[simp] theorem PedalLink.retake_following : (p.retake t).following = p.following := by rw [retake_fields]
@[simp] theorem PedalLink.retake_lost : (p.retake t).lost = p.lost := by rw [retake_fields]

end

section
variable {p : PedalLink} {g : Following} {o : LaneTime} {vs : List (Option Nat)}

variable {es : List RingEntry} (hg : p.following = some g) (ho : p.offset = some o)
  (hes : es = sampleEntries (g.extended + o + 120) 0 vs)
include hg ho hes

/-- R117: the samples of a frame, each later than the newest entry, are all placed and the newest 32 entries stay. -/
theorem PedalLink.place_later (hvs : vs.length ≤ 4) (hl : p.ring.length ≤ 32)
    (h : ∀ n, p.ring.getLast? = some n → ∀ a ∈ es, 0 < (a.time - n.time).toInt) :
    p.place vs = { p with ring := (p.ring ++ es).drop (p.ring.length + es.length - 32) } := by
  subst hes
  rw [place_eq hg ho]
  exact foldl_placeOne_later hl (sampleEntries_increase _ 0 vs (by omega)) h

/-- R117: the samples of a frame, none later than the newest entry, are all dropped. -/
theorem PedalLink.place_dropped {n : RingEntry} (hn : p.ring.getLast? = some n)
    (h : ∀ a ∈ es, (a.time - n.time).toInt ≤ 0) (hd : p.dropped + es.length ≤ 65535) :
    p.place vs = { p with dropped := p.dropped + es.length } := by
  subst hes
  rw [place_eq hg ho]
  exact foldl_placeOne_dropped hn h hd

end

/-! ## A frame tested in each state (R113 to R115) -/

theorem tentativeFrame_eq (f : UnitFrame) (t : LaneTime) (e : Int) (s : State) : tentativeFrame f t e s =
    { s with pedal := (tentativeFrame f t e s).pedal, port := (tentativeFrame f t e s).port } := by
  unfold tentativeFrame
  dsimp only
  split
  · split <;> rfl
  · rfl

theorem syncFrame_eq (f : UnitFrame) (t : LaneTime) (e : Int) (s : State) : syncFrame f t e s =
    { s with pedal := (syncFrame f t e s).pedal, port := (syncFrame f t e s).port } := by
  unfold syncFrame
  dsimp only
  split
  · rfl
  · split <;> rfl

/-- R113 to R115: a frame changes the link, and may send a notice. -/
theorem handleFrame_eq (f : UnitFrame) (t : LaneTime) (s : State) : handleFrame f t s =
    { s with pedal := (handleFrame f t s).pedal, port := (handleFrame f t s).port } := by
  unfold handleFrame
  dsimp only
  split
  · rfl
  · rfl
  · exact tentativeFrame_eq f t _ _
  · exact syncFrame_eq f t _ _

section
variable (f : UnitFrame) {t : LaneTime} {s : State} {e : Int} (he : s.pedal.errorOf t = e)

/-- R113: in UNSYNC a frame takes the offset. -/
theorem handleFrame_unsync (hs : s.pedal.state = .unsync) :
    handleFrame f t s = enterLink .tentative .offsetTaken (s.onPedal fun p => p.retake t) := by
  unfold handleFrame; rw [hs]

theorem handleFrame_tentative (hs : s.pedal.state = .tentative) : handleFrame f t s =
    tentativeFrame f t (s.pedal.errorOf t) (s.onPedal fun p => { p with lastError := some (s.pedal.errorOf t) }) := by
  unfold handleFrame; rw [hs]

theorem handleFrame_sync (hs : s.pedal.state = .sync) : handleFrame f t s =
    syncFrame f t (s.pedal.errorOf t) (s.onPedal fun p => { p with lastError := some (s.pedal.errorOf t) }) := by
  unfold handleFrame; rw [hs]

include he

/-- R114: a frame in the window, not the eighth, confirms the offset. -/
theorem handleFrame_confirms (hs : s.pedal.state = .tentative) (hw : e.natAbs ≤ s.pedal.window)
    (hn : s.pedal.inWindow + 1 < 8) : handleFrame f t s = s.onPedal fun p =>
      { p with lastError := some e, inWindow := p.inWindow + 1 } := by
  rw [handleFrame_tentative f hs, he, tentativeFrame, if_pos (by exact hw)]
  exact if_neg (Nat.not_le.mpr hn)

/-- R114: the eighth frame in the window locks the link, and its samples are placed. -/
theorem handleFrame_locks (hs : s.pedal.state = .tentative) (hw : e.natAbs ≤ s.pedal.window)
    (hn : 8 ≤ s.pedal.inWindow + 1) : handleFrame f t s =
      (enterLink .sync .locked (s.onPedal fun p =>
        { p with lastError := some e, inWindow := p.inWindow + 1, outRun := 0 })).onPedal
          fun p => p.place f.samples := by
  rw [handleFrame_tentative f hs, he, tentativeFrame, if_pos (by exact hw)]
  exact if_pos hn

/-- R114: a frame out of the window in TENTATIVE takes the offset anew. -/
theorem handleFrame_retakes (hs : s.pedal.state = .tentative) (hw : s.pedal.window < e.natAbs) :
    handleFrame f t s = s.onPedal fun p => PedalLink.retake { p with lastError := some e } t := by
  rw [handleFrame_tentative f hs, he]
  exact if_neg (Nat.not_le.mpr hw)

/-- R115: a frame in the window in SYNC trims the offset, and its samples are placed. -/
theorem handleFrame_trims (hs : s.pedal.state = .sync) (hw : e.natAbs ≤ s.pedal.window) :
    handleFrame f t s = s.onPedal fun p => PedalLink.place
      { p with lastError := some e, outRun := 0, offset := p.offset.map fun o => trimmed o e } f.samples := by
  rw [handleFrame_sync f hs, he]
  exact if_pos hw

/-- R115: a frame out of the window in SYNC, not the third in a row, is withheld. -/
theorem handleFrame_withholds (hs : s.pedal.state = .sync) (hw : s.pedal.window < e.natAbs)
    (hn : s.pedal.outRun + 1 < 3) : handleFrame f t s = s.onPedal fun p =>
      { p with lastError := some e, outRun := p.outRun + 1, withheld := min 65535 (p.withheld + 1) } := by
  rw [handleFrame_sync f hs, he, syncFrame, if_neg (by exact Nat.not_le.mpr hw)]
  exact if_neg (Nat.not_le.mpr hn)

/-- R115: the third frame in a row out of the window in SYNC takes the offset anew in TENTATIVE. -/
theorem handleFrame_unlocks (hs : s.pedal.state = .sync) (hw : s.pedal.window < e.natAbs)
    (hn : 3 ≤ s.pedal.outRun + 1) : handleFrame f t s =
      enterLink .tentative .outOfWindow (s.onPedal fun p => PedalLink.retake { p with
        lastError := some e, outRun := p.outRun + 1, withheld := min 65535 (p.withheld + 1) } t) := by
  rw [handleFrame_sync f hs, he, syncFrame, if_neg (by exact Nat.not_le.mpr hw)]
  exact if_pos hn

/-- R114, R115: a frame in the window that finds or brings the link in SYNC places its samples on the ring as it was. -/
theorem handleFrame_places (hw : e.natAbs ≤ s.pedal.window)
    (hs : s.pedal.state = .sync ∨ s.pedal.state = .tentative ∧ 8 ≤ s.pedal.inWindow + 1) :
    ∃ q : PedalLink, (handleFrame f t s).pedal = q.place f.samples ∧ q.following = s.pedal.following
      ∧ q.ring = s.pedal.ring ∧ q.dropped = s.pedal.dropped := by
  rcases hs with hs | ⟨hs, hn⟩
  · rw [handleFrame_trims f he hs hw]
    exact ⟨_, rfl, rfl, rfl, rfl⟩
  · rw [handleFrame_locks f he hs hw hn]
    exact ⟨_, rfl, rfl, rfl, rfl⟩

end

/-- R113 to R115: testing a frame leaves the followed unit and the lost count as they are. -/
theorem handleFrame_keeps (f : UnitFrame) (t : LaneTime) (s : State) :
    (handleFrame f t s).pedal.following = s.pedal.following ∧ (handleFrame f t s).pedal.lost = s.pedal.lost := by
  cases hs : s.pedal.state with
  | absent =>
    have hsame : handleFrame f t s = s := by unfold handleFrame; rw [hs]
    rw [hsame]
    exact ⟨rfl, rfl⟩
  | unsync => simp [handleFrame_unsync f hs]
  | tentative =>
    rcases Nat.lt_or_ge s.pedal.window (s.pedal.errorOf t).natAbs with hw | hw
    · simp [handleFrame_retakes f rfl hs hw]
    · rcases Nat.lt_or_ge (s.pedal.inWindow + 1) 8 with hn | hn
      · simp [handleFrame_confirms f rfl hs hw hn]
      · simp [handleFrame_locks f rfl hs hw hn]
  | sync =>
    rcases Nat.lt_or_ge s.pedal.window (s.pedal.errorOf t).natAbs with hw | hw
    · rcases Nat.lt_or_ge (s.pedal.outRun + 1) 3 with hn | hn
      · simp [handleFrame_withholds f rfl hs hw hn]
      · simp [handleFrame_unlocks f rfl hs hw hn]
    · simp [handleFrame_trims f rfl hs hw]

/-! ## Lost frames (R110, R147) -/

/-- R147: lost pedal frames counted in a descriptor that is recording. -/
def Descriptor.gapped (gap : Nat) (d : Descriptor) : Descriptor :=
  if d.closed then d else { d with pedalGaps := bumpBy 65535 d.pedalGaps gap }

theorem Descriptor.gapped_id (gap : Nat) (d : Descriptor) : (d.gapped gap).id = d.id := by
  unfold gapped; split <;> rfl

theorem TraceStore.find_gapped {ts : TraceStore} {id : Nat} {d : Descriptor} (gap : Nat) (hd : ts.find id = some d)
    (hrec : d.closed = false) : (ts.modify id (Descriptor.gapped gap)).find id =
      some { d with pedalGaps := min 65535 (d.pedalGaps + gap) } := by
  rw [find_modify_some hd (Descriptor.gapped_id gap), Descriptor.gapped, hrec]
  rfl

theorem addPedalGap_eq (tr : Option Nat) (gap : Nat) (s : State) : addPedalGap tr gap s =
    { s with traces := tr.elim s.traces fun id => s.traces.modify id (Descriptor.gapped gap) } := by cases tr <;> rfl

theorem countGap_pos {gap : Nat} (h : 0 < gap) (s : State) : countGap gap s =
    { s with pedal := { s.pedal with lost := min 65535 (s.pedal.lost + gap) }
             traces := s.brake.openTrace.elim s.traces fun id => s.traces.modify id (Descriptor.gapped gap) } := by
  rw [countGap, if_neg (Nat.ne_of_gt h), addPedalGap_eq]
  rfl

theorem countGap_eq (gap : Nat) (s : State) : countGap gap s =
    { s with pedal := { s.pedal with lost := (countGap gap s).pedal.lost }, traces := (countGap gap s).traces } := by
  rcases Nat.eq_zero_or_pos gap with rfl | h
  · rfl
  · rw [countGap_pos h]

/-! ## A jump (R110) -/

section
variable (f : UnitFrame) (t : LaneTime) {s : State}

theorem rebase_of_unsync (h : s.pedal.state = .unsync) : rebase f t s = s.onPedal fun p =>
    { p with following := some (baseOf f t), offset := none, inWindow := 0, outRun := 0 } :=
  if_pos (beq_iff_eq.mpr h)

theorem rebase_of_ne (h : s.pedal.state ≠ .unsync) : rebase f t s =
    enterLink .unsync .sequenceJump (s.onPedal fun p =>
      { p with following := some (baseOf f t), offset := none, inWindow := 0, outRun := 0 }) :=
  if_neg (by rwa [beq_iff_eq])

/-- R110: a jump makes the frame the base of a link in UNSYNC. -/
theorem rebase_eq : rebase f t s = { s with
    pedal := { s.pedal with
      state := .unsync, following := some (baseOf f t), offset := none, inWindow := 0, outRun := 0 }
    port := (rebase f t s).port } := by
  by_cases h : s.pedal.state = .unsync
  · rw [rebase_of_unsync f t h, ← h]
    rfl
  · rw [rebase_of_ne f t h]
    rfl

end

/-! ## How a frame reaches the link (R106, R108, R110) -/

/-- R110: the gap of a sequence number is 255 exactly for a repeated one. -/
theorem seqGap_eq_255_iff (a b : BitVec 8) : seqGap a b = 255 ↔ b = a := by unfold seqGap; bv_omega

/-- The part once the frame handed on first is off the list (log entry 6). -/
def State.dequeued (rest : List (List Byte × LaneTime)) (s : State) : State :=
  s.onPedal fun p => { p with completed := rest }

/-- R110, R111: the part once a frame has been handed on, its gap counted and its unit time taken. -/
def State.heard (g : Following) (f : UnitFrame) (t : LaneTime) (rest : List (List Byte × LaneTime)) (s : State) :
    State :=
  { s with
    pedal := { s.pedal with
      completed := rest, following := some (g.extend f t)
      lost := (countGap (seqGap g.seq f.seq) (s.dequeued rest)).pedal.lost }
    traces := (countGap (seqGap g.seq f.seq) (s.dequeued rest)).traces }

section
variable {bytes : List Byte} {t0 : LaneTime} {rest : List (List Byte × LaneTime)} {s : State} {g : Following}

/-- R106: the oldest frame handed on is the one taken. -/
theorem exec_pedalFrame {t : State} (hc : Calm s) (hq : s.pedal.completed = (bytes, t0) :: rest)
    (hl : linkFrame bytes t0 (s.dequeued rest) = t)
    (ht : t = { s with pedal := t.pedal, port := t.port, traces := t.traces }) :
    exec (.pedalFrame bytes) s = .next t := by
  have hexec : exec (.pedalFrame bytes) s = finish (takePedalFrame bytes s) := rfl
  have htake : takePedalFrame bytes s = linkFrame bytes t0 (s.dequeued rest) := by
    unfold takePedalFrame
    rw [hq]
    exact if_pos rfl
  rw [hexec, htake, hl, finish_linkChange hc ht]

theorem linkFrame_filtered (hp : passes (unitFrame bytes).unit s.pedal.idMask s.pedal.idMatch = false) :
    linkFrame bytes t0 s = s.onPedal fun p => { p with filtered := min 65535 (p.filtered + 1) } := by
  unfold linkFrame
  dsimp only
  rw [hp]
  rfl

section
variable (hp : passes (unitFrame bytes).unit s.pedal.idMask s.pedal.idMatch = true)
include hp

theorem linkFrame_first (hg : s.pedal.following = none) : linkFrame bytes t0 s =
    enterLink .unsync .firstFrame (s.onPedal fun p => { p with following := some (baseOf (unitFrame bytes) t0) }) := by
  unfold linkFrame
  dsimp only
  rw [hp, hg]
  rfl

theorem linkFrame_foreign (hg : s.pedal.following = some g) (hu : g.unit ≠ (unitFrame bytes).unit) :
    linkFrame bytes t0 s = s.onPedal fun p => { p with foreign := min 65535 (p.foreign + 1) } := by
  unfold linkFrame
  dsimp only
  rw [hp, hg]
  exact if_neg hu

theorem linkFrame_followed (hg : s.pedal.following = some g) (hu : g.unit = (unitFrame bytes).unit) :
    linkFrame bytes t0 s = followFrame g (unitFrame bytes) t0 s := by
  unfold linkFrame
  dsimp only
  rw [hp, hg]
  exact if_pos hu

end

theorem followFrame_repeated {f : UnitFrame} (h : f.seq = g.seq) : followFrame g f t0 s =
    s.onPedal fun p => { p with duplicates := min 65535 (p.duplicates + 1) } :=
  if_pos ((seqGap_eq_255_iff _ _).mpr h)

theorem followFrame_jump {f : UnitFrame} (h : 9 ≤ seqGap g.seq f.seq) (hne : f.seq ≠ g.seq) :
    followFrame g f t0 s = rebase f t0 s := by
  have hnew : seqGap g.seq f.seq ≠ 255 := mt (seqGap_eq_255_iff _ _).mp hne
  unfold followFrame
  dsimp only
  rw [if_neg hnew, if_pos h]

/-- R110: a frame with a gap of 0..8 is tested once its gap is counted and its unit time taken. -/
theorem followFrame_near {f : UnitFrame} (h : seqGap g.seq f.seq ≤ 8) :
    followFrame g f t0 (s.dequeued rest) = handleFrame f t0 (s.heard g f t0 rest) := by
  have hnew : seqGap g.seq f.seq ≠ 255 := by omega
  have hnear : ¬ 9 ≤ seqGap g.seq f.seq := by omega
  unfold followFrame
  dsimp only
  rw [if_neg hnew, if_neg hnear, countGap_eq]
  rfl

variable {f : UnitFrame}

theorem handleFrame_heard_eq : handleFrame f t0 (s.heard g f t0 rest) = { s with
    pedal := (handleFrame f t0 (s.heard g f t0 rest)).pedal
    port := (handleFrame f t0 (s.heard g f t0 rest)).port
    traces := (s.heard g f t0 rest).traces } := handleFrame_eq f t0 _

/-- R108, R110: a frame of the followed unit with a gap of 0..8 is tested once it is heard. -/
theorem exec_pedalFrame_near (hc : Calm s) (hq : s.pedal.completed = (bytes, t0) :: rest)
    (hp : passes (unitFrame bytes).unit s.pedal.idMask s.pedal.idMatch = true) (hg : s.pedal.following = some g)
    (hu : g.unit = (unitFrame bytes).unit) (h : seqGap g.seq (unitFrame bytes).seq ≤ 8) :
    exec (.pedalFrame bytes) s = .next (handleFrame (unitFrame bytes) t0 (s.heard g (unitFrame bytes) t0 rest)) := by
  refine exec_pedalFrame hc hq ?_ (by rw [handleFrame_heard_eq])
  rw [linkFrame_followed (s := s.dequeued rest) hp hg hu, followFrame_near h]

theorem heard_counts_none (h : seqGap g.seq f.seq = 0) : (s.heard g f t0 rest).pedal.lost = s.pedal.lost
    ∧ (s.heard g f t0 rest).traces = s.traces := by
  unfold State.heard
  rw [h]
  exact ⟨rfl, rfl⟩

/-- R110: the frames lost before a frame just heard are counted by the link and by the open brake trace. -/
theorem heard_counts (h : 0 < seqGap g.seq f.seq) : (s.heard g f t0 rest).pedal.lost =
      min 65535 (s.pedal.lost + seqGap g.seq f.seq)
    ∧ (s.heard g f t0 rest).traces = s.brake.openTrace.elim s.traces fun id =>
      s.traces.modify id (Descriptor.gapped (seqGap g.seq f.seq)) := by
  unfold State.heard
  rw [countGap_pos h]
  exact ⟨rfl, rfl⟩

/-- R112: the error of a frame just heard. -/
theorem errorOf_heard {o : LaneTime} (ho : s.pedal.offset = some o) : (s.heard g f t0 rest).pedal.errorOf t0 =
    (t0 - (g.extended + BitVec.setWidth 32 (f.time - g.unitTime) + o + BitVec.ofNat 32 s.pedal.latency)).toInt := by
  have hoff : (s.heard g f t0 rest).pedal.offset = some o := ho
  unfold PedalLink.errorOf
  rw [hoff]
  rfl

end

/-! ## O47 -/

/-- Settles O47: each clause carries the frame to the link, and reads the link off the equation of the branch that
takes it. -/
theorem pedalFramesMoveTheLink : Obligations.PedalFramesMoveTheLink := by
  intro bytes t0 rest s f hc hf
  subst hf
  refine ⟨fun hq hp => ?filtered, fun hq hp hg => ?first, fun g hq hp hg hu => ?foreign,
    fun g hq hp hg hu hseq => ?repeated, fun g hq hp hg hu hgap hne => ?jump,
    fun g gap hq hp hg hu hgap hnear => ?gap, fun g o x e hq hp hg hu hnear ho hx he hw => ?inWindow,
    fun g o x e hq hp hg hu hnear ho hx he hw => ?outOfWindow, fun g x hq hp hg hu hnear hs hx => ?unsync,
    fun ha hd => ?silence, fun hd => exec_pedalSilenceExpiry_early hc hd⟩
  case filtered => exact exec_pedalFrame hc hq (linkFrame_filtered (s := s.dequeued rest) hp) rfl
  case first => exact ⟨_, exec_pedalFrame hc hq (linkFrame_first (s := s.dequeued rest) hp hg) rfl, rfl, rfl⟩
  case foreign => exact exec_pedalFrame hc hq (linkFrame_foreign (s := s.dequeued rest) hp hg hu) rfl
  case repeated =>
    refine exec_pedalFrame hc hq (linkFrame_followed (s := s.dequeued rest) hp hg hu |>.trans ?_) rfl
    exact followFrame_repeated hseq
  case jump =>
    have hrebase := linkFrame_followed (t0 := t0) (s := s.dequeued rest) hp hg hu
    rw [followFrame_jump hgap hne] at hrebase
    have hlink := rebase_eq (unitFrame bytes) t0 (s := s.dequeued rest)
    refine ⟨_, exec_pedalFrame hc hq hrebase (by rw [hlink]; rfl), by rw [hlink]; rfl, by rw [hlink]; rfl,
      fun hs => ?_, fun hs hroom => ?_⟩
    · rw [rebase_of_unsync (s := s.dequeued rest) _ t0 hs]
      rfl
    · rw [rebase_of_ne (s := s.dequeued rest) _ t0 hs]
      exact enterLink_notices (g := baseOf (unitFrame bytes) t0) _ _ rfl hroom
  case gap =>
    obtain ⟨hfollowing, hlost⟩ := handleFrame_keeps (unitFrame bytes) t0 (s.heard g _ t0 rest)
    have hframe := handleFrame_heard_eq (f := unitFrame bytes) (g := g) (s := s) (t0 := t0) (rest := rest)
    have htraces := congrArg State.traces hframe
    rw [hgap] at hnear
    refine ⟨_, exec_pedalFrame_near hc hq hp hg hu hnear, by rw [htraces]; exact hframe, hfollowing,
      fun hzero => ?_, fun hpos => ?_⟩
    · rw [hlost, htraces]
      exact heard_counts_none (hgap.symm.trans hzero)
    · rw [hlost, htraces]
      subst hgap
      obtain ⟨hcount, hopen⟩ := heard_counts (s := s) (t0 := t0) (rest := rest) hpos
      refine ⟨hcount, fun hnone => ?_, fun id d hid hd hrec => ?_⟩
      · rw [hopen, hnone]
        rfl
      · rw [hopen, hid]
        exact TraceStore.find_gapped _ hd hrec
  case inWindow =>
    subst hx
    have herr := (errorOf_heard (f := unitFrame bytes) (g := g) (t0 := t0) (rest := rest) ho).trans he.symm
    refine ⟨_, exec_pedalFrame_near hc hq hp hg hu hnear, fun hs => ?trims, fun hs => ?confirms,
      fun o' base entries hs ho' hbase hentries => ?places⟩
    case trims =>
      rw [handleFrame_trims _ herr hs hw]
      simp [State.heard, ho, hs, trimmed]
    case confirms =>
      rcases Nat.lt_or_ge (s.pedal.inWindow + 1) 8 with hn | hn
      · rw [handleFrame_confirms _ herr hs hw hn, if_neg (Nat.not_le.mpr hn)]
        exact ⟨rfl, ho, rfl, hs, fun h8 => absurd hn (Nat.not_lt.mpr h8), fun _ => ⟨rfl, rfl⟩⟩
      · rw [handleFrame_locks _ herr hs hw hn, if_pos hn]
        simp [State.heard, ho, Nat.not_lt.mpr hn]
    case places =>
      obtain ⟨q, hplace, hfollowing, (hring : q.ring = s.pedal.ring),
        (hdropped : q.dropped = s.pedal.dropped)⟩ := handleFrame_places _ herr hw hs
      rw [hplace] at ho' ⊢
      rw [PedalLink.place_offset] at ho'
      subst hbase
      rw [← hring, ← hdropped]
      refine ⟨fun hl h => ?_, fun n hn h hd => ?_⟩
      · rw [PedalLink.place_later hfollowing ho' hentries (Nat.le_refl 4) hl h]
        exact ⟨rfl, rfl⟩
      · rw [PedalLink.place_dropped hfollowing ho' hentries hn h hd]
        exact ⟨rfl, rfl⟩
  case outOfWindow =>
    subst hx
    have herr := (errorOf_heard (f := unitFrame bytes) (g := g) (t0 := t0) (rest := rest) ho).trans he.symm
    refine ⟨_, exec_pedalFrame_near hc hq hp hg hu hnear, fun hs => ?retakes, fun hs => ?withholds⟩
    case retakes =>
      rw [handleFrame_retakes _ herr hs hw]
      exact ⟨hs, rfl, rfl, rfl, rfl, rfl⟩
    case withholds =>
      rcases Nat.lt_or_ge (s.pedal.outRun + 1) 3 with hn | hn
      · rw [handleFrame_withholds _ herr hs hw hn]
        exact ⟨rfl, rfl, rfl, rfl, fun _ => ⟨hs, ho, rfl⟩, fun h3 => absurd hn (Nat.not_lt.mpr h3)⟩
      · rw [handleFrame_unlocks _ herr hs hw hn]
        refine ⟨rfl, rfl, rfl, rfl, fun h3 => absurd hn (Nat.not_le.mpr h3),
          fun _ => ⟨rfl, rfl, rfl, fun hroom => ?_⟩⟩
        rw [← hu]
        exact enterLink_notices (g := g.extend (unitFrame bytes) t0) _ _ rfl hroom
  case unsync =>
    refine ⟨_, exec_pedalFrame_near hc hq hp hg hu hnear, ?_⟩
    rw [hx, handleFrame_unsync (s := s.heard g _ t0 rest) _ hs]
    rfl
  case silence => exact ⟨_, exec_pedalSilenceExpiry_due hc ha hd, rfl, rfl⟩

end Sys2Proof.Machine
end

section
/-! SUPPORT. LOAD_PROGRAM on a part at rest (R122, R124): the tables of programs and steps that a load or an unload
leaves, and the refusals in their order. -/

namespace Sys2Proof.Machine

/-! ## The tables (R124) -/

theorem stepAt_loaded {g : Guidance} {n : Nat} (h : 16 ≤ n) : stepAt g n = (g.steps[n - 16]?).join :=
  if_neg (Nat.not_lt.mpr h)

/-- R124: the steps of a program's range lose their content, the others keep theirs. -/
theorem clearRange_at (q : Program) (l : List (Option Step)) (k : Nat) : ((clearRange (some q) l)[k]?).join =
    if q.first ≤ k + 16 ∧ k + 16 ≤ q.last then none else (l[k]?).join := by
  unfold clearRange
  rcases Nat.lt_or_ge k l.length with h | h
  · simp [h]
  · simp [h]

theorem clearRange_length (r : Option Program) (l : List (Option Step)) : (clearRange r l).length = l.length := by
  cases r <;> simp [clearRange]

/-- R124: the steps written, and the others as they were. -/
theorem writeRange_at (first : Nat) (new : List Step) (l : List (Option Step)) (k : Nat) :
    ((writeRange first new l)[k]?).join =
      if k < l.length ∧ first ≤ k + 16 ∧ k + 16 < first + new.length then new[k + 16 - first]? else (l[k]?).join := by
  unfold writeRange
  rcases Nat.lt_or_ge k l.length with h | h
  · simp [h]
  · simp [h]

/-- R124: Guidance's tables once program `p` is loaded with the fields of `c` and the steps read from them. -/
def Guidance.loaded (p : Nat) (c : RawProgram) (steps : List Step) (g : Guidance) : Guidance :=
  { g with
      programs := g.programs.set (p - 2) (some { first := c.first, last := c.last, entryStep := c.entryStep })
      steps := writeRange c.first steps (clearRange (programAt g p) g.steps) }

/-- R124: the tables once program `p` is unloaded. -/
def Guidance.unloaded (p : Nat) (g : Guidance) : Guidance :=
  { g with programs := g.programs.set (p - 2) none, steps := clearRange (programAt g p) g.steps }

/-- R122: an entry of the table of programs 2..7. -/
theorem programAt_set {g h : Guidance} {p : Nat} {o : Option Program} (h2 : 2 ≤ p) (h7 : p ≤ 7)
    (hlen : g.programs.length = 6) (hp : h.programs = g.programs.set (p - 2) o) :
    programAt h p = o ∧ ∀ q, q ≠ p → programAt h q = programAt g q := by
  obtain ⟨k, rfl⟩ : ∃ k, p = k + 2 := ⟨p - 2, by omega⟩
  refine ⟨?_, fun q hq => ?_⟩
  · have hk : k < g.programs.length := by omega
    simp [programAt, hp, hk]
  · match q with
    | 0 | 1 => rfl
    | m + 2 =>
      have hm : k ≠ m := by omega
      simp [programAt, hp, List.getElem?_set_ne hm]

section
variable {p : Nat} {c : RawProgram} {steps : List Step} {g : Guidance}

/-- R124: a step inside the range of the load. -/
theorem stepAt_loaded_inside {i : Nat} (h16 : 16 ≤ c.first) (h95 : c.first + i ≤ 95) (h80 : g.steps.length = 80)
    (hi : i < steps.length) : stepAt (g.loaded p c steps) (c.first + i) = steps[i]? := by
  have hk : c.first + i - 16 + 16 = c.first + i := by omega
  have e : ((g.loaded p c steps).steps[c.first + i - 16]?).join = steps[i]? := by
    unfold Guidance.loaded
    rw [writeRange_at, clearRange_length, hk, if_pos (by omega), Nat.add_sub_cancel_left]
  rw [stepAt_loaded (by omega), e]

/-- R124: a step outside the range of the load is as the unloading of the old range leaves it. -/
theorem stepAt_loaded_outside {n : Nat} (h16 : 16 ≤ n) (hn : n < c.first ∨ c.first + steps.length ≤ n) :
    stepAt (g.loaded p c steps) n = stepAt (g.unloaded p) n := by
  have hk : n - 16 + 16 = n := by omega
  have e : ((g.loaded p c steps).steps[n - 16]?).join = ((g.unloaded p).steps[n - 16]?).join := by
    unfold Guidance.loaded Guidance.unloaded
    rw [writeRange_at, hk, if_neg (by omega)]
  rw [stepAt_loaded h16, stepAt_loaded h16, e]

/-- R124: the old range loses its content, the steps outside it keep theirs. -/
theorem stepAt_unloaded {n : Nat} (h16 : 16 ≤ n) :
    (∀ q, programAt g p = some q → q.first ≤ n → n ≤ q.last → stepAt (g.unloaded p) n = none)
      ∧ ((∀ q, programAt g p = some q → n < q.first ∨ q.last < n) → stepAt (g.unloaded p) n = stepAt g n) := by
  have hk : n - 16 + 16 = n := by omega
  rw [stepAt_loaded h16, stepAt_loaded h16]
  unfold Guidance.unloaded
  cases hq : programAt g p with
  | none => exact ⟨fun q h => (by cases h), fun _ => rfl⟩
  | some r =>
    dsimp only
    rw [clearRange_at, hk]
    refine ⟨fun q h h1 h2 => ?_, fun h => if_neg fun hr => ?_⟩
    · cases h
      exact if_pos ⟨h1, h2⟩
    · rcases h r rfl with h | h <;> omega

end

/-- R124: the steps of a load, entry by entry. -/
theorem loadedSteps_spelled {c : RawProgram} {steps : List Step} (h : loadedSteps c = some steps) :
    c.steps.length = steps.length ∧ ∀ (i : Nat) (r : RawStep), c.steps[i]? = some r →
      ∃ x, steps[i]? = some x ∧ StepSpelled r x := by
  have hread : readAll (stepOf c.first c.last) c.steps = some steps := by
    unfold loadedSteps at h
    split at h
    · split at h
      · cases h
      · next l hl =>
        split at h
        · cases h
        · rw [hl, h]
    · cases h
  have hm := readAll_eq_some hread
  refine ⟨by simpa using congrArg List.length hm, fun i r hr => ?_⟩
  have hi := congrArg (fun l => l[i]?) hm
  simp only [List.getElem?_map, hr, Option.map_some] at hi
  cases hx : steps[i]? with
  | none => rw [hx] at hi; cases hi
  | some x =>
    rw [hx] at hi
    exact ⟨x, rfl, stepOf_spelled (Option.some.inj hi)⟩

/-! ## The request (R124) -/

@[simp] theorem atOwner_guide (i : Instr) (s : State) : (atOwner i s).guide = s.guide := by rw [atOwner_eq]

/-- R191: on a part at rest an owner that changes no more than Guidance leaves that change and its reply. -/
theorem answer_onGuide {i : Instr} {k t : Nat} {op : State → Handled} {s : State} {f : Guidance → Guidance}
    (hc : Calm s) (hr : reachesOwner i s = true) (ho : op (atOwner i s) = accept ((atOwner i s).onGuide f)) :
    finish (answer i k t op s) = .next { replyWith i k t .ok .none s with guide := f s.guide } := by
  have hca : Calm ((atOwner i s).onGuide f) := Calm.of_eq (calm_atOwner i s hc) rfl rfl rfl rfl rfl
  rw [answer_next i k t op s .ok .none _ hr ho hca, ← atOwner_guide i s]
  rfl

section
variable {p : Nat} {c : RawProgram} {s : State}

theorem loadProgram_outside {u : Nat} {x : Option RawProgram} (h : p < 2 ∨ 7 < p) :
    loadProgram p u x s = refuse .badField s := if_pos (by simpa using h)

/-- R124: LOAD_PROGRAM of a program 2..7 whose fields are read, check by check. -/
theorem loadProgram_content {steps : List Step} (h2 : 2 ≤ p) (h7 : p ≤ 7) (hs : loadedSteps c = some steps) :
    loadProgram p 0 (some c) s =
      if rangeTaken p c.first c.last s.guide then refuse .state s
      else if programBusy p s.guide then refuse .busy s
      else accept (s.onGuide (Guidance.loaded p c steps)) := by
  unfold loadProgram
  rw [if_neg (by simp; omega)]
  simp only [hs]
  rfl

theorem loadProgram_unread (h : loadedSteps c = none) : loadProgram p 0 (some c) s = refuse .badField s := by
  unfold loadProgram
  split
  · rfl
  · simp only [h]

/-- R124: LOAD_PROGRAM of a program 2..7 without content. -/
theorem loadProgram_unload (h2 : 2 ≤ p) (h7 : p ≤ 7) : loadProgram p 1 none s =
    if programBusy p s.guide then refuse .busy s else accept (s.onGuide (Guidance.unloaded p)) :=
  if_neg (by simp; omega)

/-- R124: an unload indication that does not go with the content (log entry 43). -/
theorem loadProgram_mismatch {u : Nat} {x : Option RawProgram}
    (h : (u = 0 ∧ x = none) ∨ (u = 1 ∧ x ≠ none) ∨ 1 < u) : loadProgram p u x s = refuse .badField s := by
  unfold loadProgram
  split
  · rfl
  · split
    · simp at h
    · simp at h
    · rfl

theorem programBusy_false (h : ¬ ProgramInHand p s.guide) : programBusy p s.guide = false :=
  Bool.eq_false_iff.mpr fun hb => h ((programBusy_iff _ _).mp hb)

theorem rangeTaken_false {first last : Nat} (h : ¬ RangeOwned p first last s.guide) :
    rangeTaken p first last s.guide = false := Bool.eq_false_iff.mpr fun hb => h ((rangeTaken_iff _ _ _ _).mp hb)

end

/-- Settles O21: the checks in their order, and the tables that an accepted load or unload leaves. -/
theorem loadProgramWritesItsRange : Obligations.LoadProgramWritesItsRange := by
  intro tag p c s hc
  -- the checks read Guidance alone, which the owner meets as it stands
  have hg : ∀ i, (atOwner i s).guide = s.guide := fun i => atOwner_guide i s
  refine ⟨fun h2 h7 hlen h80 hr hin hown hhand => ?loads, fun h2 h7 hlen h80 hr hhand => ?unloads,
    fun u x hp hr => ?outside, fun h2 h7 hr hin => ?badField, fun h2 h7 hr hin hown => ?owned,
    fun h2 h7 hr hin hown hhand => ?busy, fun h2 h7 hr hhand => ?unloadBusy, fun u x h2 h7 hx hr => ?mismatch⟩
  case loads =>
    obtain ⟨steps, hs⟩ := (loadedSteps_isSome c).mpr hin
    obtain ⟨hsl, hspelled⟩ := loadedSteps_spelled hs
    obtain ⟨h16, hle, h95, -, -, hcl, -⟩ := hin
    obtain ⟨hprog, hothers⟩ := programAt_set (h := s.guide.loaded p c steps) h2 h7 hlen rfl
    refine ⟨_, answer_onGuide (f := Guidance.loaded p c steps) hc hr ?_, rfl, rfl, hprog, fun i r hi => ?_,
      fun n hn hout => ?_, hothers⟩
    · rw [loadProgram_content h2 h7 hs]
      simp only [hg, rangeTaken_false hown, programBusy_false hhand]
      rfl
    · obtain ⟨x, hx, hsp⟩ := hspelled i r hi
      have hilt := (List.getElem?_eq_some_iff.mp hi).1
      exact ⟨x, (stepAt_loaded_inside h16 (by omega) h80 (by omega)).trans hx, hsp⟩
    · have e := stepAt_loaded_outside (p := p) (steps := steps) (g := s.guide) hn (c := c) (by omega)
      obtain ⟨hlost, hkept⟩ := stepAt_unloaded (p := p) (g := s.guide) hn
      exact ⟨fun q hq h1 h2 => e.trans (hlost q hq h1 h2), fun h => e.trans (hkept h)⟩
  case unloads =>
    refine ⟨_, answer_onGuide (f := Guidance.unloaded p) hc hr ?_, rfl,
      (programAt_set (h := s.guide.unloaded p) h2 h7 hlen rfl).1, fun q hq n hn => (stepAt_unloaded hn).1 q hq⟩
    rw [loadProgram_unload h2 h7]
    simp only [hg, programBusy_false hhand]
    rfl
  case outside => exact answer_unchanged hc hr (loadProgram_outside hp)
  case badField =>
    have hs : loadedSteps c = none := Option.eq_none_iff_forall_ne_some.mpr fun l hl =>
      hin ((loadedSteps_isSome c).mp ⟨l, hl⟩)
    exact answer_unchanged hc hr (loadProgram_unread hs)
  case owned =>
    refine answer_unchanged hc hr ?_
    obtain ⟨steps, hs⟩ := (loadedSteps_isSome c).mpr hin
    rw [loadProgram_content h2 h7 hs]
    simp only [hg, (rangeTaken_iff _ _ _ _).mpr hown]
    rfl
  case busy =>
    refine answer_unchanged hc hr ?_
    obtain ⟨steps, hs⟩ := (loadedSteps_isSome c).mpr hin
    rw [loadProgram_content h2 h7 hs]
    simp only [hg, rangeTaken_false hown, (programBusy_iff _ _).mpr hhand]
    rfl
  case unloadBusy =>
    refine answer_unchanged hc hr ?_
    rw [loadProgram_unload h2 h7]
    simp only [hg, (programBusy_iff _ _).mpr hhand]
    rfl
  case mismatch => exact answer_unchanged hc hr (loadProgram_mismatch hx)

end Sys2Proof.Machine
end

section
/-! SUPPORT. What the two stations and the Vehicle Table leave alone (R126, R30, R38), as a view of the part: their
operations, in the order of the machine's files, change nothing of it. -/

namespace Sys2Proof.Machine

/-! ## The view -/

/-- Signal Acquisition without the lines, the outputs, and what is on its way to the stations. -/
def Signals.acquired (g : Signals) : Signals :=
  { g with lines := [], outputs := Outputs.off, edges := [], entryInbox := [], brakeInbox := [] }

/-- R126: the part with all that the stations and the Vehicle Table may change on their own events put to its reset value;
settings, loaded classes and programs, and the requests on their way stay. -/
def State.outside (s : State) : State :=
  { s with
      sig := s.sig.acquired
      vt := { VehicleTable.reset with
        dynMax := s.vt.dynMax, ageLimit := s.vt.ageLimit, defaultClass := s.vt.defaultClass, classes := s.vt.classes }
      entry := { EntryStation.reset with axleOn := s.entry.axleOn, settleBand := s.entry.settleBand }
      brake := { BrakeStation.reset with slipLimit := s.brake.slipLimit, imbFloor := s.brake.imbFloor }
      guide := { Guidance.reset with programs := s.guide.programs, steps := s.guide.steps }
      traces := { TraceStore.reset with hostHold := s.traces.hostHold, drainLevel := s.traces.drainLevel }
      cal := { s.cal with collection := none }
      port := { HostPort.reset with buffer := s.port.buffer, handed := s.port.handed }
      work := Work.none }

/-- What the view says of two states: only the named parts differ. -/
theorem outside_spec {s t : State} (h : t.outside = s.outside) (hw : t.work = s.work) :
    t = { s with
        sig := { s.sig with lines := t.sig.lines, outputs := t.sig.outputs, edges := t.sig.edges,
                            entryInbox := t.sig.entryInbox, brakeInbox := t.sig.brakeInbox }
        vt := { t.vt with classes := s.vt.classes }
        entry := t.entry, brake := t.brake, guide := t.guide, traces := t.traces
        cal := { s.cal with collection := t.cal.collection }, port := t.port }
      ∧ settingsOf t = settingsOf s ∧ t.guide.programs = s.guide.programs ∧ t.guide.steps = s.guide.steps
      ∧ t.port.buffer = s.port.buffer ∧ t.port.handed = s.port.handed := by
  have e : t = { t.outside with
      sig := { t.outside.sig with lines := t.sig.lines, outputs := t.sig.outputs, edges := t.sig.edges,
                                  entryInbox := t.sig.entryInbox, brakeInbox := t.sig.brakeInbox }
      vt := { t.vt with classes := t.outside.vt.classes }
      entry := t.entry, brake := t.brake, guide := t.guide, traces := t.traces
      cal := { t.outside.cal with collection := t.cal.collection }, port := t.port, work := t.work } := rfl
  have hset : settingsOf t.outside = settingsOf s.outside := congrArg settingsOf h
  refine ⟨?_, hset, congrArg (fun u => u.guide.programs) h, congrArg (fun u => u.guide.steps) h,
    congrArg (fun u => u.port.buffer) h, congrArg (fun u => u.port.handed) h⟩
  rw [h, hw] at e
  exact e

theorem outside_of_eq {s t u : State} (h : t = u) (hu : u.outside = s.outside) : t.outside = s.outside := h ▸ hu

/-- Steps of a fold that each leave the view leave it. -/
theorem outside_foldl {α : Type} {f : State → α → State} (h : ∀ s a, (f s a).outside = s.outside) (l : List α)
    (s : State) : (l.foldl f s).outside = s.outside := by
  induction l generalizing s with
  | nil => rfl
  | cons a l ih => exact (ih _).trans (h s a)

/-! ## One update of each block -/

@[simp] theorem onVt_outside {f : VehicleTable → VehicleTable} {s : State} (h : ∀ v, (f v).dynMax = v.dynMax
    ∧ (f v).ageLimit = v.ageLimit ∧ (f v).defaultClass = v.defaultClass ∧ (f v).classes = v.classes) :
    (s.onVt f).outside = s.outside := by
  obtain ⟨h1, h2, h3, h4⟩ := h s.vt
  simp [State.outside, h1, h2, h3, h4]

@[simp] theorem onEntry_outside {f : EntryStation → EntryStation} {s : State}
    (h : ∀ e, (f e).axleOn = e.axleOn ∧ (f e).settleBand = e.settleBand) : (s.onEntry f).outside = s.outside := by
  obtain ⟨h1, h2⟩ := h s.entry
  simp [State.outside, h1, h2]

@[simp] theorem onBrake_outside {f : BrakeStation → BrakeStation} {s : State}
    (h : ∀ b, (f b).slipLimit = b.slipLimit ∧ (f b).imbFloor = b.imbFloor) : (s.onBrake f).outside = s.outside := by
  obtain ⟨h1, h2⟩ := h s.brake
  simp [State.outside, h1, h2]

@[simp] theorem onGuide_outside {f : Guidance → Guidance} {s : State}
    (h : ∀ g, (f g).programs = g.programs ∧ (f g).steps = g.steps) : (s.onGuide f).outside = s.outside := by
  obtain ⟨h1, h2⟩ := h s.guide
  simp [State.outside, h1, h2]

@[simp] theorem onTraces_outside {f : TraceStore → TraceStore} {s : State}
    (h : ∀ t, (f t).hostHold = t.hostHold ∧ (f t).drainLevel = t.drainLevel) : (s.onTraces f).outside = s.outside := by
  obtain ⟨h1, h2⟩ := h s.traces
  simp [State.outside, h1, h2]

@[simp] theorem onPort_outside {f : HostPort → HostPort} {s : State}
    (h : ∀ p, (f p).buffer = p.buffer ∧ (f p).handed = p.handed) : (s.onPort f).outside = s.outside := by
  obtain ⟨h1, h2⟩ := h s.port
  simp [State.outside, h1, h2]

@[simp] theorem onWork_outside (f : Work → Work) (s : State) : (s.onWork f).outside = s.outside := rfl

/-! ## Notices, work owed, outputs, records -/

@[simp] theorem sendNotice_outside (n : Notice) (s : State) : (sendNotice n s).outside = s.outside := rfl
@[simp] theorem postReply_outside (k t : Nat) (st : Status) (b : ReplyBody) (s : State) :
    (postReply k t st b s).outside = s.outside := rfl
@[simp] theorem hand_outside (i : GuideItem) (s : State) : (hand i s).outside = s.outside := rfl
@[simp] theorem raiseEvent_outside (e : GEvent) (s : State) : (raiseEvent e s).outside = s.outside := rfl
@[simp] theorem handVehicle_outside (st : Station) (v : Option Nat) (s : State) :
    (handVehicle st v s).outside = s.outside := rfl
@[simp] theorem noteHead_outside (s : State) : (noteHead s).outside = s.outside := rfl
@[simp] theorem noteRetry_outside (s : State) : (noteRetry s).outside = s.outside := rfl
@[simp] theorem noteRematch_outside (s : State) : (noteRematch s).outside = s.outside := rfl
@[simp] theorem setRun_outside (on : Bool) (s : State) : (setRun on s).outside = s.outside := rfl
@[simp] theorem modRec_outside (k : Nat) (f : Record → Record) (s : State) : (modRec k f s).outside = s.outside := rfl
@[simp] theorem writeRec_outside (k : Nat) (f : Record → Record) (s : State) : (writeRec k f s).outside = s.outside := rfl
@[simp] theorem writeAxle_outside (k n : Nat) (f : Axle → Axle) (s : State) :
    (writeAxle k n f s).outside = s.outside := rfl

/-! ## Traces -/

@[simp] theorem TraceStore.setFree_settings (t : TraceStore) (k : TraceKind) (r : Runs) :
    (t.setFree k r).hostHold = t.hostHold ∧ (t.setFree k r).drainLevel = t.drainLevel := by
  unfold TraceStore.setFree; split <;> exact ⟨rfl, rfl⟩

@[simp] theorem TraceStore.modify_settings (t : TraceStore) (id : Nat) (f : Descriptor → Descriptor) :
    (t.modify id f).hostHold = t.hostHold ∧ (t.modify id f).drainLevel = t.drainLevel := ⟨rfl, rfl⟩

@[simp] theorem TraceStore.sweep_settings (t : TraceStore) :
    t.sweep.hostHold = t.hostHold ∧ t.sweep.drainLevel = t.drainLevel := by
  have hf : ∀ (l : List Descriptor) (u : TraceStore),
      (l.foldl giveBack u).hostHold = u.hostHold ∧ (l.foldl giveBack u).drainLevel = u.drainLevel := by
    intro l
    induction l with
    | nil => exact fun u => ⟨rfl, rfl⟩
    | cons d l ih => exact fun u => ⟨(ih _).1.trans (by simp [giveBack]), (ih _).2.trans (by simp [giveBack])⟩
  exact hf _ t

@[simp] theorem TraceStore.append_settings (ts : TraceStore) (id : Nat) (x : TraceSample) (t : LaneTime) :
    (ts.append id x t).hostHold = ts.hostHold ∧ (ts.append id x t).drainLevel = ts.drainLevel := by
  unfold TraceStore.append
  split
  · exact ⟨rfl, rfl⟩
  · split
    · exact ⟨rfl, rfl⟩
    · split
      · split <;> simp
      · simp

@[simp] theorem openTrace_outside (k : TraceKind) (n : Nat) (a : Option Nat) (s : State) :
    (openTrace k n a s).2.outside = s.outside := by
  unfold openTrace; split <;> rfl

@[simp] theorem appendSample_outside (tr : Option Nat) (x : TraceSample) (t : LaneTime) (s : State) :
    (appendSample tr x t s).outside = s.outside := by
  unfold appendSample; split <;> simp

@[simp] theorem addExcess_outside (tr : Option Nat) (s : State) : (addExcess tr s).outside = s.outside := by
  unfold addExcess; split <;> rfl

@[simp] theorem joinDrain_outside (id : Nat) (s : State) : (joinDrain id s).outside = s.outside := by
  unfold joinDrain; dsimp only; split <;> rfl

@[simp] theorem closeTrace_outside (id : Nat) (a : Bool) (s : State) : (closeTrace id a s).2.outside = s.outside := by
  unfold closeTrace
  split
  · rfl
  · dsimp only; split <;> simp

@[simp] theorem abortTrace_outside (tr : Option Nat) (s : State) : (abortTrace tr s).outside = s.outside := by
  unfold abortTrace; split <;> simp

@[simp] theorem clearSlotHolds_outside (k : Nat) (s : State) : (clearSlotHolds k s).outside = s.outside := by
  simp [clearSlotHolds, clearPrintHolds]

/-! ## The Vehicle Table -/

@[simp] theorem removeRecord_outside (k : Nat) (c : Option RemovalCause) (s : State) :
    (removeRecord k c s).outside = s.outside := by
  unfold removeRecord; dsimp only; split <;> split <;> simp

@[simp] theorem bindRecord_outside (k : Nat) (s : State) : (bindRecord k s).outside = s.outside := by
  unfold bindRecord; dsimp only; split <;> rfl

@[simp] theorem learnRecord_outside (s : State) : (learnRecord s).2.outside = s.outside := by
  unfold learnRecord; split <;> simp

@[simp] theorem askRecord_outside (s : State) : (askRecord s).state.outside = s.outside := by
  unfold askRecord
  split
  · rfl
  · split
    · simp
    · split
      · simp
      · split <;> simp

@[simp] theorem completeHead_outside (c : LeaveCause) (s : State) : (completeHead c s).outside = s.outside := by
  unfold completeHead; split <;> rfl

@[simp] theorem evaluateLeaving_outside (s : State) : (evaluateLeaving s).outside = s.outside := by
  unfold evaluateLeaving; split <;> simp

@[simp] theorem appendAxle_outside (k : Nat) (f : Axle → Axle) (s : State) :
    (appendAxle k f s).2.outside = s.outside := by
  unfold appendAxle; split <;> rfl

@[simp] theorem releaseHead_outside (s : State) : (releaseHead s).outside = s.outside := by
  unfold releaseHead; split <;> simp

@[simp] theorem expireAge_outside (k : Nat) (s : State) : (expireAge k s).outside = s.outside := by
  unfold expireAge; dsimp only; split <;> simp

@[simp] theorem exitBroken_outside (s : State) : (exitBroken s).outside = s.outside := rfl

@[simp] theorem exitCleared_outside (s : State) : (exitCleared s).outside = s.outside := by
  unfold exitCleared; split <;> simp

/-! ## The entry station -/

@[simp] theorem onPlate_outside (f : PlateTracker → PlateTracker) (s : State) : (onPlate f s).outside = s.outside := rfl
@[simp] theorem onScale_outside (f : ScaleTracker → ScaleTracker) (s : State) : (onScale f s).outside = s.outside := rfl
@[simp] theorem noticeEntry_outside (c : Option BlockCause) (s : State) : (noticeEntry c s).outside = s.outside := rfl
@[simp] theorem cancelQuiet_outside (s : State) : (cancelQuiet s).outside = s.outside := rfl
@[simp] theorem startTrackers_outside (s : State) : (startTrackers s).outside = s.outside := rfl
@[simp] theorem onEntry_idled_outside (s : State) : (s.onEntry EntryStation.idled).outside = s.outside := rfl

@[simp] theorem noticeDeparture_outside (n : EntryName) (s : State) : (noticeDeparture n s).outside = s.outside := by
  unfold noticeDeparture; split <;> rfl

@[simp] theorem checkFinishing_outside (s : State) : (checkFinishing s).outside = s.outside := by
  unfold checkFinishing; split <;> rfl

@[simp] theorem bindStation_outside (k : Nat) (s : State) : (bindStation k s).outside = s.outside := by
  simp [bindStation]

@[simp] theorem startVehicle_outside (s : State) : (startVehicle s).outside = s.outside := by
  unfold startVehicle; dsimp only; split <;> simp

@[simp] theorem noticeMeasured_outside (k n : Nat) (s : State) : (noticeMeasured k n s).outside = s.outside := by
  unfold noticeMeasured; dsimp only; split <;> rfl

@[simp] theorem refuseAxle_outside (k : Nat) (s : State) : (refuseAxle k s).outside = s.outside := by
  simp [refuseAxle]

@[simp] theorem appendMeasured_outside (k : Nat) (f : Axle → Axle) (s : State) :
    (appendMeasured k f s).2.outside = s.outside := by
  unfold appendMeasured; dsimp only; split <;> simp

@[simp] theorem appendPassed_outside (k n : Nat) (s : State) : (appendPassed k n s).outside = s.outside := by
  induction n generalizing s with
  | zero => rfl
  | succ n ih => exact (ih _).trans (appendMeasured_outside k id s)

/-- R12, R49: a binding tried again. -/
@[simp] theorem retryBinding_outside (s : State) : (retryBinding s).outside = s.outside := by
  unfold retryBinding
  split
  · dsimp only
    split
    · rfl
    · split <;> simp
  · rfl

@[simp] theorem barrierActive_outside (s : State) : (barrierActive s).outside = s.outside := by
  unfold barrierActive
  split
  · rfl
  · split <;> simp

@[simp] theorem barrierInactive_outside (s : State) : (barrierInactive s).outside = s.outside := by
  unfold barrierInactive
  split
  · simp
  · split <;> simp

@[simp] theorem plateActive_outside (s : State) : (plateActive s).outside = s.outside := by
  unfold plateActive
  split
  · dsimp only; split <;> simp
  · rfl

@[simp] theorem plateInactive_outside (s : State) : (plateInactive s).outside = s.outside := by
  unfold plateInactive; split <;> simp

@[simp] theorem takeWeight_outside (u : Bool) (wl wr : Option Nat) (s : State) :
    (takeWeight u wl wr s).outside = s.outside := by
  unfold takeWeight; dsimp only; split <;> simp

@[simp] theorem takeUnsettled_outside (s : State) : (takeUnsettled s).outside = s.outside := takeWeight_outside _ _ _ s
@[simp] theorem takeSettled_outside (s : State) : (takeSettled s).outside = s.outside := takeWeight_outside _ _ _ s

@[simp] theorem leaveScale_outside (s : State) : (leaveScale s).outside = s.outside := by
  unfold leaveScale; dsimp only; split <;> split <;> simp

@[simp] theorem comeOnScale_outside (x : EntrySample) (s : State) : (comeOnScale x s).outside = s.outside := by
  unfold comeOnScale; dsimp only; split <;> simp

/-- R52 to R54: a sample on the scale, whether it ends there, settles there or only joins. -/
@[simp] theorem scaleSample_outside (x : EntrySample) (s : State) : (scaleSample x s).outside = s.outside := by
  have joined : ∀ u : State, u.outside = s.outside → (if u.entry.scale.low == 5 then leaveScale u
      else if u.entry.scale.phase == .weighing && u.entry.scale.settled u.entry.settleBand then takeSettled u
      else u).outside = s.outside := by
    intro u hu
    split
    · simpa using hu
    · split
      · simpa using hu
      · exact hu
  unfold scaleSample
  split
  · split <;> simp
  · exact joined _ rfl
  · exact joined _ rfl

@[simp] theorem liveEntry_outside (x : EntrySample) (s : State) : (liveEntry x s).outside = s.outside := by
  unfold liveEntry
  split
  · rfl
  · split <;> rfl

@[simp] theorem recordEntrySample_outside (x : EntrySample) (s : State) :
    (recordEntrySample x s).outside = s.outside := by
  unfold recordEntrySample; split <;> simp

@[simp] theorem entryWindow_outside (d : Delivery) (s : State) : (entryWindow d s).outside = s.outside := by
  unfold entryWindow; split <;> simp

@[simp] theorem settleExpired_outside (s : State) : (settleExpired s).outside = s.outside := by
  unfold settleExpired; split <;> simp

@[simp] theorem closeEntryTrace_outside (s : State) : (closeEntryTrace s).outside = s.outside := by
  unfold closeEntryTrace; split <;> simp

@[simp] theorem quietExpired_outside (s : State) : (quietExpired s).outside = s.outside := by
  unfold quietExpired
  split
  · rfl
  · split <;> simp

/-! ## The brake station -/

@[simp] theorem noticeBrake_outside (s : State) : (noticeBrake s).outside = s.outside := rfl
@[simp] theorem noticeFault_outside (c : BrakeCause) (b : Bool) (s : State) : (noticeFault c b s).outside = s.outside := rfl
@[simp] theorem reportFree_outside (s : State) : (reportFree s).outside = s.outside := rfl
@[simp] theorem dropAxle_outside (s : State) : (dropAxle s).outside = s.outside := rfl

@[simp] theorem enterState_outside (st : BrakeState) (s : State) : (enterState st s).outside = s.outside := by
  unfold enterState; dsimp only; split <;> rfl

@[simp] theorem setVehicle_outside (v : Option Nat) (s : State) : (setVehicle v s).outside = s.outside := by
  unfold setVehicle; split <;> rfl

@[simp] theorem enterIdle_outside (s : State) : (enterIdle s).outside = s.outside := by simp [enterIdle]

@[simp] theorem enterWaitWheels_outside (s : State) : (enterWaitWheels s).outside = s.outside := by
  unfold enterWaitWheels; dsimp only; split <;> simp

@[simp] theorem takeHead_outside (s : State) : (takeHead s).outside = s.outside := by
  unfold takeHead; split <;> simp

@[simp] theorem enterWaitClear_outside (s : State) : (enterWaitClear s).outside = s.outside := by simp [enterWaitClear]

@[simp] theorem noticeTested_outside (r : Option AbortReason) (x : Option AxleResult) (s : State) :
    (noticeTested r x s).outside = s.outside := by
  unfold noticeTested; split <;> rfl

@[simp] theorem abortAttempt_outside (r : AbortReason) (s : State) : (abortAttempt r s).outside = s.outside := by
  unfold abortAttempt; dsimp only; split <;> simp [BrakeStation.discarded]

@[simp] theorem enterFault_outside (c : BrakeCause) (s : State) : (enterFault c s).outside = s.outside := by
  unfold enterFault
  split
  · rfl
  · dsimp only; split <;> simp

@[simp] theorem takeAxle_outside (n : Nat) (ph : Phase) (s : State) : (takeAxle n ph s).outside = s.outside := by
  unfold takeAxle enterZeroing; split <;> simp

@[simp] theorem matchAxle_outside (v : Nat) (s : State) : (matchAxle v s).outside = s.outside := by
  unfold matchAxle
  dsimp only
  split
  · simp
  · split
    · split <;> simp
    · simp

@[simp] theorem rematchAxle_outside (s : State) : (rematchAxle s).outside = s.outside := by
  unfold rematchAxle
  split
  · split <;> simp
  · rfl

@[simp] theorem presenceExpired_outside (s : State) : (presenceExpired s).outside = s.outside := by
  unfold presenceExpired
  split
  · rfl
  · split <;> simp

@[simp] theorem headChanged_outside (s : State) : (headChanged s).outside = s.outside := by
  unfold headChanged
  cases s.brake.state with
  | idle => dsimp only; split <;> simp
  | waitWheels | waitAxleRecord => dsimp only; split <;> simp
  | zeroing | spinUp | drag | braking | stopping | axleDone | waitClear => rfl
  | fault => simp

@[simp] theorem enterSpinUp_outside (s : State) : (enterSpinUp s).outside = s.outside := by
  unfold enterSpinUp; dsimp only; split <;> simp

@[simp] theorem zeroingSample_outside (d : Delivery) (s : State) : (zeroingSample d s).outside = s.outside := by
  unfold zeroingSample; dsimp only; split <;> simp

@[simp] theorem spinUpSample_outside (x : BrakeSample) (s : State) : (spinUpSample x s).outside = s.outside := by
  unfold spinUpSample enterDrag
  extract_lets ts n s1
  split <;> simp [s1]

@[simp] theorem dragSample_outside (x : BrakeSample) (s : State) : (dragSample x s).outside = s.outside := by
  unfold dragSample enterBraking; dsimp only; split <;> simp

@[simp] theorem endBraking_outside (c : EndCause) (e : Option GEvent) (s : State) :
    (endBraking c e s).outside = s.outside := by
  unfold endBraking; split <;> simp

@[simp] theorem brakingSample_outside (x : BrakeSample) (s : State) : (brakingSample x s).outside = s.outside := by
  unfold brakingSample
  extract_lets s1 s2 n s3
  have h1 : s1.outside = s.outside := rfl
  have h3 : s3.outside = s.outside := rfl
  split
  · simp [h1]
  · split <;> simp [h3]

@[simp] theorem closePhaseTrace_outside (s : State) : (closePhaseTrace s).outside = s.outside := by
  unfold closePhaseTrace; split <;> simp

@[simp] theorem writeResult_outside (v n : Nat) (s : State) : (writeResult v n s).outside = s.outside := by
  simp [writeResult]

@[simp] theorem raiseVehicleDone_outside (v : Nat) (b s : State) : (raiseVehicleDone v b s).outside = s.outside := by
  unfold raiseVehicleDone; split <;> simp

@[simp] theorem axleDone_outside (s : State) : (axleDone s).outside = s.outside := by
  unfold axleDone
  split
  · simp
  · dsimp only; split <;> simp

@[simp] theorem stoppingSample_outside (d : Delivery) (s : State) : (stoppingSample d s).outside = s.outside := by
  unfold stoppingSample
  extract_lets n s1
  split <;> simp [s1]

@[simp] theorem stopExpired_outside (s : State) : (stopExpired s).outside = s.outside := by
  unfold stopExpired
  split
  · split <;> simp
  · rfl

/-- R64, R80: whatever the station's state asks of a sample. -/
@[simp] theorem actOnSample_outside (d : Delivery) (x : BrakeSample) (s : State) :
    (actOnSample d x s).outside = s.outside := by
  unfold actOnSample
  cases s.brake.state with
  | zeroing | spinUp | drag | braking => dsimp only; split <;> simp
  | stopping => simp
  | idle | waitWheels | waitAxleRecord | axleDone | waitClear | fault => rfl

@[simp] theorem liveBrake_outside (x : BrakeSample) (s : State) : (liveBrake x s).outside = s.outside := by
  unfold liveBrake
  split
  · rfl
  · split <;> rfl

@[simp] theorem recordBrakeSample_outside (x : BrakeSample) (s : State) :
    (recordBrakeSample x s).outside = s.outside := by
  unfold recordBrakeSample; split <;> simp

@[simp] theorem brakeWindow_outside (d : Delivery) (s : State) : (brakeWindow d s).outside = s.outside := by
  simp [brakeWindow]

@[simp] theorem spinUpExpired_outside (s : State) : (spinUpExpired s).outside = s.outside := by
  unfold spinUpExpired; split <;> simp

@[simp] theorem brakingExpired_outside (s : State) : (brakingExpired s).outside = s.outside := by
  unfold brakingExpired; split <;> simp

@[simp] theorem clearExpired_outside (s : State) : (clearExpired s).outside = s.outside := by
  unfold clearExpired; split <;> simp

@[simp] theorem wheelCame_outside (w : Side) (t : LaneTime) (s : State) : (wheelCame w t s).outside = s.outside := by
  unfold wheelCame
  cases s.brake.state with
  | waitWheels => dsimp only; split <;> rfl
  | idle | waitAxleRecord | zeroing | spinUp | drag | braking | stopping | axleDone | waitClear | fault => rfl

@[simp] theorem wheelWent_outside (w : Side) (t : LaneTime) (s : State) : (wheelWent w t s).outside = s.outside := by
  unfold wheelWent
  cases s.brake.state with
  | waitClear => dsimp only; split <;> rfl
  | zeroing | spinUp | drag | braking | stopping => simp [wheelsLost]
  | waitAxleRecord => simp
  | idle | waitWheels | axleDone | fault => rfl

@[simp] theorem driveCame_outside (s : State) : (driveCame s).outside = s.outside := by
  unfold driveCame; split <;> rfl

@[simp] theorem driveWent_outside (s : State) : (driveWent s).outside = s.outside := by
  unfold driveWent; split <;> simp

@[simp] theorem estopCame_outside (s : State) : (estopCame s).outside = s.outside := enterFault_outside .estop s

@[simp] theorem markParking_outside (s : State) : (markParking s).outside = s.outside := by
  unfold markParking
  split
  · rfl
  · split <;> rfl

@[simp] theorem endAxle_outside (s : State) : (endAxle s).outside = s.outside := by
  unfold endAxle; split <;> simp

@[simp] theorem skipAxle_outside (c : SkipCause) (v n : Nat) (s : State) : (skipAxle c v n s).outside = s.outside := by
  unfold skipAxle; dsimp only; split <;> simp [markSkipped]

@[simp] theorem guidanceSkip_outside (s : State) : (guidanceSkip s).outside = s.outside := by
  unfold guidanceSkip; split <;> simp

@[simp] theorem guidanceRelease_outside (s : State) : (guidanceRelease s).outside = s.outside := by
  unfold guidanceRelease carryRelease
  split
  · split <;> simp
  · rfl

end Sys2Proof.Machine
end

section
/-! SUPPORT. What follows an event, and every event of the stations and of the Vehicle Table, leave the view; O44. -/

namespace Sys2Proof.Machine

/-! ## Guidance and collections -/

theorem OnlyGuided.outside {st : Station} {s t : State} (h : OnlyGuided st s t) : t.outside = s.outside :=
  outside_of_eq h.1 rfl

@[simp] theorem modGuide_outside (st : Station) (f : StationGuide → StationGuide) (s : State) :
    (modGuide st f s).outside = s.outside := (onlyGuided_modGuide st f s).outside

@[simp] theorem enter_outside (st : Station) (n : Option Nat) (s : State) : (enter st n s).outside = s.outside :=
  (enter_onlyGuided st n s).outside

@[simp] theorem runProgram_outside (st : Station) (p : Nat) (s : State) : (runProgram st p s).outside = s.outside := by
  simp [runProgram]

@[simp] theorem raiseFlag_outside (e : GEvent) (s : State) : (raiseFlag e s).outside = s.outside := by
  unfold raiseFlag
  dsimp only
  split
  · rfl
  · split
    · rfl
    · split <;> simp

@[simp] theorem takeItem_outside (s : State) (i : GuideItem) : (takeItem s i).outside = s.outside := by
  cases i with
  | vehicle st v => simp [takeItem, selectProgram]
  | event e => unfold takeItem takeEvent moveToEntry; dsimp only; split <;> simp
  | brakeSample =>
    unfold takeItem compareSample
    dsimp only
    split
    · rfl
    · split <;> simp

@[simp] theorem settleGuidance_outside (s : State) : (settleGuidance s).outside = s.outside :=
  (outside_foldl takeItem_outside s.work.items (s.onWork fun _ => Work.none)).trans (onWork_outside _ s)

@[simp] theorem guardCollection_outside (s : State) : (guardCollection s).outside = s.outside := by
  obtain ⟨c, r, h⟩ := guardCollection_eq s
  exact outside_of_eq h rfl

/-! ## The stages -/

@[simp] theorem settleHead_outside (s : State) : (settleHead s).outside = s.outside := by
  unfold settleHead; split <;> simp

@[simp] theorem settleRetry_outside (s : State) : (settleRetry s).outside = s.outside := by
  unfold settleRetry; split <;> simp

@[simp] theorem settleRematch_outside (s : State) : (settleRematch s).outside = s.outside := by
  unfold settleRematch; split <;> simp

/-- R12, R65, R67, R126, R184: what follows an event, but for the writes that begin. -/
theorem settle_outside (s : State) : (settle s).outside = (settleWrites s).outside := by simp [settle]

/-! ## How an event reaches its owner -/

theorem onEdge_outside {f : LineFn} {b : Bool} {k : LaneTime → State → State} {s : State}
    (h : ∀ t u, (k t u).outside = u.outside) : (onEdge f b k s).outside = s.outside := by
  unfold onEdge
  split
  · next t u he => exact (h t u).trans (outside_of_eq (takeEdge_eq he) rfl)
  · rfl

theorem onRequest_outside {r : StationRequest} {k : State → State} {s : State} (h : ∀ u, (k u).outside = u.outside) :
    (onRequest r k s).outside = s.outside := by
  unfold onRequest takeRequest
  split
  · next u hu =>
    rw [h]
    split at hu
    · split at hu
      · cases hu; rfl
      · cases hu
    · cases hu
  · rfl

theorem takeEntryWindow_outside (s : State) : (takeEntryWindow s).outside = s.outside := by
  unfold takeEntryWindow
  split
  · rfl
  · exact (entryWindow_outside _ _).trans rfl

theorem takeBrakeWindow_outside (s : State) : (takeBrakeWindow s).outside = s.outside := by
  unfold takeBrakeWindow
  split
  · rfl
  · exact (brakeWindow_outside _ _).trans rfl

/-- R126: the own effect of each event of the stations and of the Vehicle Table leaves the view. -/
theorem stationEvent_effect {i : Instr} (s : State) (hi : i ∈ stationEvents) :
    ∃ u, exec i s = finish u ∧ u.outside = s.outside := by
  cases i
  case entryBarrierActive => exact ⟨_, rfl, onEdge_outside fun _ => barrierActive_outside⟩
  case entryBarrierInactive => exact ⟨_, rfl, onEdge_outside fun _ => barrierInactive_outside⟩
  case slipPlateSwitchActive => exact ⟨_, rfl, onEdge_outside fun _ => plateActive_outside⟩
  case slipPlateSwitchInactive => exact ⟨_, rfl, onEdge_outside fun _ => plateInactive_outside⟩
  case exitBarrierBroken => exact ⟨_, rfl, onEdge_outside fun _ => exitBroken_outside⟩
  case exitBarrierClear => exact ⟨_, rfl, onEdge_outside fun _ => exitCleared_outside⟩
  case wheelActive w => exact ⟨_, rfl, onEdge_outside (wheelCame_outside w)⟩
  case wheelInactive w => exact ⟨_, rfl, onEdge_outside (wheelWent_outside w)⟩
  case driveReadyActive w => exact ⟨_, rfl, onEdge_outside fun _ => driveCame_outside⟩
  case driveReadyInactive w => exact ⟨_, rfl, onEdge_outside fun _ => driveWent_outside⟩
  case estopActive => exact ⟨_, rfl, onEdge_outside fun _ => estopCame_outside⟩
  case estopInactive => exact ⟨_, rfl, onEdge_outside fun _ _ => rfl⟩
  case ageExpiry k => exact ⟨_, rfl, expireAge_outside k s⟩
  case entryWindowEnd => exact ⟨_, rfl, takeEntryWindow_outside s⟩
  case settleExpiry => exact ⟨_, rfl, settleExpired_outside s⟩
  case quietExpiry => exact ⟨_, rfl, quietExpired_outside s⟩
  case brakeWindowEnd => exact ⟨_, rfl, takeBrakeWindow_outside s⟩
  case presenceExpiry => exact ⟨_, rfl, presenceExpired_outside s⟩
  case spinUpExpiry => exact ⟨_, rfl, spinUpExpired_outside s⟩
  case brakingExpiry => exact ⟨_, rfl, brakingExpired_outside s⟩
  case stopExpiry => exact ⟨_, rfl, stopExpired_outside s⟩
  case clearExpiry => exact ⟨_, rfl, clearExpired_outside s⟩
  case markParking => exact ⟨_, rfl, onRequest_outside markParking_outside⟩
  case endAxle => exact ⟨_, rfl, onRequest_outside endAxle_outside⟩
  case guidanceSkipAxle => exact ⟨_, rfl, onRequest_outside guidanceSkip_outside⟩
  case guidanceReleaseVehicle => exact ⟨_, rfl, onRequest_outside guidanceRelease_outside⟩
  all_goals exact absurd hi (by simp [stationEvents])

/-- Settles O44: the event's own effect leaves the view, and so does what follows it; nothing is owed before or after. -/
theorem stationEventsKeepTheOtherBlocks : Obligations.StationEventsKeepTheOtherBlocks := by
  intro i s t hc hi h
  obtain ⟨u, hu, hout⟩ := stationEvent_effect s hi
  have ht : settle u = t := by rw [hu] at h; cases h; rfl
  have hrest : WritesRest u := by
    have e : WritesRest u.outside = WritesRest s.outside := congrArg WritesRest hout
    exact (e.mpr hc.writesRest : WritesRest u.outside)
  subst ht
  refine outside_spec ?_ ?_
  · rw [settle_outside, settleWrites_rest hrest, hout]
  · obtain ⟨g, o, hg⟩ := guideOnly_settleGuidance (guardCollection (settleRematch (settleHead (settleRetry
      (settleHead (settleWrites u))))))
    rw [hc.1]
    exact congrArg State.work hg

end Sys2Proof.Machine
end

section
/-! SUPPORT. What follows an event leaves nothing of it over (R126, R181, R184): the write queue's commits that cannot be
written leave it and one write begins, the collection ends with its station's IDLE, and Guidance takes every result. -/

namespace Sys2Proof.Machine

/-! ## The store under the ends of jobs (R161, R172) -/

theorem restartRecord_outside (k : Nat) (s : State) : (restartRecord k s).outside = s.outside := by
  unfold restartRecord; split <;> simp

/-- R172: the end of a job leaves the calibration store alone. -/
theorem closeJob_store (j : Job) (o : JobOutcome) (c : Option JobCause) (r : Bool) (s : State) :
    (closeJob j o c r s).outside.cal = s.outside.cal := by
  unfold closeJob
  extract_lets s1 s2 s3 s4 s5
  have h3 : s3.outside = s2.outside := by
    unfold s3
    split
    · rfl
    · exact retryBinding_outside s2
  have h5 : s5.outside = s2.outside := ((sendNotice_outside _ s4).trans (clearSlotHolds_outside _ s3)).trans h3
  have h2 : s2.outside.cal = s.outside.cal := rfl
  split
  · rw [restartRecord_outside, h5, h2]
  · rw [h5, h2]

/-- R161: while no number can be given every QUEUED head ends FAILED, and none asks for a commit. -/
theorem numberHead_spent {n : Nat} {s : State} (h : counterSpent s = true) :
    (numberHead n s).outside.cal = s.outside.cal := by
  induction n generalizing s with
  | zero => rfl
  | succ n ih =>
    unfold numberHead
    split
    · rfl
    · next j _ _ =>
      have hclose := closeJob_store j .failed (some .store) false s
      have hspent : counterSpent (closeJob j .failed (some .store) false s) = true :=
        (congrArg (fun c : CalStore => !c.available || decide (4294967295 ≤ c.counter)) hclose).trans h
      split
      · rfl
      · exact (ih hspent).trans hclose

theorem endJob_spent (j : Job) (o : JobOutcome) (c : Option JobCause) {s : State} (h : counterSpent s = true) :
    (endJob j o c s).outside.cal = s.outside.cal := by
  have hclose := closeJob_store j o c false s
  have hspent : counterSpent (closeJob j o c false s) = true :=
    (congrArg (fun c : CalStore => !c.available || decide (4294967295 ≤ c.counter)) hclose).trans h
  exact (numberHead_spent hspent).trans hclose

theorem commitFailed_spent {s : State} (h : counterSpent s = true) : (commitFailed s).outside.cal = s.outside.cal := by
  unfold commitFailed
  split
  · rfl
  · split
    · rfl
    · split <;> exact endJob_spent _ _ _ h

/-! ## The write queue (R181, R185) -/

theorem writesRest_of_store {s t : State} (h : t.outside.cal = s.outside.cal) (hs : WritesRest s) : WritesRest t := by
  have e : ∀ u : State, WritesRest u ↔ u.outside.cal.writing.isSome ∨ u.outside.cal.queue = [] := fun _ => Iff.rfl
  rw [e, h]
  exact hs

/-- R181: the oldest entry that can be written begins, so that a write is in progress or the queue is empty. -/
theorem beginWrite_rests {s : State} (h : (s.cal.writing.isNone && s.cal.commitFails) = false) :
    WritesRest (s.onCal (CalStore.beginWrite s.now)) := by
  show (s.cal.beginWrite s.now).writing.isSome ∨ (s.cal.beginWrite s.now).queue = []
  unfold CalStore.beginWrite
  split
  · next e rest hw hq =>
    rw [hw] at h
    have hf : s.cal.commitFails = false := h
    simp [hf]
  · next hn =>
    cases hw : s.cal.writing with
    | some w => exact .inl rfl
    | none =>
      cases hq : s.cal.queue with
      | nil => exact .inr rfl
      | cons e rest => exact absurd hq (hn e rest hw)

/-- R185: a commit fails where the counter is unavailable or used up. -/
theorem counterSpent_of_commitFails {s : State} (h : s.cal.commitFails = true) :
    counterSpent s = true ∧ ∃ e rest, s.cal.queue = e :: rest := by
  simp only [CalStore.commitFails, Bool.and_eq_true, beq_iff_eq] at h
  exact ⟨h.2, _, List.head?_eq_some_iff.mp h.1⟩

/-- R181, R185: each commit that cannot be written leaves the queue and adds no entry, so the queue's length bounds the
work. -/
theorem pumpWrites_rests {n : Nat} {s : State} (h : s.cal.queue.length < n) : WritesRest (pumpWrites n s) := by
  induction n generalizing s with
  | zero => exact absurd h (Nat.not_lt_zero _)
  | succ n ih =>
    unfold pumpWrites
    split
    · next hf =>
      obtain ⟨hspent, e, rest, hq⟩ := counterSpent_of_commitFails (Bool.and_eq_true_iff.mp hf).2
      have hcal := commitFailed_spent (s := noticeStoreFault .counter .counter
        (s.onCal fun c => CalStore.settled { c with queue := c.queue.drop 1 })) hspent
      refine ih ?_
      have hlen := congrArg (fun c : CalStore => c.queue.length) hcal
      have hdrop : (s.cal.queue.drop 1).length = s.cal.queue.length - 1 := List.length_drop
      have hpos : 0 < s.cal.queue.length := by rw [hq]; exact Nat.succ_pos _
      refine lt_of_eq_of_lt (hlen.trans hdrop) ?_
      omega
    · next hf => exact beginWrite_rests (Bool.eq_false_iff.mpr hf)

theorem settleWrites_rests (s : State) : WritesRest (settleWrites s) := pumpWrites_rests (Nat.lt_succ_self _)

/-! ## Collections (R184) -/

theorem channelBusy_of_eq {s t : State} (n : Nat) (hs : t.sig.channels = s.sig.channels) (he : t.entry = s.entry)
    (hb : t.brake = s.brake) : channelBusy n t = channelBusy n s := by
  unfold channelBusy stationIdle
  rw [hs, he, hb]

/-- R184: a collection whose channel's station leaves IDLE ends; no other is touched. -/
theorem guardCollection_cases (s : State) :
    (guardCollection s).cal.collection = none ∨
      (guardCollection s = s ∧ ∀ c, s.cal.collection = some c → channelBusy c.channel s = false) := by
  unfold guardCollection
  split
  · next hnone => exact .inl hnone
  · next d hd =>
    split
    · exact .inl rfl
    · next hidle =>
      refine .inr ⟨rfl, fun c hc => ?_⟩
      cases hd.symm.trans hc
      exact Bool.eq_false_iff.mpr hidle

/-- R184: a collection that goes on is on a channel whose station is IDLE. -/
theorem guardCollection_idle {s : State} {c : Collection} (h : (guardCollection s).cal.collection = some c) :
    channelBusy c.channel (guardCollection s) = false := by
  rcases guardCollection_cases s with hnone | ⟨hsame, hidle⟩
  · cases hnone.symm.trans h
  · rw [hsame] at h ⊢
    exact hidle c h

/-! ## Every event -/

/-- R126, R181, R184: what follows an event leaves the part at rest. -/
theorem calm_settle (s : State) : Calm (settle s) := by
  obtain ⟨g, o, hg⟩ := guideOnly_settleGuidance (guardCollection (settleRematch (settleHead (settleRetry
    (settleHead (settleWrites s))))))
  have hs : settle s = _ := hg
  refine ⟨by rw [hs]; rfl, ?writes, fun c hc => ?collection⟩
  case writes => exact writesRest_of_store (congrArg State.cal (settle_outside s)) (settleWrites_rests s)
  case collection =>
    rw [hs] at hc ⊢
    exact (channelBusy_of_eq c.channel rfl rfl rfl).trans (guardCollection_idle hc)

theorem calm_resetPart (l : Level) (s : State) : Calm (resetPart l s) :=
  ⟨rfl, .inr rfl, fun c hc => (by cases hc)⟩

/-- A command whose outcome is its effect and what follows it leaves the part at rest. -/
theorem calm_finish {u t : State} (h : finish u = .next t) : Calm t := by
  cases h; exact calm_settle u

theorem calm_finishOut {o : Out} {t : State} (h : finishOut o = .next t) : Calm t := by
  cases o with
  | next u => exact calm_finish h
  | fault f => cases h
  | refused r => cases h

/-- Every command but a reset ends with what follows it. -/
theorem exec_calm (i : Instr) (s t : State) (h : exec i s = .next t) : Calm t := by
  cases i <;> dsimp only [exec] at h
  case powerOn l => cases h; exact calm_resetPart l s
  case resetLine l => cases h; exact calm_resetPart l s
  case eepromWriteEnd a => exact calm_finishOut h
  case eepromAckTimeout =>
    unfold execEepromAckTimeout at h
    split at h
    · exact calm_finishOut h
    · exact calm_finish h
  all_goals exact calm_finish h

/-- Settles O54: every command ends in a reset or in what follows its event. -/
theorem everyStepLeavesThePartCalm : Obligations.EveryStepLeavesThePartCalm := by
  intro s t hp h
  unfold step at h
  split at h
  · next hn => exact absurd hn hp
  · next c rest _ => exact exec_calm c _ t h

end Sys2Proof.Machine
end

section
/-! SUPPORT. Guidance's own answers (R125, R127 to R133, R135 to R137): what a timeout, a refresh, the prompt line, a
selection, an event and a sample make of a station, each as one equation. -/

namespace Sys2Proof.Machine

/-! ## A part at rest stays at rest under Guidance -/

theorem calm_onlyGuided {st : Station} {s t : State} (h : OnlyGuided st s t) (hc : Calm s) : Calm t := by
  rw [h.1]; exact Calm.of_eq hc rfl rfl rfl rfl rfl

theorem calm_onGuide {s : State} (f : Guidance → Guidance) (hc : Calm s) : Calm (s.onGuide f) :=
  Calm.of_eq hc rfl rfl rfl rfl rfl

theorem finish_onGuide {s : State} (f : Guidance → Guidance) (hc : Calm s) :
    finish (s.onGuide f) = .next (s.onGuide f) := finish_calm _ (calm_onGuide f hc)

theorem finish_onlyGuided {st : Station} {s t : State} (h : OnlyGuided st s t) (hc : Calm s) : finish t = .next t :=
  finish_calm t (calm_onlyGuided h hc)

/-! ## Timeouts and refreshes (R131, R137) -/

theorem stepTimedOut_due {st : Station} {x : Step} {s : State} (hx : stepInHand st s = some x)
    (hd : s.due (s.guide.at st).timeout = true) : stepTimedOut st s = enter st x.nextTimeout s := by
  unfold stepTimedOut; simp only [hx, hd, if_true]

theorem stepTimedOut_early {st : Station} {s : State} (hd : s.due (s.guide.at st).timeout = false) :
    stepTimedOut st s = s := by
  unfold stepTimedOut
  rw [hd]
  split <;> rfl

/-- R136: the SHOW frame of a station in a step. -/
theorem showFrame_step {st : Station} {y : Step} {s : State} (h : stepInHand st s = some y) :
    showFrame st s = stepFrame st y s := by
  unfold showFrame; rw [h]; cases st <;> rfl

/-- R133: the SHOW frame of a station at END. -/
theorem showFrame_end {st : Station} {s : State} (h : stepInHand st s = none) : showFrame st s = endFrame st := by
  unfold showFrame; rw [h]; cases st <;> rfl

/-- R137: a refresh makes the station's frame pending anew and sets the next refresh time. -/
theorem refreshShow_due {st : Station} {s : State} (hd : s.due (some (s.guide.at st).refresh) = true) :
    refreshShow st s = modGuide st (fun g => { g with
      slot := some { frame := showFrame st s, since := s.time.now, sending := false }
      refresh := later g.refresh (refreshPeriod st s) }) s := by
  unfold refreshShow
  rw [if_pos hd]
  cases st <;> rfl

theorem refreshShow_early {st : Station} {s : State} (hd : s.due (some (s.guide.at st).refresh) = false) :
    refreshShow st s = s := by unfold refreshShow; rw [hd]; rfl

theorem refreshPeriod_step {st : Station} {y : Step} {s : State} (h : stepInHand st s = some y) :
    refreshPeriod st s = stepPeriod y := by
  unfold refreshPeriod stepPeriod; rw [h]; simp

theorem refreshPeriod_end {st : Station} {s : State} (h : stepInHand st s = none) : refreshPeriod st s = 1000 := by
  unfold refreshPeriod; rw [h]

/-! ## The prompt line (R135) -/

/-- R135: a busy line starts nothing. -/
theorem beginPrompt_busy {s : State} (h : s.guide.transmitting.isSome = true) : beginPrompt s = s := by
  unfold beginPrompt; rw [if_pos h]

/-- R135: the free line sends the chosen station's frame. -/
theorem beginPrompt_sends {st : Station} {p : PendingShow} {s : State} (h : s.guide.transmitting = none)
    (hc : promptChoice s = some st) (hp : (s.guide.at st).slot = some p) :
    beginPrompt s = modGuide st (fun x => { x with slot := some { p with sending := true } })
      (s.onGuide fun g => { g with transmitting := some p.frame }) := by
  unfold beginPrompt
  simp only [h, hc, hp, Option.isSome_none, Bool.false_eq_true, if_false]

theorem beginPrompt_empty {s : State} (he : s.guide.entry.slot = none) (hb : s.guide.brake.slot = none) :
    beginPrompt s = s := by
  have hc : promptChoice s = none := by unfold promptChoice; rw [he, hb]
  unfold beginPrompt
  rw [hc]
  split <;> rfl

/-- R135: a frame that has been sent leaves its slot. -/
theorem sent_eq (x : StationGuide) : x.sent = { x with slot := x.slot.filter fun p => !p.sending } := by
  obtain ⟨prog, step, time, timeout, flags, slot, refresh⟩ := x
  rcases slot with _ | ⟨frame, since, sending⟩
  · rfl
  · cases sending <;> rfl

theorem endPrompt_sending {s : State} (h : s.guide.transmitting.isSome = true) :
    endPrompt s = s.onGuide fun g => { g with transmitting := none, entry := g.entry.sent, brake := g.brake.sent } := by
  obtain ⟨f, hf⟩ := Option.isSome_iff_exists.mp h
  unfold endPrompt
  simp only [hf]

theorem endPrompt_free {s : State} (h : s.guide.transmitting = none) : endPrompt s = s := by
  unfold endPrompt; rw [h]

/-! ## Selection (R125) -/

theorem runProgram_onlyGuided (st : Station) (p : Nat) (s : State) : OnlyGuided st s (runProgram st p s) :=
  (onlyGuided_modGuide st _ s).trans (enter_onlyGuided st _ _)

/-- R125, R132: a loaded program is entered at its entry step. -/
theorem runProgram_guided {st : Station} {p : Nat} {q : Program} {s : State} (h : programAt s.guide p = some q) :
    GuidedTo st p (some q.entryStep) s.guide.requests (runProgram st p s) := by
  have hn : entryStepOf st p s.guide = q.entryStep := by unfold entryStepOf; rw [h]
  have hg := enter_guided st (some q.entryStep) (modGuide st (fun x => { x with program := p }) s)
  rw [modGuide_at, modGuide_requests] at hg
  unfold runProgram
  rw [hn]
  exact hg

/-- The program of a station when the vehicle's class names none. -/
def builtinOf : Station → Nat
  | .entry => 0
  | .brake => 1

/-- The program a class names for a station. -/
def ClassEntry.programOf (c : ClassEntry) : Station → Nat
  | .entry => c.entryProgram
  | .brake => c.brakeProgram

theorem programFor_absent (st : Station) (s : State) : programFor st none s = builtinOf st := by cases st <;> rfl

theorem programFor_noClass {st : Station} {k : Nat} {s : State} (h : classEntry s (s.record k).cls = none) :
    programFor st (some k) s = builtinOf st := by unfold programFor; simp only [h]; cases st <;> rfl

theorem programFor_class {st : Station} {k : Nat} {c : ClassEntry} {s : State}
    (h : classEntry s (s.record k).cls = some c) : programFor st (some k) s =
      if programAt s.guide (c.programOf st) = none then builtinOf st else c.programOf st := by
  have hp : programFor st (some k) s =
      if (programAt s.guide (c.programOf st)).isSome then c.programOf st else builtinOf st := by
    unfold programFor; simp only [h]; cases st <;> rfl
  rw [hp]
  cases programAt s.guide (c.programOf st) <;> rfl

/-! ## Events (R128, R129, R132, R133) -/

/-- A set of flags with one more holds the flags it held and that one. -/
theorem mem_addEvent (l : List GEvent) (e f : GEvent) : f ∈ addEvent l e ↔ f ∈ l ∨ f = e := by
  have hall : ∀ f : GEvent, f ∈ gEvents := fun f => by cases f <;> decide
  simp [addEvent, hall f]

theorem addEvent_nil (e : GEvent) : addEvent [] e = [e] := by cases e <;> rfl

/-- R128: the entry station's flags are those of the first eight events. -/
theorem station_eq_entry (e : GEvent) : e.station = .entry ↔ e ∈ ([.vehicleAtBarrier, .axleOnSlip, .axleOnScale,
    .weightSettled, .axleOffScale, .entryFinished, .entryBlocked, .brakeFree] : List GEvent) := by
  cases e <;> decide

theorem raiseFlag_noStep {e : GEvent} {s : State} (h : stepInHand e.station s = none) : raiseFlag e s = s := by
  unfold raiseFlag; simp only [h]

theorem raiseFlag_up {e : GEvent} {s : State} (h : e ∈ (s.guide.at e.station).flags) : raiseFlag e s = s := by
  unfold raiseFlag
  dsimp only
  split
  · rfl
  · rw [if_pos (List.contains_iff_mem.mpr h)]

/-- R128, R129: an event not yet flagged sets its flag, and advances the step that waits on it. -/
theorem raiseFlag_new {e : GEvent} {x : Step} {s : State} (hx : stepInHand e.station s = some x)
    (hf : e ∉ (s.guide.at e.station).flags) : raiseFlag e s =
      if x.wait = .event e then
        enter e.station x.nextAdvance (modGuide e.station (fun y => { y with flags := addEvent y.flags e }) s)
      else modGuide e.station (fun y => { y with flags := addEvent y.flags e }) s := by
  have hc : (s.guide.at e.station).flags.contains e = false := by simpa using hf
  unfold raiseFlag
  simp only [hx, hc, Bool.false_eq_true, if_false]

/-- R129: the advance of a step whose flags have just been set brings the station to rest in the successor. -/
theorem enter_flagged (st : Station) (next : Option Nat) (f : StationGuide → List GEvent) (s : State) :
    OnlyGuided st s (enter st next (modGuide st (fun y => { y with flags := f y }) s))
      ∧ GuidedTo st (s.guide.at st).program next s.guide.requests
          (enter st next (modGuide st (fun y => { y with flags := f y }) s)) := by
  refine ⟨(onlyGuided_modGuide st _ s).trans (enter_onlyGuided st next _), ?_⟩
  have hg := enter_guided st next (modGuide st (fun y => { y with flags := f y }) s)
  rw [modGuide_at, modGuide_requests] at hg
  exact hg

/-- Guidance stands at END, or its flags are the standing ones. -/
def StandingOnly (st : Station) (s : State) : Prop :=
  (s.guide.at st).step = none ∨ (s.guide.at st).flags = standingFlags st s

theorem enterNext_standing (st : Station) (next : Option Nat) (s : State) :
    StandingOnly st (enterNext st next s) := by
  cases next with
  | none => exact .inl (by rw [(enterNext_none st s).1])
  | some n =>
    cases hn : stepAt s.guide n with
    | none =>
      have e : enterNext st (some n) s = enterNext st none s := by unfold enterNext enterOnce; simp only [hn]
      exact .inl (by rw [e, (enterNext_none st s).1])
    | some y => exact .inr (by rw [(enterNext_some hn).1, (onlyGuided_enterNext st (some n) s).reads.1])

/-- R127, R128: the flags of a step just entered are the standing ones. -/
theorem enter_standing (st : Station) (next : Option Nat) (s : State) : StandingOnly st (enter st next s) := by
  have hrest : ∀ u, StandingOnly st u → StandingOnly st (comeToRest st u) := by
    intro u hu
    have hf := (onlyGuided_comeToRest st u).reads.1 st
    unfold StandingOnly at hu ⊢
    rw [hf]
    cases st <;> exact hu
  refine hrest _ ?_
  split
  · exact enterNext_standing st _ _
  · exact enterNext_standing st next s

/-- R132: STATION_FAULT, a standing flag, changes nothing of a program just entered in FAULT. -/
theorem takeEvent_fault {q : Program} {s : State} (hs : s.brake.state = .fault)
    (hq : programAt s.guide s.guide.brake.program = some q) :
    takeEvent .stationFault s = runProgram .brake s.guide.brake.program s := by
  have hm : moveToEntry s = runProgram .brake s.guide.brake.program s := by
    unfold moveToEntry; simp only [hq, Option.isSome_some, if_true]
  have hflag : standingFlags .brake (runProgram .brake s.guide.brake.program s) = [.stationFault] := by
    rw [(runProgram_onlyGuided .brake _ s).reads.1]; unfold standingFlags; simp [hs]
  unfold takeEvent
  rw [if_pos rfl, hm]
  rcases enter_standing .brake _ (modGuide .brake (fun x => { x with program := s.guide.brake.program }) s) with h | h
  · exact raiseFlag_noStep (stepInHand_none h)
  · refine raiseFlag_up ?_
    have h' : (runProgram .brake s.guide.brake.program s).guide.brake.flags
        = standingFlags .brake (runProgram .brake s.guide.brake.program s) := h
    show GEvent.stationFault ∈ (runProgram .brake s.guide.brake.program s).guide.brake.flags
    rw [h', hflag]
    exact List.mem_singleton.mpr rfl

/-! ## Samples (R130) -/

/-- R130: the value of the brake station's sample `b` that a threshold step with threshold `n` is compared with. -/
def Compared (w : Wait) (b : BrakeSample) (n v : Nat) : Prop :=
  (w = .pedalAbove n ∧ b.pedal = some v)
    ∨ (w = .forceAbove n ∧ ∃ l r, b.forceL = some l ∧ b.forceR = some r ∧ v = l + r)
    ∨ (w = .speedAbove n ∧ ∃ l r, b.speedL = some l ∧ b.speedR = some r ∧ v = min l r)

/-- R130: nothing to compare: the step waits on an event, or a value is absent. -/
def NotCompared (w : Wait) (b : BrakeSample) (n : Nat) : Prop :=
  (∃ e, w = .event e) ∨ (w = .pedalAbove n ∧ b.pedal = none)
    ∨ (w = .forceAbove n ∧ (b.forceL = none ∨ b.forceR = none))
    ∨ (w = .speedAbove n ∧ (b.speedL = none ∨ b.speedR = none))

theorem thresholdMet_compared {w : Wait} {b : BrakeSample} {n v : Nat} {s : State} (hb : s.brake.lastSample = some b)
    (h : Compared w b n v) : thresholdMet w s = decide (n ≤ v) := by
  rcases h with ⟨rfl, hv⟩ | ⟨rfl, l, r, hl, hr, rfl⟩ | ⟨rfl, l, r, hl, hr, rfl⟩
  · simp [thresholdMet, lastBrake, hb, hv]
  · simp [thresholdMet, lastBrake, hb, hl, hr, bothSum]
  · simp [thresholdMet, lastBrake, hb, hl, hr, lowerOf]

theorem bothSum_none {a b : Option Nat} (h : a = none ∨ b = none) : bothSum a b = none := by
  rcases h with rfl | rfl
  · rfl
  · cases a <;> rfl

theorem lowerOf_none {a b : Option Nat} (h : a = none ∨ b = none) : lowerOf a b = none := by
  rcases h with rfl | rfl
  · rfl
  · cases a <;> rfl

theorem thresholdMet_notCompared {w : Wait} {b : BrakeSample} {n : Nat} {s : State}
    (hb : s.brake.lastSample = some b) (h : NotCompared w b n) : thresholdMet w s = false := by
  rcases h with ⟨e, rfl⟩ | ⟨rfl, hv⟩ | ⟨rfl, hv⟩ | ⟨rfl, hv⟩
  · rfl
  · simp [thresholdMet, lastBrake, hb, hv]
  · simp [thresholdMet, lastBrake, hb, bothSum_none hv]
  · simp [thresholdMet, lastBrake, hb, lowerOf_none hv]

theorem compareSample_step {x : Step} {s : State} (hx : stepInHand .brake s = some x) :
    compareSample s = if thresholdMet x.wait s then enter .brake x.nextAdvance s else s := by
  unfold compareSample; simp only [hx]

theorem compareSample_reached {x : Step} {b : BrakeSample} {n v : Nat} {s : State}
    (hx : stepInHand .brake s = some x) (hb : s.brake.lastSample = some b) (h : Compared x.wait b n v) (hv : n ≤ v) :
    compareSample s = enter .brake x.nextAdvance s := by
  rw [compareSample_step hx, thresholdMet_compared hb h, decide_eq_true hv]; rfl

theorem compareSample_below {x : Step} {b : BrakeSample} {n v : Nat} {s : State}
    (hx : stepInHand .brake s = some x) (hb : s.brake.lastSample = some b) (h : Compared x.wait b n v) (hv : v < n) :
    compareSample s = s := by
  rw [compareSample_step hx, thresholdMet_compared hb h, decide_eq_false (Nat.not_le.mpr hv)]; rfl

theorem compareSample_notCompared {x : Step} {b : BrakeSample} {n : Nat} {s : State}
    (hx : stepInHand .brake s = some x) (hb : s.brake.lastSample = some b) (h : NotCompared x.wait b n) :
    compareSample s = s := by
  rw [compareSample_step hx, thresholdMet_notCompared hb h]; rfl

theorem compareSample_end {s : State} (h : s.guide.brake.step = none) : compareSample s = s := by
  have hx : stepInHand .brake s = none := stepInHand_none h
  unfold compareSample
  rw [hx]

end Sys2Proof.Machine
end

section
/-! SUPPORT. What a command hands to Guidance, taken by it (R126): the state in which Guidance takes its results, and the
edges, the window end and the binding that hand them over (R48, R50, R64, R80). -/

namespace Sys2Proof.Machine

/-! ## The state in which Guidance takes its results -/

/-- R126, R184: a collection may have ended, and nothing is owed any more. -/
def readied (s : State) : State := (guardCollection s).onWork fun _ => Work.none

theorem readied_eq (s : State) : ∃ c r, readied s = { s with
    cal := { s.cal with collection := c }, port := { s.port with replies := r }, work := Work.none } := by
  obtain ⟨c, r, h⟩ := guardCollection_eq s
  exact ⟨c, r, by unfold readied; rw [h]; rfl⟩

/-- What Guidance reads is as the command left it. -/
theorem readied_frame (s : State) : (readied s).guide = s.guide ∧ (readied s).sig = s.sig ∧ (readied s).vt = s.vt
    ∧ (readied s).entry = s.entry ∧ (readied s).brake = s.brake ∧ (readied s).time = s.time := by
  obtain ⟨c, r, h⟩ := readied_eq s
  rw [h]; exact ⟨rfl, rfl, rfl, rfl, rfl, rfl⟩

/-- R126: where a command owes nothing but results for Guidance, these are taken in their order. -/
theorem settle_hands {s : State} {l : List GuideItem} (hw : WritesRest s) (h : s.work = { Work.none with items := l }) :
    settle s = l.foldl takeItem (readied s) := by
  have hwork : (guardCollection s).work = s.work := by obtain ⟨c, r, h⟩ := guardCollection_eq s; rw [h]
  have hitems : (guardCollection s).work.items = l := by rw [hwork, h]
  rw [settle_unowed hw (by rw [h]; rfl) (by rw [h]; rfl) (by rw [h]; rfl)]
  unfold settleGuidance readied
  rw [hitems]

theorem next_of_settle {s t : State} (h : settle s = t) : finish s = .next t := by rw [finish, h]

/-- What a station stands in is read from Guidance alone. -/
theorem stepInHand_of_guide {st : Station} {s t : State} (h : t.guide = s.guide) : stepInHand st t = stepInHand st s := by
  unfold stepInHand; rw [h]

/-! ## What the shared operations owe -/

theorem hand_work {s : State} {l : List GuideItem} (i : GuideItem) (h : s.work = { Work.none with items := l }) :
    (hand i s).work = { Work.none with items := l ++ [i] } := by
  unfold hand; rw [State.onWork_work, h]

theorem noticeDeparture_work (n : EntryName) (s : State) : (noticeDeparture n s).work = s.work := by
  unfold noticeDeparture; split <;> rfl

theorem abortAttempt_work (r : AbortReason) (s : State) : (abortAttempt r s).work = s.work := by
  unfold abortAttempt
  extract_lets s1 s2 s3
  have h2 : s2.work = s1.work := by unfold s2; rw [abortTrace_eq]
  have h3 : s3.work = s2.work := by
    unfold s3
    split <;> rfl
  rw [noticeTested_eq]
  exact h3.trans h2

/-- R80: entry into FAULT owes Guidance STATION_FAULT alone. -/
theorem enterFault_work {c : BrakeCause} {s : State} (hs : s.brake.state ≠ .fault) (hw : s.work = Work.none) :
    (enterFault c s).work = { Work.none with items := [.event .stationFault] } := by
  unfold enterFault
  rw [if_neg (by simpa using hs)]
  extract_lets s1 s2
  have h1 : s1.work = Work.none := by
    unfold s1
    split
    · rw [abortAttempt_work, hw]
    · exact hw
  have h3 : (enterState .fault s2).work = Work.none := by rw [enterState_eq]; exact h1
  exact hand_work (.event .stationFault) (l := []) h3

/-! ## AXLE_ON_SLIP (R50, R59) -/

/-- R50, R59: a crossing that starts while bound is told to Guidance. -/
theorem plateActive_work {s : State} (hv : s.entry.vehicle.isSome = true) (hp : s.entry.plate.crossing = false)
    (hw : s.work = Work.none) : (plateActive s).work = { Work.none with items := [.event .axleOnSlip] } := by
  have hf : s.entry.following = true := by unfold EntryStation.following; rw [hv]; rfl
  unfold plateActive
  simp only [hf, hp, hv, Bool.not_false, Bool.and_self, if_true]
  rw [noticeDeparture_work]
  exact hand_work (.event .axleOnSlip) (l := []) hw

theorem EntryOnly.guide {s t : State} (h : EntryOnly s t) : t.guide = s.guide ∧ t.sig = s.sig ∧ t.cal = s.cal := by
  obtain ⟨e, tr, p, l, rfl⟩ := h; exact ⟨rfl, rfl, rfl⟩

theorem StationOnly.guide {s t : State} (h : StationOnly s t) : t.guide = s.guide ∧ t.cal = s.cal := by
  obtain ⟨b, o, v, tr, p, l, rfl⟩ := h; exact ⟨rfl, rfl⟩

theorem WritesRest.of_cal {s t : State} (h : WritesRest s) (e : t.cal = s.cal) : WritesRest t := by
  unfold WritesRest; rw [e]; exact h

/-- R59, R126: a crossing that starts while bound reaches Guidance as AXLE_ON_SLIP. -/
theorem exec_slipPlate_taken {s u : State} {t0 : LaneTime} (hc : Calm s)
    (he : takeEdge .slipPlateSwitch true s = some (t0, u)) (hv : s.entry.vehicle.isSome = true)
    (hp : s.entry.plate.crossing = false) : ∃ w, exec .slipPlateSwitchActive s = .next (takeEvent .axleOnSlip w)
      ∧ w.guide = s.guide ∧ w.sig.outputs = s.sig.outputs := by
  have hcu := calm_takeEdge he hc
  obtain ⟨-, hent, -⟩ := takeEdge_frame he
  have hedge := takeEdge_eq he
  obtain ⟨hg, hs, hcal⟩ := (entryOnly_plateActive u).guide
  obtain ⟨hrg, hrs, -⟩ := readied_frame (plateActive u)
  refine ⟨readied (plateActive u), (congrArg finish (onEdge_taken he)).trans (next_of_settle ?_), ?_, ?_⟩
  · exact settle_hands (hcu.writesRest.of_cal hcal) (plateActive_work (hent ▸ hv) (hent ▸ hp) hcu.1)
  · rw [hrg, hg, hedge]
  · rw [hrs, hs, hedge]

/-! ## STATION_FAULT (R80) -/

/-- R80, R126: ESTOP reaches Guidance as STATION_FAULT, in FAULT. -/
theorem exec_estop_taken {s u : State} {t0 : LaneTime} (hc : Calm s) (he : takeEdge .estop true s = some (t0, u))
    (hs : s.brake.state ≠ .fault) : ∃ w, exec .estopActive s = .next (takeEvent .stationFault w)
      ∧ w.guide = s.guide ∧ w.brake.state = .fault := by
  have hcu := calm_takeEdge he hc
  obtain ⟨-, -, hbr, -⟩ := takeEdge_frame he
  have hsu : u.brake.state ≠ .fault := by rw [hbr]; exact hs
  obtain ⟨hg, hcal⟩ := (stationOnly_enterFault .estop u).guide
  obtain ⟨hrg, -, -, -, hrb, -⟩ := readied_frame (enterFault .estop u)
  refine ⟨readied (enterFault .estop u), (congrArg finish (onEdge_taken he)).trans (next_of_settle ?_), ?_, ?_⟩
  · exact settle_hands (hcu.writesRest.of_cal hcal) (enterFault_work hsu hcu.1)
  · rw [hrg, hg, takeEdge_eq he]
  · rw [hrb]; exact (enterFault_brake .estop u hsu).1

/-! ## Samples (R64, R126) -/

/-- The station's states in which a window end brings Guidance its sample alone. -/
def SampleOnly (d : Delivery) (s : State) : Prop :=
  s.brake.state.attempt = false
    ∨ (s.brake.state = .drag ∧ d.brakeFaulted = false ∧ s.brake.dragCount < 199)
    ∨ (s.brake.state = .braking ∧ d.brakeFaulted = false ∧ (windowSample d s).slipL < s.brake.slipLimit
        ∧ (windowSample d s).slipR < s.brake.slipLimit ∧ s.brake.releaseCount < 99)

theorem actOnSample_idle {d : Delivery} {x : BrakeSample} {s : State} (h : s.brake.state.attempt = false) :
    actOnSample d x s = s := by
  unfold actOnSample
  cases hs : s.brake.state with
  | zeroing | spinUp | drag | braking | stopping => simp [hs, BrakeState.attempt] at h
  | idle | waitWheels | waitAxleRecord | axleDone | waitClear | fault => rfl

/-- R74: a release count that a gripping sample leaves. -/
theorem BrakeStation.gripped_count (x : BrakeSample) (b : BrakeStation) :
    (b.gripped x).releaseCount ≤ b.releaseCount + 1 := by
  have e : (b.gripped x).releaseCount = releaseAfter (b.gripped x).run.maxLR x.both b.releaseCount := rfl
  rw [e]
  unfold releaseAfter
  split <;> omega

/-- R72 to R74: such a window end changes the brake station alone. -/
theorem actOnSample_only {d : Delivery} {s u : State} (h : SampleOnly d s) (hst : u.brake.state = s.brake.state)
    (hdc : u.brake.dragCount = s.brake.dragCount) (hrc : u.brake.releaseCount = s.brake.releaseCount)
    (hlim : u.brake.slipLimit = s.brake.slipLimit) :
    ∃ f, actOnSample d (windowSample d s) u = u.onBrake f := by
  rcases h with ha | ⟨hs, hf, hn⟩ | ⟨hs, hf, hl, hr, hn⟩
  · exact ⟨id, actOnSample_idle (hst ▸ ha)⟩
  · exact ⟨_, (actOnSample_drag (hst.trans hs) hf).trans (dragSample_counts (hdc ▸ hn))⟩
  · obtain ⟨hL, hR, -, -⟩ := BrakeStation.gripped_free (b := u.brake) (hlim ▸ hl) (hlim ▸ hr)
    have hcount := BrakeStation.gripped_count (windowSample d s) u.brake
    rw [hrc] at hcount
    refine ⟨_, (actOnSample_braking (hst.trans hs) hf).trans
      ((brakingSample_grips (by rw [hL]; decide) (by rw [hR]; decide)).trans (if_neg ?_))⟩
    omega

/-- R64, R126: the sample of a window end reaches Guidance as the last one. -/
theorem exec_brakeWindow_taken {d : Delivery} {rest : List Delivery} {s : State} (hc : Calm s)
    (hi : s.sig.brakeInbox = d :: rest) (h : SampleOnly d s) : ∃ w, exec .brakeWindowEnd s = .next (compareSample w)
      ∧ w.guide = s.guide ∧ w.sig.outputs = s.sig.outputs ∧ w.brake.lastSample = some (windowSample d s) := by
  obtain ⟨p, tr, hacted, -⟩ := windowActed_eq d rest s
  obtain ⟨f, hf⟩ := actOnSample_only (u := windowTold p tr d rest s) h rfl rfl rfl rfl
  rw [hf] at hacted
  obtain ⟨hrg, hrs, -, -, hrb, -⟩ := readied_frame (hand .brakeSample (windowActed d rest s))
  have hset : windowEnded d rest s = compareSample (readied (hand .brakeSample (windowActed d rest s))) := by
    refine settle_hands (l := [.brakeSample]) (hc.writesRest.of_cal ?_) (hand_work .brakeSample (l := []) ?_)
    · rw [hacted]; rfl
    · rw [hacted]; exact hc.1
  refine ⟨_, (exec_brakeWindowEnd hi).trans (next_of_settle hset), ?_, ?_, ?_⟩
  · rw [hrg, hacted]; rfl
  · rw [hrs, hacted]; rfl
  · obtain ⟨g, o, hguide⟩ := guideOnly_takeItem (readied (hand .brakeSample (windowActed d rest s))) .brakeSample
    have hbrake := congrArg State.brake (hset.trans hguide)
    exact (congrArg BrakeStation.lastSample hbrake).symm.trans windowEnded_sampled.2.2

/-! ## A binding (R12, R48) -/

/-- R65: a record that enters behind a head owes nothing. -/
theorem bindRecord_work {k : Nat} {s : State} (h : 1 ≤ s.vt.queue.length) : (bindRecord k s).work = s.work := by
  have hne : s.vt.queue.isEmpty = false := by
    cases hq : s.vt.queue with
    | nil => rw [hq] at h; exact absurd h (by decide)
    | cons a l => rfl
  unfold bindRecord
  dsimp only
  rw [hne]
  rfl

theorem bindRecord_guide (k : Nat) (s : State) : (bindRecord k s).guide = s.guide := by
  unfold bindRecord; dsimp only; split <;> rfl

/-- R48, R126: a binding hands over the change of vehicle, then VEHICLE_AT_BARRIER. -/
theorem bindStation_work {k : Nat} {s : State} (h : s.work = Work.none) : (bindStation k s).work =
    { Work.none with items := [.vehicle .entry (some k), .event .vehicleAtBarrier] } := by
  obtain ⟨tr, l, ht⟩ : ∃ tr l, openTrace .entry k none s = (l, { s with traces := tr }) := by
    unfold openTrace
    split <;> exact ⟨_, _, rfl⟩
  unfold bindStation
  rw [ht]
  refine hand_work (s := handVehicle .entry (some k) _) (.event .vehicleAtBarrier) (l := [.vehicle .entry (some k)]) ?_
  unfold handVehicle
  rw [State.onWork_work, State.onEntry_work]
  dsimp only
  rw [h]
  rfl

/-- R12, R48, R125, R126: a binding reaches Guidance as the selection for the armed record, then VEHICLE_AT_BARRIER. -/
theorem exec_barrier_binds {s u : State} {t0 : LaneTime} {a : Nat} (hc : Calm s)
    (he : takeEdge .entryBarrier true s = some (t0, u)) (hv : s.entry.vehicle = none) (hb : s.entry.blocked = false)
    (ha : s.vt.armed = some a) (h1 : 1 ≤ s.vt.queue.length) (h3 : s.vt.queue.length < 3) : ∃ w,
      exec .entryBarrierActive s = .next (takeEvent .vehicleAtBarrier (selectProgram .entry (some a) w))
        ∧ w.guide = s.guide ∧ w.entry.blocked = false ∧ w.vt.classes = s.vt.classes
        ∧ (w.record a).cls = (s.record a).cls := by
  have hcu := calm_takeEdge he hc
  obtain ⟨hvt, hent, -⟩ := takeEdge_frame he
  have hxvt : (startTrackers u).vt = s.vt := hvt
  have hask := askRecord_armed (s := startTrackers u) (k := a) (by rw [hxvt]; exact h3) (by rw [hxvt]; exact ha)
  have hstart : barrierActive u = bindStation a (bindRecord a (startTrackers u)) := by
    rw [barrierActive_idle (by rw [hent]; exact hv) (by rw [hent]; exact hb),
      startVehicle_bound (congrArg Given.slot hask), hask]
  have hon := entryOnly_bindStation a (bindRecord a (startTrackers u))
  obtain ⟨hg, -, hcal⟩ := hon.guide
  obtain ⟨⟨tr, hentry⟩, -⟩ := bindStation_stations a (bindRecord a (startTrackers u))
  have hwork : (bindRecord a (startTrackers u)).work = Work.none :=
    (bindRecord_work (by rw [hxvt]; exact h1)).trans hcu.1
  obtain ⟨hrg, -, hrv, hre, -, -⟩ := readied_frame (bindStation a (bindRecord a (startTrackers u)))
  have hwvt := hrv.trans hon.vt
  refine ⟨readied (bindStation a (bindRecord a (startTrackers u))),
    (congrArg finish ((onEdge_taken he).trans hstart)).trans (next_of_settle ?_), ?_, ?_, ?_, ?_⟩
  · refine settle_hands (hcu.writesRest.of_cal (hcal.trans ?_)) (bindStation_work hwork)
    exact (bindRecord_owed a (startTrackers u)).1
  · rw [hrg, hg, bindRecord_guide, takeEdge_eq he]; rfl
  · rw [hre, hentry]
  · rw [hwvt, bindRecord_vt, hxvt]
  · rw [record_of_vt hwvt, record_bindRecord, record_of_vt hxvt]
    split <;> rfl

end Sys2Proof.Machine
end

section
/-! SUPPORT. Guidance's answers through a command (R125 to R133, R135 to R138), and O48. -/

namespace Sys2Proof.Machine

/-! ## Guidance's own expiries (R131, R137) and the prompt line (R135) -/

/-- R131: the step's timeout enters its successor. -/
theorem exec_stepTimeout_due {st : Station} {x : Step} {s : State} (hc : Calm s) (hx : stepInHand st s = some x)
    (hd : s.due (s.guide.at st).timeout = true) : exec (.stepTimeout st) s = .next (enter st x.nextTimeout s) :=
  (congrArg finish (stepTimedOut_due hx hd)).trans (finish_onlyGuided (enter_onlyGuided st _ s) hc)

theorem exec_stepTimeout_early {st : Station} {s : State} (hc : Calm s)
    (hd : s.due (s.guide.at st).timeout = false) : exec (.stepTimeout st) s = .next s :=
  (congrArg finish (stepTimedOut_early hd)).trans (finish_calm s hc)

/-- R137: the refresh makes the frame pending anew. -/
theorem exec_showRefresh_due {st : Station} {s : State} (hc : Calm s)
    (hd : s.due (some (s.guide.at st).refresh) = true) : exec (.showRefresh st) s =
      .next (modGuide st (fun g => { g with
        slot := some { frame := showFrame st s, since := s.time.now, sending := false }
        refresh := later g.refresh (refreshPeriod st s) }) s) :=
  (congrArg finish (refreshShow_due hd)).trans (finish_onlyGuided (onlyGuided_modGuide st _ s) hc)

theorem exec_showRefresh_early {st : Station} {s : State} (hc : Calm s)
    (hd : s.due (some (s.guide.at st).refresh) = false) : exec (.showRefresh st) s = .next s :=
  (congrArg finish (refreshShow_early hd)).trans (finish_calm s hc)

/-- R135: the free line sends the chosen station's frame. -/
theorem exec_promptTransmitBegin_sends {st : Station} {p : PendingShow} {s : State} (hc : Calm s)
    (h : s.guide.transmitting = none) (hch : promptChoice s = some st) (hp : (s.guide.at st).slot = some p) :
    exec .promptTransmitBegin s = .next (modGuide st (fun x => { x with slot := some { p with sending := true } })
      (s.onGuide fun g => { g with transmitting := some p.frame })) :=
  (congrArg finish (beginPrompt_sends h hch hp)).trans
    (finish_onlyGuided (onlyGuided_modGuide st _ _) (calm_onGuide _ hc))

theorem exec_promptTransmitBegin_idle {s : State} (hc : Calm s) (h : beginPrompt s = s) :
    exec .promptTransmitBegin s = .next s := (congrArg finish h).trans (finish_calm s hc)

/-- R135: of two pending frames the line sends the one that was made pending first, board 1's at one lane time. -/
theorem exec_promptTransmitBegin_both {p q : PendingShow} {s : State} (hc : Calm s)
    (h : s.guide.transmitting = none) (hp : s.guide.entry.slot = some p) (hq : s.guide.brake.slot = some q) :
    exec .promptTransmitBegin s = .next { s with guide :=
      if (s.time.now - q.since).toNat ≤ (s.time.now - p.since).toNat then
        { s.guide with transmitting := some p.frame
                       entry := { s.guide.entry with slot := some { p with sending := true } } }
      else { s.guide with transmitting := some q.frame
                          brake := { s.guide.brake with slot := some { q with sending := true } } } } := by
  have hchoice : promptChoice s = if s.since p.since < s.since q.since then some .brake else some .entry := by
    unfold promptChoice; rw [hp, hq]
  by_cases hle : (s.time.now - q.since).toNat ≤ (s.time.now - p.since).toNat
  · rw [if_pos hle]
    exact exec_promptTransmitBegin_sends (st := .entry) hc h (hchoice.trans (if_neg (Nat.not_lt.mpr hle))) hp
  · rw [if_neg hle]
    exact exec_promptTransmitBegin_sends (st := .brake) hc h (hchoice.trans (if_pos (Nat.not_le.mp hle))) hq

/-- R135: the last byte frees the line and empties the slots of what has been sent. -/
theorem exec_promptTransmitEnd_sending {s : State} (hc : Calm s) (h : s.guide.transmitting.isSome = true) :
    exec .promptTransmitEnd s = .next { s with guide := { s.guide with
      transmitting := none
      entry := { s.guide.entry with slot := s.guide.entry.slot.filter (fun p => !p.sending) }
      brake := { s.guide.brake with slot := s.guide.brake.slot.filter (fun p => !p.sending) } } } := by
  rw [← sent_eq, ← sent_eq]
  exact (congrArg finish (endPrompt_sending h)).trans (finish_onGuide _ hc)

/-! ## Selections and events (R125, R128, R129, R133) -/

/-- R125: the program of the vehicle's class where that is loaded, or the built-in one. -/
theorem programFor_spelled {st : Station} {v : Option Nat} {p : Nat} {s : State}
    (hclass : ∀ k c n, v = some k → (s.vt.classes[(s.record k).cls]?).join = some c →
      n = (if st = .entry then c.entryProgram else c.brakeProgram) →
      p = (if programAt s.guide n = none then (if st = .entry then 0 else 1) else n))
    (hnone : v = none ∨ (∃ k, v = some k ∧ (s.vt.classes[(s.record k).cls]?).join = none) →
      p = if st = .entry then 0 else 1) : programFor st v s = p := by
  have hbuiltin : builtinOf st = if st = .entry then 0 else 1 := by cases st <;> rfl
  cases v with
  | none => rw [programFor_absent, hbuiltin]; exact (hnone (.inl rfl)).symm
  | some k =>
    cases hk : classEntry s (s.record k).cls with
    | none => rw [programFor_noClass hk, hbuiltin]; exact (hnone (.inr ⟨k, rfl, hk⟩)).symm
    | some c =>
      have hof : c.programOf st = if st = .entry then c.entryProgram else c.brakeProgram := by cases st <;> rfl
      rw [programFor_class hk, hbuiltin]
      exact (hclass k c _ rfl hk hof).symm

/-- R128: an event other than STATION_FAULT sets its flag. -/
theorem takeEvent_raises {e : GEvent} {s : State} (h : e ≠ .stationFault) : takeEvent e s = raiseFlag e s := if_neg h

/-- R128, R129: an event changes its own station's Guidance alone. -/
theorem raiseFlag_onlyGuided (e : GEvent) (s : State) : OnlyGuided e.station s (raiseFlag e s) := by
  have hsame : OnlyGuided e.station s s := ⟨rfl, fun _ => ⟨rfl, rfl, rfl⟩, fun _ => ⟨rfl, rfl⟩⟩
  unfold raiseFlag
  dsimp only
  split
  · exact hsame
  · split
    · exact hsame
    · split
      · exact (enter_flagged e.station _ (fun y => addEvent y.flags e) s).1
      · exact onlyGuided_modGuide _ _ s

/-- R128: an event of the entry station leaves the brake station's Guidance alone. -/
theorem takeEvent_entry_brake {e : GEvent} (s : State) (he : e.station = .entry) :
    (takeEvent e s).guide.brake = s.guide.brake := by
  have hne : e ≠ .stationFault := by rintro rfl; cases he
  rw [takeEvent_raises hne]
  exact ((raiseFlag_onlyGuided e s).2.1 he).1

/-- R128, R129: an event that the step does not wait on sets its flag alone. -/
theorem takeEvent_flags {e : GEvent} {x : Step} {s : State} (he : e ≠ .stationFault)
    (hx : stepInHand e.station s = some x) (hf : e ∉ (s.guide.at e.station).flags) (hw : x.wait ≠ .event e) :
    takeEvent e s = modGuide e.station (fun g => { g with flags := addEvent (s.guide.at e.station).flags e }) s := by
  rw [takeEvent_raises he, raiseFlag_new hx hf, if_neg hw]
  cases e.station <;> rfl

/-- R128, R129: an event that the step waits on advances it. -/
theorem takeEvent_advances {e : GEvent} {x : Step} {s : State} (he : e ≠ .stationFault)
    (hx : stepInHand e.station s = some x) (hf : e ∉ (s.guide.at e.station).flags) (hw : x.wait = .event e) :
    OnlyGuided e.station s (takeEvent e s)
      ∧ GuidedTo e.station (s.guide.at e.station).program x.nextAdvance s.guide.requests (takeEvent e s) := by
  rw [takeEvent_raises he, raiseFlag_new hx hf, if_pos hw]
  exact enter_flagged e.station x.nextAdvance (fun y => addEvent y.flags e) s

/-- R128, R129, R133: the answer of a station to one of its events. -/
theorem takeEvent_answers {st : Station} {e : GEvent} {s : State} (he : e ≠ .stationFault) (hst : e.station = st) :
    ((s.guide.at st).step = none → takeEvent e s = s)
      ∧ (e ∈ (s.guide.at st).flags → takeEvent e s = s)
      ∧ (∀ x, stepInHand st s = some x → e ∉ (s.guide.at st).flags →
        (x.wait ≠ .event e → ∃ l, takeEvent e s = modGuide st (fun g => { g with flags := l }) s
          ∧ ∀ f, f ∈ l ↔ f ∈ (s.guide.at st).flags ∨ f = e)
        ∧ (x.wait = .event e → OnlyGuided st s (takeEvent e s)
          ∧ GuidedTo st (s.guide.at st).program x.nextAdvance s.guide.requests (takeEvent e s))) := by
  subst hst
  refine ⟨fun h => ?_, fun h => ?_, fun x hx hf => ⟨fun hw => ?_, takeEvent_advances he hx hf⟩⟩
  · exact (takeEvent_raises he).trans (raiseFlag_noStep (stepInHand_none h))
  · exact (takeEvent_raises he).trans (raiseFlag_up h)
  · exact ⟨_, takeEvent_flags he hx hf hw, fun f => mem_addEvent _ e f⟩

/-- R130: a threshold that the sample reaches advances the step. -/
theorem compareSample_advances {x : Step} {b : BrakeSample} {n v : Nat} {s : State}
    (hx : stepInHand .brake s = some x) (hb : s.brake.lastSample = some b) (h : Compared x.wait b n v) (hv : n ≤ v) :
    OnlyGuided .brake s (compareSample s)
      ∧ GuidedTo .brake s.guide.brake.program x.nextAdvance s.guide.requests (compareSample s) := by
  rw [compareSample_reached hx hb h hv]
  exact ⟨enter_onlyGuided .brake _ s, enter_guided .brake _ s⟩

/-! ## Through a command (R126) -/

/-- R59, R128, R129: AXLE_ON_SLIP as Guidance takes it from the slip plate. -/
theorem slipPlate_guides {x : Step} {s u : State} {t0 : LaneTime} (hc : Calm s)
    (he : takeEdge .slipPlateSwitch true s = some (t0, u)) (hv : s.entry.vehicle.isSome = true)
    (hp : s.entry.plate.crossing = false) (hx : stepInHand .entry s = some x)
    (hf : .axleOnSlip ∉ s.guide.entry.flags) : ∃ t, exec .slipPlateSwitchActive s = .next t
      ∧ t.guide.brake = s.guide.brake
      ∧ (x.wait = .event .axleOnSlip → GuidedTo .entry s.guide.entry.program x.nextAdvance s.guide.requests t)
      ∧ (x.wait ≠ .event .axleOnSlip → (∀ f, f ∈ t.guide.entry.flags ↔ f ∈ s.guide.entry.flags ∨ f = .axleOnSlip)
          ∧ t.guide = { s.guide with entry := { s.guide.entry with flags := t.guide.entry.flags } }
          ∧ t.sig.outputs = s.sig.outputs) := by
  obtain ⟨w, hex, hg, ho⟩ := exec_slipPlate_taken hc he hv hp
  have hxw : stepInHand .entry w = some x := (stepInHand_of_guide hg).trans hx
  have hfw : GEvent.axleOnSlip ∉ w.guide.entry.flags := by rw [hg]; exact hf
  refine ⟨_, hex, ?_, fun hw => ?_, fun hw => ?_⟩
  · exact (takeEvent_entry_brake w rfl).trans (congrArg Guidance.brake hg)
  · have hadv := (takeEvent_advances (e := .axleOnSlip) (by decide) hxw hfw hw).2
    rw [hg] at hadv
    exact hadv
  · rw [takeEvent_flags (e := .axleOnSlip) (by decide) hxw hfw hw]
    refine ⟨fun f => ?_, ?_, ho⟩
    · rw [← hg]; exact mem_addEvent _ _ f
    · show ({ w.guide with entry := _ } : Guidance) = _
      rw [hg]
      rfl

/-- R126, R130: a sample as Guidance takes it from a window end. -/
theorem brakeWindow_guides {d : Delivery} {rest : List Delivery} {s : State} (hc : Calm s)
    (hi : s.sig.brakeInbox = d :: rest) : ∃ t b, exec .brakeWindowEnd s = .next t ∧ t.brake.lastSample = some b
      ∧ ∀ (x : Step) (n v : Nat), stepInHand .brake s = some x →
        s.brake.state.attempt = false
          ∨ (s.brake.state = .drag ∧ d.brakeFaulted = false ∧ s.brake.dragCount < 199)
          ∨ (s.brake.state = .braking ∧ d.brakeFaulted = false ∧ b.slipL < s.brake.slipLimit
              ∧ b.slipR < s.brake.slipLimit ∧ s.brake.releaseCount < 99) →
        Compared x.wait b n v →
        (n ≤ v → GuidedTo .brake s.guide.brake.program x.nextAdvance s.guide.requests t)
        ∧ (v < n → t.guide = s.guide ∧ t.sig.outputs = s.sig.outputs) := by
  refine ⟨windowEnded d rest s, windowSample d s, exec_brakeWindowEnd hi, windowEnded_sampled.2.2,
    fun x n v hx honly hcmp => ?_⟩
  obtain ⟨w, hex, hg, ho, hlast⟩ := exec_brakeWindow_taken hc hi honly
  have ht : windowEnded d rest s = compareSample w := by
    have h := (exec_brakeWindowEnd hi).symm.trans hex
    injection h
  have hxw : stepInHand .brake w = some x := (stepInHand_of_guide hg).trans hx
  rw [ht]
  refine ⟨fun hv => ?_, fun hv => ?_⟩
  · rw [← hg]; exact (compareSample_advances hxw hlast hcmp hv).2
  · rw [compareSample_below hxw hlast hcmp hv]; exact ⟨hg, ho⟩

/-- R80, R132: STATION_FAULT as Guidance takes it from ESTOP. -/
theorem estop_guides {q : Program} {s u : State} {t0 : LaneTime} (hc : Calm s)
    (he : takeEdge .estop true s = some (t0, u)) (hs : s.brake.state ≠ .fault)
    (hq : programAt s.guide s.guide.brake.program = some q) : ∃ t, exec .estopActive s = .next t
      ∧ standingFlags .brake t = [.stationFault] ∧ t.guide.entry = s.guide.entry
      ∧ GuidedTo .brake s.guide.brake.program (some q.entryStep) s.guide.requests t := by
  obtain ⟨w, hex, hg, hst⟩ := exec_estop_taken hc he hs
  have ho := runProgram_onlyGuided .brake w.guide.brake.program w
  have hflags : standingFlags .brake w = [.stationFault] := by unfold standingFlags; rw [hst]; rfl
  have hqw : programAt w.guide w.guide.brake.program = some q := by rw [hg]; exact hq
  rw [takeEvent_fault hst hqw] at hex
  refine ⟨_, hex, (ho.reads.1 .brake).trans hflags, (ho.2.2 rfl).1.trans (congrArg Guidance.entry hg), ?_⟩
  have hguided := runProgram_guided (st := .brake) hqw
  rw [hg] at hguided ⊢
  exact hguided

/-- R125, R127: a program whose entry step waits on no standing flag comes to rest in that step. -/
theorem runProgram_rests {st : Station} {p : Nat} {q : Program} {y : Step} {s : State}
    (hq : programAt s.guide p = some q) (hy : stepAt s.guide q.entryStep = some y) (hf : standingFlags st s = []) :
    (runProgram st p s).guide.at st = restedIn st p q.entryStep y (runProgram st p s)
      ∧ LampsShow st y.red y.amber y.green (runProgram st p s)
      ∧ (runProgram st p s).guide.requests = requestsAfter st y.request s.guide.requests := by
  obtain ⟨hflags, -, -, hsteps⟩ := (runProgram_onlyGuided st p s).reads
  refine ((runProgram_guided hq).2 q.entryStep y rfl ((hsteps _).trans hy)).1 fun e _ h => ?_
  rw [hflags, hf] at h
  cases h

/-- A change of flags alone leaves where the station rests as it is. -/
theorem restedIn_modGuide (st st' : Station) (p n : Nat) (y : Step) (f : StationGuide → StationGuide) (s : State) :
    restedIn st p n y (modGuide st' f s) = restedIn st p n y s := by
  unfold restedIn stepFrame
  rw [modGuide_now, modGuide_flags, modGuide_values]

/-- R125, R126, R129: the selection for a vehicle, then VEHICLE_AT_BARRIER. -/
theorem selected_at_barrier {p : Nat} {q : Program} {y : Step} {w : State} (hb : w.entry.blocked = false)
    (hq : programAt w.guide p = some q) (hy : stepAt w.guide q.entryStep = some y) :
    (takeEvent .vehicleAtBarrier (runProgram .entry p w)).guide.brake = w.guide.brake
      ∧ (y.wait = .event .vehicleAtBarrier → GuidedTo .entry p y.nextAdvance w.guide.requests
          (takeEvent .vehicleAtBarrier (runProgram .entry p w)))
      ∧ (y.wait ≠ .event .vehicleAtBarrier →
          (takeEvent .vehicleAtBarrier (runProgram .entry p w)).guide.entry =
            { restedIn .entry p q.entryStep y (takeEvent .vehicleAtBarrier (runProgram .entry p w)) with
              flags := [.vehicleAtBarrier] }
          ∧ LampsShow .entry y.red y.amber y.green (takeEvent .vehicleAtBarrier (runProgram .entry p w))
          ∧ (takeEvent .vehicleAtBarrier (runProgram .entry p w)).guide.requests = w.guide.requests) := by
  have ho := runProgram_onlyGuided .entry p w
  have hstand : standingFlags .entry w = [] := by unfold standingFlags; rw [hb]; rfl
  obtain ⟨hrest, hlamps, hreq⟩ := runProgram_rests hq hy hstand
  obtain ⟨hbrake, -, -⟩ := ho.2.1 rfl
  have hrest' : (runProgram .entry p w).guide.entry = restedIn .entry p q.entryStep y (runProgram .entry p w) := hrest
  have hnoflag : (runProgram .entry p w).guide.entry.flags = [] := by
    rw [hrest']; exact (ho.reads.1 .entry).trans hstand
  have hx : stepInHand .entry (runProgram .entry p w) = some y :=
    (stepInHand_some (n := q.entryStep) (congrArg StationGuide.step hrest)).trans ((ho.reads.2.2.2 _).trans hy)
  have hf : GEvent.vehicleAtBarrier ∉ (runProgram .entry p w).guide.entry.flags := by rw [hnoflag]; exact List.not_mem_nil
  refine ⟨?_, fun hw => ?_, fun hw => ?_⟩
  · exact (takeEvent_entry_brake _ rfl).trans hbrake
  · have hadv := (takeEvent_advances (e := .vehicleAtBarrier) (by decide) hx hf hw).2
    have hp : ((runProgram .entry p w).guide.at .entry).program = p := congrArg StationGuide.program hrest
    have hr : (runProgram .entry p w).guide.requests = w.guide.requests := hreq
    rw [hr, show GEvent.vehicleAtBarrier.station = .entry from rfl, hp] at hadv
    exact hadv
  · rw [takeEvent_flags (e := .vehicleAtBarrier) (by decide) hx hf hw, restedIn_modGuide, ← hrest']
    refine ⟨?_, hlamps, hreq⟩
    show ({ (runProgram .entry p w).guide.entry with flags := addEvent (runProgram .entry p w).guide.entry.flags _ } :
      StationGuide) = _
    rw [hnoflag, addEvent_nil]

/-- R125, R126: a binding as Guidance takes it. -/
theorem binding_guides {s u : State} {t0 : LaneTime} {a p : Nat} {q : Program} {y : Step} (hc : Calm s)
    (he : takeEdge .entryBarrier true s = some (t0, u)) (hv : s.entry.vehicle = none) (hb : s.entry.blocked = false)
    (ha : s.vt.armed = some a) (h1 : 1 ≤ s.vt.queue.length) (h3 : s.vt.queue.length < 3)
    (hclass : ∀ c, (s.vt.classes[(s.record a).cls]?).join = some c →
      p = if programAt s.guide c.entryProgram = none then 0 else c.entryProgram)
    (hnone : (s.vt.classes[(s.record a).cls]?).join = none → p = 0)
    (hq : programAt s.guide p = some q) (hy : stepAt s.guide q.entryStep = some y) :
    ∃ t, exec .entryBarrierActive s = .next t ∧ t.guide.brake = s.guide.brake
      ∧ (y.wait = .event .vehicleAtBarrier → GuidedTo .entry p y.nextAdvance s.guide.requests t)
      ∧ (y.wait ≠ .event .vehicleAtBarrier →
          t.guide.entry = { restedIn .entry p q.entryStep y t with flags := [.vehicleAtBarrier] }
          ∧ LampsShow .entry y.red y.amber y.green t ∧ t.guide.requests = s.guide.requests) := by
  obtain ⟨w, hex, hg, hbw, hcls, hrec⟩ := exec_barrier_binds hc he hv hb ha h1 h3
  have hp : programFor .entry (some a) w = p := by
    refine programFor_spelled (fun k c n hk hce hn => ?_) fun h => ?_
    · cases hk
      rw [hcls, hrec] at hce
      rw [hn, hg]
      exact hclass c hce
    · obtain ⟨k, hk, hce⟩ := h.resolve_left (Option.some_ne_none a)
      cases hk
      rw [hcls, hrec] at hce
      exact hnone hce
  have hsel : selectProgram .entry (some a) w = runProgram .entry p w := by unfold selectProgram; rw [hp]
  rw [hsel] at hex
  refine ⟨_, hex, ?_⟩
  have hres := selected_at_barrier hbw (hg ▸ hq) (hg ▸ hy)
  rw [hg] at hres
  exact hres

/-- Settles O48: each answer of Guidance is the entry of a successor or a change of one field, and each command that hands
it a result leaves what that answer gives. -/
theorem guidanceTimesAndThePromptLine : Obligations.GuidanceTimesAndThePromptLine := by
  intro st s hc
  refine ⟨fun x hx hd => ?_, exec_stepTimeout_early hc, fun y hy hd => ?_, fun hend hd => ?_, exec_showRefresh_early hc,
    fun p q => exec_promptTransmitBegin_both hc, fun p h hp hq => ?_, fun q h hp hq => ?_, fun h => ?_,
    exec_promptTransmitEnd_sending hc, fun h => ?_, fun v p q hq hclass hnone => ?_, fun e he hst => ?_,
    fun q hs hq => ?_, fun x b n v hx hb h => ?_, fun x b n hx hb h => ?_, compareSample_end,
    fun u t0 x he hv hp hx hf => ?_, fun d rest hi => ?_, fun u t0 q he hs hq => ?_,
    fun u t0 a p q y he hv hb ha _ h1 h3 hclass hnone hq hy => ?_⟩
  · exact ⟨_, exec_stepTimeout_due hc hx hd, enter_onlyGuided st _ s, enter_guided st _ s⟩
  · rw [exec_showRefresh_due hc hd, showFrame_step hy, refreshPeriod_step hy]
  · have h0 := stepInHand_none hend
    rw [exec_showRefresh_due hc hd, showFrame_end h0, refreshPeriod_end h0]
  · exact exec_promptTransmitBegin_sends (st := .entry) hc h (by unfold promptChoice; rw [hp, hq]) hp
  · exact exec_promptTransmitBegin_sends (st := .brake) hc h (by unfold promptChoice; rw [hp, hq]) hq
  · exact exec_promptTransmitBegin_idle hc (h.elim beginPrompt_busy fun hn => beginPrompt_empty hn.1 hn.2)
  · exact (congrArg finish (endPrompt_free h)).trans (finish_calm s hc)
  · unfold selectProgram
    rw [programFor_spelled hclass hnone]
    exact ⟨runProgram_onlyGuided st p s, runProgram_guided hq⟩
  · refine takeEvent_answers he ?_
    have hstation := station_eq_entry e
    cases st with
    | entry => exact hstation.mpr (hst.mp rfl)
    | brake =>
      cases h : e.station with
      | brake => rfl
      | entry => exact absurd (hst.mpr (hstation.mp h)) (by decide)
  · rw [takeEvent_fault hs hq]
    exact ⟨runProgram_onlyGuided .brake _ s, runProgram_guided hq⟩
  · exact ⟨compareSample_advances hx hb h, compareSample_below hx hb h⟩
  · exact compareSample_notCompared hx hb h
  · exact slipPlate_guides hc he hv hp hx hf
  · exact brakeWindow_guides hc hi
  · exact estop_guides hc he hs hq
  · exact binding_guides hc he hv hb ha h1 h3 hclass hnone hq hy

end Sys2Proof.Machine
end

section
/-! SUPPORT. The Trace Store as its law reads it (R141, R142, R144, R145): the blocks of a partition, the ids of the live
descriptors, and that each of the store's own operations keeps the law. -/

namespace Sys2Proof.Machine

/-! ## The blocks of a list of descriptors (R141) -/

/-- The blocks of one descriptor that belong to a partition. -/
def Descriptor.weight (p : Bool) (d : Descriptor) : Nat := if d.kind.brakePart == p then Runs.count d.blocks else 0

/-- The blocks of a list of descriptors that belong to a partition. -/
def blocksIn (p : Bool) (l : List Descriptor) : Nat := (l.map (Descriptor.weight p)).sum

theorem listedBlocks_eq (p : Bool) (t : TraceStore) : listedBlocks p t = blocksIn p t.directory := by
  unfold listedBlocks blocksIn
  induction t.directory with
  | nil => rfl
  | cons d l ih =>
    rw [List.filter_cons, List.map_cons, List.sum_cons, ← ih]
    unfold Descriptor.weight
    split <;> simp

theorem blocksIn_append (p : Bool) (l m : List Descriptor) : blocksIn p (l ++ m) = blocksIn p l + blocksIn p m := by
  simp [blocksIn]

/-- A list parts into what a test takes and what it leaves. -/
theorem blocksIn_filter (p : Bool) (q : Descriptor → Bool) (l : List Descriptor) :
    blocksIn p (l.filter q) + blocksIn p (l.filter fun d => !q d) = blocksIn p l := by
  unfold blocksIn
  induction l with
  | nil => rfl
  | cons d l ih => cases h : q d <;> simp [h] <;> omega

theorem blocksIn_map {p : Bool} {f : Descriptor → Descriptor} (h : ∀ d, (f d).weight p = d.weight p)
    (l : List Descriptor) : blocksIn p (l.map f) = blocksIn p l := by
  unfold blocksIn
  rw [List.map_map]
  exact congrArg List.sum (List.map_congr_left fun d _ => h d)

/-- R144: where ids are distinct, the change of one descriptor counts once. -/
theorem blocksIn_change {p : Bool} {f : Descriptor → Descriptor} {id : Nat} {l : List Descriptor} {d : Descriptor}
    (hn : (l.map Descriptor.id).Nodup) (hf : l.find? (fun e => e.id == id) = some d) :
    blocksIn p (l.map fun e => if e.id == id then f e else e) + d.weight p = blocksIn p l + (f d).weight p := by
  unfold blocksIn
  induction l with
  | nil => cases hf
  | cons e l ih =>
    obtain ⟨hnot, hn⟩ := List.nodup_cons.mp hn
    rw [List.find?_cons] at hf
    simp only [List.map_cons, List.sum_cons]
    split at hf
    · next he =>
      cases hf
      have rest : (l.map fun e => if e.id == id then f e else e) = l := by
        refine (List.map_congr_left fun a ha => if_neg fun h => hnot ?_).trans (List.map_id l)
        rw [eq_of_beq he, ← eq_of_beq h]
        exact List.mem_map_of_mem ha
      rw [rest, if_pos he]
      omega
    · next he =>
      have := ih hn hf
      rw [if_neg (by simp [he])]
      omega

/-! ## The law of the store -/

/-- The free list of a partition, by the partition; `TraceStore.free` names it by a kind. -/
def TraceStore.freeOf (t : TraceStore) (p : Bool) : Runs := if p then t.brakeFree else t.entryFree

/-- The size of a partition. -/
def TraceStore.sizeOf (t : TraceStore) (p : Bool) : Nat := if p then t.brakeSize else t.entrySize

/-- All blocks of a partition, free or in a live descriptor. -/
def TraceStore.held (t : TraceStore) (p : Bool) : Nat := Runs.count (t.freeOf p) + blocksIn p t.directory

/-- What `BlockLaw` asks of the Trace Store, one partition as the other. -/
structure TraceStore.Balanced (t : TraceStore) : Prop where
  blocks : ∀ p, t.held p = t.sizeOf p
  total : t.sizeOf true + t.sizeOf false + Runs.count t.unassigned = 32768
  ids : (t.directory.map Descriptor.id).Nodup
  room : t.directory.length ≤ 128

theorem blockLaw_iff (s : State) : BlockLaw s ↔ s.traces.Balanced := by
  unfold BlockLaw
  rw [listedBlocks_eq, listedBlocks_eq]
  exact ⟨fun ⟨hb, he, ht, hn, hr⟩ => ⟨Bool.forall_bool.mpr ⟨he, hb⟩, ht, hn, hr⟩,
    fun h => ⟨h.blocks true, h.blocks false, h.total, h.ids, h.room⟩⟩

theorem balanced_reset : TraceStore.reset.Balanced := ⟨by decide, rfl, List.nodup_nil, Nat.zero_le _⟩

namespace TraceStore.Balanced

variable {t : TraceStore}

/-- The partitions as they are, and another directory with as many blocks of each. -/
theorem relisted (h : t.Balanced) {l : List Descriptor} (hb : ∀ p, blocksIn p l = blocksIn p t.directory)
    (hn : (l.map Descriptor.id).Nodup) (hr : l.length ≤ 128) (n : Nat) (dr : List Nat) (hold : Bool) (lv : Nat) :
    TraceStore.Balanced { t with directory := l, nextId := n, drain := dr, hostHold := hold, drainLevel := lv } where
  blocks p := (congrArg (Runs.count (t.freeOf p) + ·) (hb p)).trans (h.blocks p)
  total := h.total
  ids := hn
  room := hr

/-- What is no part of the law may change. -/
theorem settings (h : t.Balanced) (n : Nat) (dr : List Nat) (hold : Bool) (lv : Nat) :
    TraceStore.Balanced { t with nextId := n, drain := dr, hostHold := hold, drainLevel := lv } :=
  h.relisted (fun _ => rfl) h.ids h.room n dr hold lv

/-- Descriptors changed in neither id nor blocks. -/
theorem mapped (h : t.Balanced) {f : Descriptor → Descriptor} (hid : ∀ d, (f d).id = d.id)
    (hw : ∀ d p, (f d).weight p = d.weight p) : TraceStore.Balanced { t with directory := t.directory.map f } := by
  refine h.relisted (fun p => blocksIn_map (fun d => hw d p) _) ?_ (by rw [List.length_map]; exact h.room) _ _ _ _
  rw [List.map_map, (funext hid : Descriptor.id ∘ f = Descriptor.id)]
  exact h.ids

/-- R146, R147: a descriptor changed in neither id nor blocks. -/
theorem modified (h : t.Balanced) {id : Nat} {f : Descriptor → Descriptor} (hid : ∀ d, (f d).id = d.id)
    (hw : ∀ d p, (f d).weight p = d.weight p) : (t.modify id f).Balanced :=
  h.mapped (fun d => by split <;> simp [hid]) (fun d p => by split <;> simp [hw])

end TraceStore.Balanced

/-! ## Opening a trace (R144, R145) -/

/-- R144: where the search ends on an id in use, every id it tried is in use. -/
theorem allocId_used {f n : Nat} {used : List Nat} (h : allocId f used n ∈ used) :
    ∀ i ≤ f, nextTraceId^[i] n ∈ used := by
  induction f generalizing n with
  | zero => intro i hi; rw [Nat.le_zero.mp hi]; exact h
  | succ f ih =>
    unfold allocId at h
    split at h
    · next hu =>
      intro i hi
      cases i with
      | zero => exact List.contains_iff_mem.mp hu
      | succ i => exact ih h i (by omega)
    · next hu => exact absurd (List.contains_iff_mem.mpr h) hu

/-- R144: the ids in the order they are tried. -/
theorem nextTraceId_iterate (n i : Nat) (hi : i ≤ 129) :
    nextTraceId^[i] n = if i = 0 ∨ n + i ≤ 65535 then n + i else n + i - max n 65535 := by
  induction i with
  | zero => simp
  | succ i ih =>
    rw [Function.iterate_succ_apply', ih (by omega)]
    unfold nextTraceId
    split <;> split <;> split <;> omega

/-- R144, R145: while fewer than 128 descriptors live, the search finds an id that none holds. -/
theorem allocId_unused {used : List Nat} (h : used.length < 128) (n : Nat) : allocId 129 used n ∉ used := by
  intro hu
  have hall := allocId_used hu
  have hinj : ((List.range 130).map fun i => nextTraceId^[i] n).Nodup := by
    refine (List.nodup_map_iff_inj_on List.nodup_range).mpr fun i hi j hj e => ?_
    rw [List.mem_range] at hi hj
    rw [nextTraceId_iterate n i (by omega), nextTraceId_iterate n j (by omega)] at e
    split at e <;> split at e <;> omega
  have hsub : ((List.range 130).map fun i => nextTraceId^[i] n) ⊆ used := by
    intro x hx
    obtain ⟨i, hi, rfl⟩ := List.mem_map.mp hx
    exact hall i (by have := List.mem_range.mp hi; omega)
  have := (hinj.subperm hsub).length_le
  simp at this
  omega

/-- R145: a new descriptor has an id of its own and no block. -/
theorem TraceStore.Balanced.opened {t : TraceStore} (h : t.Balanced) (hl : t.directory.length < 128) (k : TraceKind)
    (slot : Nat) (a : Option Nat) (now : LaneTime) :
    let id := allocId 129 (t.directory.map Descriptor.id) t.nextId
    TraceStore.Balanced { t with
      directory := t.directory ++ [Descriptor.opened id k slot a now t.hostHold], nextId := nextTraceId id } := by
  intro id
  have hid : id ∉ t.directory.map Descriptor.id := allocId_unused (by rw [List.length_map]; exact hl) _
  refine h.relisted (fun p => ?_) ?_ (by simp; omega) _ _ _ _
  · rw [blocksIn_append]
    simp [blocksIn, Descriptor.weight, Descriptor.opened, Runs.count]
  · rw [List.map_append]
    exact h.ids.append (List.nodup_singleton _) (List.disjoint_singleton.mpr hid)

/-! ## Blocks taken and given back (R146, R150) -/

/-- A partition's blocks under a change of its free list. -/
theorem TraceStore.freeOf_setFree (t : TraceStore) (k : TraceKind) (r : Runs) (p : Bool) :
    (t.setFree k r).freeOf p = if k.brakePart == p then r else t.freeOf p := by
  unfold setFree freeOf
  cases k.brakePart <;> cases p <;> rfl

/-- The partitions' sizes and the unassigned blocks are as they were. -/
structure TraceStore.SameSizes (t u : TraceStore) : Prop where
  size : u.sizeOf = t.sizeOf
  unassigned : u.unassigned = t.unassigned

theorem TraceStore.setFree_sizes (t : TraceStore) (k : TraceKind) (r : Runs) : t.SameSizes (t.setFree k r) := by
  unfold setFree; split <;> exact ⟨rfl, rfl⟩

theorem TraceStore.setFree_directory (t : TraceStore) (k : TraceKind) (r : Runs) :
    (t.setFree k r).directory = t.directory := by
  unfold setFree; split <;> rfl

/-- Blocks that move between the free lists and the descriptors leave the law. -/
theorem TraceStore.Balanced.moved {t u : TraceStore} (h : t.Balanced) (hs : t.SameSizes u)
    (hh : ∀ p, u.held p = t.held p) (hn : (u.directory.map Descriptor.id).Sublist (t.directory.map Descriptor.id)) :
    u.Balanced where
  blocks p := by rw [hh, hs.size]; exact h.blocks p
  total := by rw [hs.size, hs.unassigned]; exact h.total
  ids := h.ids.sublist hn
  room := by simpa using hn.length_le.trans (List.length_map (f := Descriptor.id) ▸ h.room)

/-- R146: a descriptor with one block more and a sample in it. -/
def Descriptor.extended (b : Nat) (x : TraceSample) (w : LaneTime) (d : Descriptor) : Descriptor :=
  Descriptor.store { d with blocks := Runs.snoc d.blocks (b, 1) } x w

theorem Descriptor.weight_extended (p : Bool) (b : Nat) (x : TraceSample) (w : LaneTime) (d : Descriptor) :
    (d.extended b x w).weight p = d.weight p + if d.kind.brakePart == p then 1 else 0 := by
  have hblocks : (d.extended b x w).blocks = Runs.snoc d.blocks (b, 1) := rfl
  have hkind : (d.extended b x w).kind = d.kind := rfl
  unfold weight
  rw [hblocks, hkind, Runs.count_snoc]
  split <;> rfl

/-- R146: a block taken from the free list goes to one descriptor. -/
theorem TraceStore.Balanced.blockTaken {t : TraceStore} (h : t.Balanced) {id b : Nat} {d : Descriptor} {rest : Runs}
    (hd : t.find id = some d) (hp : Runs.pop (t.free d.kind) = some (b, rest)) (x : TraceSample) (w : LaneTime) :
    TraceStore.Balanced ((t.setFree d.kind rest).modify id (Descriptor.extended b x w)) := by
  have hsize := t.setFree_sizes d.kind rest
  refine h.moved ⟨hsize.size, hsize.unassigned⟩ (fun p => ?_) ?_
  · have hchange := blocksIn_change (p := p) (f := Descriptor.extended b x w) h.ids hd
    rw [Descriptor.weight_extended] at hchange
    have hfree : Runs.count ((t.setFree d.kind rest).freeOf p) + (if d.kind.brakePart == p then 1 else 0)
        = Runs.count (t.freeOf p) := by
      rw [freeOf_setFree]
      split
      · next he => rw [← eq_of_beq he]; exact (Runs.count_pop hp).symm
      · rfl
    simp only [held, modify, setFree_directory]
    change Runs.count ((t.setFree d.kind rest).freeOf p) + _ = _
    omega
  · have hid : ((t.setFree d.kind rest).modify id (Descriptor.extended b x w)).directory.map Descriptor.id
        = t.directory.map Descriptor.id := by
      simp only [modify, setFree_directory, List.map_map]
      exact List.map_congr_left fun e _ => by simp only [Function.comp]; split <;> rfl
    rw [hid]

/-- R146: a sample is stored without a new block, or in one taken from the free list, or not at all. -/
theorem TraceStore.Balanced.appended {t : TraceStore} (h : t.Balanced) (id : Nat) (x : TraceSample) (w : LaneTime) :
    (t.append id x w).Balanced := by
  unfold append
  split
  · exact h
  · next d hd =>
    split
    · exact h
    · split
      · split
        · exact h.modified (fun _ => rfl) (fun _ _ => rfl)
        · next hp => exact h.blockTaken hd hp x w
      · exact h.modified (fun _ => rfl) (fun _ _ => rfl)

/-- R150: the blocks of descriptors given back are in their partitions' free lists. -/
theorem TraceStore.foldl_giveBack (l : List Descriptor) (t : TraceStore) :
    t.SameSizes (l.foldl giveBack t)
      ∧ ∀ p, Runs.count ((l.foldl giveBack t).freeOf p) = Runs.count (t.freeOf p) + blocksIn p l := by
  induction l generalizing t with
  | nil => exact ⟨⟨rfl, rfl⟩, fun _ => rfl⟩
  | cons d l ih =>
    obtain ⟨hs, hf⟩ := ih (giveBack t d)
    have hd := t.setFree_sizes d.kind (Runs.append (t.free d.kind) d.blocks)
    refine ⟨⟨hs.size.trans hd.size, hs.unassigned.trans hd.unassigned⟩, fun p => ?_⟩
    have hg : Runs.count ((giveBack t d).freeOf p) = Runs.count (t.freeOf p) + d.weight p := by
      unfold giveBack Descriptor.weight
      rw [freeOf_setFree]
      split
      · next he => rw [Runs.count_append, ← eq_of_beq he]; rfl
      · rfl
    rw [List.foldl_cons, hf p, hg, Nat.add_assoc]
    rfl

/-- R150: what no descriptor lists any more is free again. -/
theorem TraceStore.Balanced.swept {t : TraceStore} (h : t.Balanced) : t.sweep.Balanced := by
  obtain ⟨hs, hf⟩ := foldl_giveBack (t.directory.filter Descriptor.unheld) t
  refine h.moved ⟨hs.size, hs.unassigned⟩ (fun p => ?_) (List.filter_sublist.map _)
  have hparts := blocksIn_filter p Descriptor.unheld t.directory
  have hp := hf p
  change Runs.count (((t.directory.filter Descriptor.unheld).foldl giveBack t).freeOf p)
    + blocksIn p (t.directory.filter fun d => !d.unheld) = Runs.count (t.freeOf p) + blocksIn p t.directory
  omega

/-! ## The partitions resized (R142) -/

/-- R142: a partition's free list returned to the pool, where its size changes. -/
def Runs.pooled (new old : Nat) (free pool : Runs) : Runs := if new == old then pool else Runs.merge pool free

/-- R142: a partition's free list and the pool after its blocks are taken, where its size changes. -/
def Runs.drawn (new old : Nat) (free pool : Runs) : Runs × Runs :=
  if new == old then (free, pool) else Runs.takeFirst pool new

theorem resizePartitions_eq (b e : Nat) (t : TraceStore) : resizePartitions b e t =
    (let pool := Runs.pooled e t.entrySize t.entryFree (Runs.pooled b t.brakeSize t.brakeFree t.unassigned)
     let brake := Runs.drawn b t.brakeSize t.brakeFree pool
     let entry := Runs.drawn e t.entrySize t.entryFree brake.2
     { t with brakeSize := b, entrySize := e, brakeFree := brake.1, entryFree := entry.1, unassigned := entry.2 }) := rfl

theorem Runs.count_pooled (new old : Nat) (free pool : Runs) :
    (new = old ∧ Runs.count (Runs.pooled new old free pool) = Runs.count pool)
      ∨ (new ≠ old ∧ Runs.count (Runs.pooled new old free pool) = Runs.count pool + Runs.count free) := by
  unfold pooled
  by_cases h : new = old
  · simp [h]
  · simp [h, Runs.count_merge]

theorem Runs.count_drawn {new old : Nat} {free pool : Runs} (hfit : new = old ∨ new ≤ Runs.count pool) :
    (new = old ∧ Runs.count (Runs.drawn new old free pool).1 = Runs.count free
        ∧ Runs.count (Runs.drawn new old free pool).2 = Runs.count pool)
      ∨ (new ≠ old ∧ Runs.count (Runs.drawn new old free pool).1 = new
        ∧ Runs.count (Runs.drawn new old free pool).2 + new = Runs.count pool) := by
  unfold drawn
  by_cases h : new = old
  · simp [h]
  · simpa [h] using Runs.count_takeFirst pool new (hfit.resolve_left h)

/-- R142: partitions that hold no block, or keep their size, are made of the blocks of the pool. -/
theorem TraceStore.Balanced.resized {t : TraceStore} (h : t.Balanced) {b e : Nat} (hfit : b + e ≤ 32768)
    (hb : b = t.brakeSize ∨ t.occupied true = false) (he : e = t.entrySize ∨ t.occupied false = false) :
    (resizePartitions b e t).Balanced := by
  have hbrake : Runs.count t.brakeFree + blocksIn true t.directory = t.brakeSize := h.blocks true
  have hentry : Runs.count t.entryFree + blocksIn false t.directory = t.entrySize := h.blocks false
  have htotal : t.brakeSize + t.entrySize + Runs.count t.unassigned = 32768 := h.total
  simp only [occupied, if_true, decide_eq_false_iff_not, Nat.not_lt, Bool.false_eq_true, if_false] at hb he
  have hgiven := Runs.count_pooled b t.brakeSize t.brakeFree t.unassigned
  have hpool := Runs.count_pooled e t.entrySize t.entryFree (Runs.pooled b t.brakeSize t.brakeFree t.unassigned)
  rw [resizePartitions_eq]
  dsimp only
  generalize Runs.pooled b _ _ _ = given at hgiven hpool
  generalize Runs.pooled e _ _ _ = pool at hpool
  have hbf := Runs.count_drawn (new := b) (old := t.brakeSize) (free := t.brakeFree) (pool := pool) (by omega)
  generalize Runs.drawn b _ _ _ = brake at hbf
  have hef := Runs.count_drawn (new := e) (old := t.entrySize) (free := t.entryFree) (pool := brake.2) (by omega)
  generalize Runs.drawn e _ _ _ = entry at hef
  have hB : Runs.count brake.1 + blocksIn true t.directory = b := by omega
  have hE : Runs.count entry.1 + blocksIn false t.directory = e := by omega
  have hP : b + e + Runs.count entry.2 = 32768 := by omega
  exact ⟨Bool.forall_bool.mpr ⟨hE, hB⟩, hP, h.ids, h.room⟩

end Sys2Proof.Machine
end

section
/-! SUPPORT. The law of the Trace Store (R141, R142, R144, R145) under the operations of the traces, of the Vehicle Table and
of the entry station. -/

namespace Sys2Proof.Machine

/-! ## BlockLaw along operations -/

/-- What holds of the blocks as R141 asks holds still. -/
def BlocksKept (s t : State) : Prop := BlockLaw s → BlockLaw t

theorem BlocksKept.refl (s : State) : BlocksKept s s := id

theorem BlocksKept.trans {s t u : State} (h : BlocksKept s t) (k : BlocksKept t u) : BlocksKept s u := k ∘ h

theorem BlocksKept.of_balanced {s t : State} (h : s.traces.Balanced → t.traces.Balanced) : BlocksKept s t := fun hs =>
  (blockLaw_iff t).mpr (h ((blockLaw_iff s).mp hs))

/-- What leaves the Trace Store alone keeps its law. -/
theorem BlocksKept.of_traces {s t : State} (h : t.traces = s.traces) : BlocksKept s t := .of_balanced fun hs => h ▸ hs

theorem BrakeOnly.blocksKept {s t : State} (h : BrakeOnly s t) : BlocksKept s t := .of_traces h.traces

theorem Followed.blocksKept {s t : State} (h : Followed s t) : BlocksKept s t := .of_traces h.traces

theorem GuideOnly.blocksKept {s t : State} (h : GuideOnly s t) : BlocksKept s t := by
  obtain ⟨g, o, rfl⟩ := h
  exact .of_traces rfl

theorem blocksKept_foldl {α : Type} {f : State → α → State} (h : ∀ s a, BlocksKept s (f s a)) (l : List α) (s : State) :
    BlocksKept s (l.foldl f s) := by
  induction l generalizing s with
  | nil => exact .refl s
  | cons a l ih => exact (h s a).trans (ih _)

/-! ## Traces -/

theorem blocksKept_openTrace (k : TraceKind) (n : Nat) (a : Option Nat) (s : State) :
    BlocksKept s (openTrace k n a s).2 := by
  unfold openTrace
  split
  · next hl => exact .of_balanced fun h => h.opened hl k n a s.now
  · exact .refl s

theorem blocksKept_appendSample (tr : Option Nat) (x : TraceSample) (t : LaneTime) (s : State) :
    BlocksKept s (appendSample tr x t s) := by
  unfold appendSample
  split
  · exact .refl s
  · exact .of_balanced fun h => h.appended _ x t

/-- R147: the counts of a recording trace are no blocks. -/
theorem blocksKept_addPedalGap (tr : Option Nat) (n : Nat) (s : State) : BlocksKept s (addPedalGap tr n s) := by
  unfold addPedalGap
  split
  · exact .refl s
  · exact .of_balanced fun h => h.modified (fun _ => by split <;> rfl) (fun _ _ => by split <;> rfl)

theorem blocksKept_addExcess (tr : Option Nat) (s : State) : BlocksKept s (addExcess tr s) := by
  unfold addExcess
  split
  · exact .refl s
  · exact .of_balanced fun h => h.modified (fun _ => by split <;> rfl) (fun _ _ => by split <;> rfl)

/-- R148, R150: a close marks the descriptor, may drain it, and frees what is not held. -/
theorem blocksKept_closeTrace (id : Nat) (a : Bool) (s : State) : BlocksKept s (closeTrace id a s).2 := by
  cases hf : s.traces.find id with
  | none => unfold closeTrace; rw [hf]; exact .refl s
  | some d =>
    refine .of_balanced fun h => ?_
    rw [closeTrace_traces a hf]
    have hm : (s.traces.modify id (Descriptor.ended a s)).Balanced := h.modified (fun _ => rfl) (fun _ _ => rfl)
    exact (hm.settings _ _ _ _).swept

theorem blocksKept_abortTrace (tr : Option Nat) (s : State) : BlocksKept s (abortTrace tr s) := by
  unfold abortTrace
  split
  · exact .refl s
  · exact blocksKept_closeTrace _ _ s

/-- R149: holds are no blocks, and what has lost its last one is freed. -/
theorem blocksKept_clearPrintHolds (p : Descriptor → Bool) (s : State) : BlocksKept s (clearPrintHolds p s) :=
  .of_balanced fun h => (h.mapped (fun _ => by split <;> rfl) (fun _ _ => by split <;> rfl)).swept

/-! ## The Vehicle Table -/

theorem blocksKept_removeRecord (k : Nat) (c : Option RemovalCause) (s : State) : BlocksKept s (removeRecord k c s) := by
  unfold removeRecord
  extract_lets r s1 s2 s3 s4
  have h2 : s2.traces = s.traces := by unfold s2; split <;> rfl
  have h4 : s4.traces = s3.traces := by unfold s4; split <;> rfl
  exact ((BlocksKept.of_traces h2).trans (blocksKept_clearPrintHolds _ s2)).trans (.of_traces h4)

@[simp] theorem bindRecord_traces (k : Nat) (s : State) : (bindRecord k s).traces = s.traces := by
  unfold bindRecord; dsimp only; split <;> rfl

@[simp] theorem learnRecord_traces (s : State) : (learnRecord s).2.traces = s.traces := by
  unfold learnRecord
  split
  · rfl
  · exact bindRecord_traces _ _

theorem blocksKept_askRecord (s : State) : BlocksKept s (askRecord s).state := by
  unfold askRecord
  split
  · exact .refl s
  · split
    · exact .of_traces (bindRecord_traces _ s)
    · split
      · exact .of_traces (learnRecord_traces s)
      · split
        · exact (blocksKept_removeRecord _ _ s).trans (.of_traces (learnRecord_traces _))
        · exact .refl s

@[simp] theorem releaseHead_traces (s : State) : (releaseHead s).traces = s.traces := by
  unfold releaseHead
  split
  · rfl
  · exact (completeHead_frame _ _).2

theorem blocksKept_setAgeLimit (n : Nat) (s : State) : BlocksKept s (setAgeLimit n s) := by
  unfold setAgeLimit
  dsimp only
  split
  · exact .of_traces rfl
  · split
    · exact .of_traces rfl
    · refine (BlocksKept.of_traces (t := s.onVt _) rfl).trans (blocksKept_foldl (fun u k => ?_) _ _)
      split
      · exact blocksKept_removeRecord k _ u
      · exact .refl u

@[simp] theorem disarm_traces (s : State) : (disarm s).traces = s.traces := by
  unfold disarm; split <;> rfl

/-! ## The entry station: binding and appends (R48, R49, R55) -/

theorem blocksKept_bindStation (k : Nat) (s : State) : BlocksKept s (bindStation k s) :=
  (blocksKept_openTrace .entry k none s).trans (.of_traces rfl)

theorem blocksKept_appendMeasured (k : Nat) (f : Axle → Axle) (s : State) :
    BlocksKept s (appendMeasured k f s).2 := by
  have ha : (appendAxle k f s).2.traces = s.traces := by unfold appendAxle; split <;> rfl
  unfold appendMeasured
  dsimp only
  refine (BlocksKept.of_traces ha).trans ?_
  split
  · exact (followed_noticeMeasured k _ _).blocksKept.trans ((followed_evaluateLeaving _).blocksKept.trans (.of_traces rfl))
  · exact (BlocksKept.of_traces rfl).trans (blocksKept_addExcess _ (writeRec k _ _))

theorem blocksKept_appendPassed (k n : Nat) (s : State) : BlocksKept s (appendPassed k n s) := by
  induction n generalizing s with
  | zero => exact .refl s
  | succ n ih => exact (blocksKept_appendMeasured k id s).trans (ih _)

theorem blocksKept_retryBinding (s : State) : BlocksKept s (retryBinding s) := by
  unfold retryBinding
  split
  · dsimp only
    split
    · exact .refl s
    · next k _ =>
      have h := ((blocksKept_askRecord s).trans (blocksKept_bindStation k _)).trans
        (blocksKept_appendPassed k s.entry.passed _)
      split
      · exact h.trans (.of_traces rfl)
      · exact h
  · exact .refl s

theorem blocksKept_startVehicle (s : State) : BlocksKept s (startVehicle s) := by
  have h : BlocksKept s (askRecord (startTrackers s)).state :=
    (BlocksKept.of_traces (t := startTrackers s) rfl).trans (blocksKept_askRecord _)
  unfold startVehicle
  dsimp only
  split
  · exact h.trans (blocksKept_bindStation _ _)
  · exact h.trans (.of_traces rfl)

theorem blocksKept_barrierActive (s : State) : BlocksKept s (barrierActive s) := by
  unfold barrierActive
  split
  · exact .refl s
  · split
    · exact .of_traces (noticeDeparture_traces _ (cancelQuiet (s.onEntry _)))
    · exact blocksKept_startVehicle s

@[simp] theorem barrierInactive_traces (s : State) : (barrierInactive s).traces = s.traces := by
  unfold barrierInactive
  split
  · rfl
  · split
    · exact checkFinishing_traces (s.onEntry _)
    · rfl

/-! ## The entry station: slip plate, scale and window ends (R47, R50 to R54) -/

@[simp] theorem plateActive_traces (s : State) : (plateActive s).traces = s.traces := by
  unfold plateActive
  split
  · dsimp only
    split
    · exact noticeDeparture_traces _ (cancelQuiet (raiseEvent _ (onPlate _ s)))
    · rfl
  · rfl

@[simp] theorem plateInactive_traces (s : State) : (plateInactive s).traces = s.traces := by
  unfold plateInactive
  split
  · exact checkFinishing_traces (s.onEntry _)
  · rfl

theorem blocksKept_takeWeight (u : Bool) (l r : Option Nat) (s : State) : BlocksKept s (takeWeight u l r s) := by
  unfold takeWeight
  extract_lets c slip s1
  have h1 : BlocksKept s s1 := .of_traces rfl
  split
  · exact .of_traces rfl
  · exact (h1.trans (blocksKept_appendMeasured _ _ s1)).trans (.of_traces rfl)

theorem blocksKept_leaveScale (s : State) : BlocksKept s (leaveScale s) := by
  unfold leaveScale
  extract_lets s1 s2
  have h1 : BlocksKept s s1 := by
    unfold s1
    split
    · exact blocksKept_takeWeight _ _ _ s
    · exact .refl s
  refine h1.trans (.of_traces ?_)
  split
  · exact checkFinishing_traces (raiseEvent _ s2)
  · rfl

@[simp] theorem comeOnScale_traces (x : EntrySample) (s : State) : (comeOnScale x s).traces = s.traces := by
  unfold comeOnScale
  dsimp only
  split
  · exact noticeDeparture_traces _ (cancelQuiet (raiseEvent _ (onScale _ s)))
  · rfl

theorem blocksKept_scaleSample (x : EntrySample) (s : State) : BlocksKept s (scaleSample x s) := by
  have joined : ∀ f, BlocksKept s (if (onScale f s).entry.scale.low == 5 then leaveScale (onScale f s)
      else if (onScale f s).entry.scale.phase == .weighing
          && (onScale f s).entry.scale.settled (onScale f s).entry.settleBand then takeSettled (onScale f s)
      else onScale f s) := by
    intro f
    refine (BlocksKept.of_traces (t := onScale f s) rfl).trans ?_
    split
    · exact blocksKept_leaveScale _
    · split
      · exact blocksKept_takeWeight _ _ _ _
      · exact .refl _
  unfold scaleSample
  split
  · split
    · exact .of_traces (comeOnScale_traces x s)
    · exact .refl s
  · exact joined _
  · exact joined _

@[simp] theorem liveEntry_traces (x : EntrySample) (s : State) : (liveEntry x s).traces = s.traces := by
  unfold liveEntry
  split
  · rfl
  · split <;> rfl

theorem blocksKept_recordEntrySample (x : EntrySample) (s : State) : BlocksKept s (recordEntrySample x s) := by
  unfold recordEntrySample
  split
  · exact blocksKept_appendSample _ _ _ s
  · exact .refl s

theorem blocksKept_entryWindow (d : Delivery) (s : State) : BlocksKept s (entryWindow d s) := by
  unfold entryWindow
  split
  · extract_lets x s1
    have h1 : BlocksKept s s1 := (BlocksKept.of_traces (liveEntry_traces x s)).trans
      ((blocksKept_recordEntrySample x _).trans (.of_traces rfl))
    exact (h1.trans (blocksKept_scaleSample x s1)).trans (.of_traces rfl)
  · exact .refl s

theorem blocksKept_takeEntryWindow (s : State) : BlocksKept s (takeEntryWindow s) := by
  unfold takeEntryWindow
  split
  · exact .refl s
  · exact (BlocksKept.of_traces (t := s.onSig _) rfl).trans (blocksKept_entryWindow _ _)

theorem blocksKept_settleExpired (s : State) : BlocksKept s (settleExpired s) := by
  unfold settleExpired
  split
  · exact blocksKept_takeWeight _ _ _ s
  · exact .refl s

/-! ## The entry station: the end of the entry phase and RESTART (R57, R61) -/

theorem blocksKept_closeEntryTrace (s : State) : BlocksKept s (closeEntryTrace s) := by
  unfold closeEntryTrace
  split
  · exact .refl s
  · exact (blocksKept_closeTrace _ _ s).trans (.of_traces rfl)

theorem blocksKept_quietExpired (s : State) : BlocksKept s (quietExpired s) := by
  cases hd : s.due s.entry.quiet with
  | false => rw [quietExpired_early hd]; exact .refl s
  | true =>
    cases hv : s.entry.vehicle with
    | none => unfold quietExpired; rw [hv]; exact .refl s
    | some v =>
      obtain ⟨-, -, htr, -⟩ := entryEnded_frame v s
      rw [quietExpired_due hv hd]
      exact (BlocksKept.of_traces htr).trans ((blocksKept_closeEntryTrace _).trans (.of_traces rfl))

theorem blocksKept_restartEntry (s : State) : BlocksKept s (restartEntry s) :=
  (blocksKept_abortTrace _ s).trans (.of_traces rfl)

end Sys2Proof.Machine
end

section
/-! SUPPORT. The law of the Trace Store (R141, R142, R144, R145) under the operations of the brake station. -/

namespace Sys2Proof.Machine

/-! ## Aborts, faults and matches (R67, R68, R78, R80) -/

@[simp] theorem noticeTested_traces (r : Option AbortReason) (x : Option AxleResult) (s : State) :
    (noticeTested r x s).traces = s.traces := (brakeOnly_noticeTested r x s).traces

theorem blocksKept_abortAttempt (r : AbortReason) (s : State) : BlocksKept s (abortAttempt r s) := by
  unfold abortAttempt
  extract_lets s1 s2 s3
  have h2 : BlocksKept s s2 := (BlocksKept.of_traces rfl).trans (blocksKept_abortTrace _ s1)
  have h3 : s3.traces = s2.traces := by unfold s3; split <;> rfl
  exact h2.trans (.of_traces ((noticeTested_traces _ _ s3).trans h3))

theorem blocksKept_enterFault (c : BrakeCause) (s : State) : BlocksKept s (enterFault c s) := by
  unfold enterFault
  split
  · exact .refl s
  · extract_lets s1 s2
    have h1 : BlocksKept s s1 := by
      unfold s1
      split
      · exact blocksKept_abortAttempt _ s
      · exact .refl s
    exact h1.trans ((BlocksKept.of_traces (s := s1) (t := s2) rfl).trans
      ((brakeOnly_enterState _ s2).blocksKept.trans (.of_traces rfl)))

theorem blocksKept_takeAxle (n : Nat) (ph : Phase) (s : State) : BlocksKept s (takeAxle n ph s) := by
  refine (BlocksKept.of_traces (t := s.onBrake fun b => { b with axle := some n, phase := ph }) rfl).trans ?_
  unfold takeAxle enterZeroing
  split
  · exact blocksKept_enterFault _ _
  · exact ((brakeOnly_onBrake _ _).trans (brakeOnly_enterState _ _)).blocksKept

theorem blocksKept_matchAxle (v : Nat) (s : State) : BlocksKept s (matchAxle v s) := by
  unfold matchAxle
  dsimp only
  split
  · exact blocksKept_takeAxle _ _ s
  · split
    · have ha : ∀ f, BlocksKept s (appendAxle v f s).2 := fun f => .of_traces (by unfold appendAxle; split <;> rfl)
      split
      · exact ((ha _).trans (followed_evaluateLeaving _).blocksKept).trans (blocksKept_takeAxle _ _ _)
      · exact (ha _).trans ((brakeOnly_dropAxle _).trans (brakeOnly_enterWaitClear _)).blocksKept
    · exact ((brakeOnly_dropAxle s).trans (brakeOnly_enterState _ _)).blocksKept

theorem blocksKept_presenceExpired (s : State) : BlocksKept s (presenceExpired s) := by
  unfold presenceExpired
  split
  · exact .refl s
  · split
    · exact (BlocksKept.of_traces (t := raiseEvent _ (s.onBrake _)) rfl).trans (blocksKept_matchAxle _ _)
    · exact .refl s

/-! ## The phase from ZEROING to AXLE_DONE (R69 to R76) -/

/-- R82: the phase's trace is opened. -/
theorem blocksKept_enterSpinUp (s : State) : BlocksKept s (enterSpinUp s) := by
  unfold enterSpinUp
  extract_lets b kind t s1
  have h1 : BlocksKept s s1 := (blocksKept_openTrace kind _ _ s).trans (.of_traces rfl)
  refine (h1.trans ?_).trans (brakeOnly_enterState _ _).blocksKept
  split
  · exact (brakeOnly_setRun true s1).blocksKept
  · exact .refl s1

theorem blocksKept_zeroingSample (d : Delivery) (s : State) : BlocksKept s (zeroingSample d s) := by
  unfold zeroingSample
  dsimp only
  split
  · exact (BlocksKept.of_traces (t := (s.onBrake _).onBrake _) rfl).trans (blocksKept_enterSpinUp _)
  · exact .of_traces rfl

theorem blocksKept_closePhaseTrace (s : State) : BlocksKept s (closePhaseTrace s) := by
  unfold closePhaseTrace
  split
  · exact .refl s
  · exact (blocksKept_closeTrace _ _ s).trans (.of_traces rfl)

theorem blocksKept_writeResult (v n : Nat) (s : State) : BlocksKept s (writeResult v n s) := by
  have h1 : ∀ f, BlocksKept s (evaluateLeaving (writeAxle v n f s)) := fun f =>
    (BlocksKept.of_traces (t := writeAxle v n f s) rfl).trans (followed_evaluateLeaving _).blocksKept
  exact ((h1 _).trans (blocksKept_closePhaseTrace _)).trans (.of_traces (noticeTested_traces _ _ _))

theorem blocksKept_axleDone (s : State) : BlocksKept s (axleDone s) := by
  unfold axleDone
  split
  · exact (brakeOnly_enterWaitClear s).blocksKept
  · next v n _ =>
    have h : BlocksKept s (writeResult v n (enterState .axleDone s)) :=
      (brakeOnly_enterState _ s).blocksKept.trans (blocksKept_writeResult v n _)
    dsimp only
    split
    · exact h.trans ((brakeOnly_onBrake _ _).blocksKept.trans (blocksKept_enterSpinUp _))
    · exact h.trans ((brakeOnly_enterWaitClear _).trans (brakeOnly_raiseVehicleDone v _ _)).blocksKept

theorem blocksKept_stoppingSample (d : Delivery) (s : State) : BlocksKept s (stoppingSample d s) := by
  unfold stoppingSample
  extract_lets n s1
  have h1 : BlocksKept s s1 := .of_traces rfl
  split
  · exact h1.trans ((brakeOnly_onBrake _ s1).blocksKept.trans (blocksKept_axleDone _))
  · exact h1

theorem blocksKept_stopExpired (s : State) : BlocksKept s (stopExpired s) := by
  unfold stopExpired
  split
  · split
    · exact blocksKept_enterFault _ s
    · exact (blocksKept_writeResult _ _ s).trans (blocksKept_enterFault _ _)
  · exact .refl s

/-- R80: a faulted sum ends the attempt; otherwise the state acts on the sample. -/
theorem blocksKept_orFault {f : State → State} {s : State} (b : Bool) (h : BlocksKept s (f s)) :
    BlocksKept s (if b then enterFault .sensorFault s else f s) := by
  split
  · exact blocksKept_enterFault _ s
  · exact h

theorem blocksKept_actOnSample (d : Delivery) (x : BrakeSample) (s : State) : BlocksKept s (actOnSample d x s) := by
  unfold actOnSample
  split
  · exact blocksKept_orFault _ (blocksKept_zeroingSample d s)
  · exact blocksKept_orFault _ (brakeOnly_spinUpSample x s).blocksKept
  · exact blocksKept_orFault _ (brakeOnly_dragSample x s).blocksKept
  · exact blocksKept_orFault _ (brakeOnly_brakingSample x s).blocksKept
  · exact blocksKept_stoppingSample d s
  all_goals exact .refl s

theorem blocksKept_recordBrakeSample (x : BrakeSample) (s : State) : BlocksKept s (recordBrakeSample x s) := by
  unfold recordBrakeSample
  split
  · exact blocksKept_appendSample _ _ _ s
  · exact .refl s

theorem blocksKept_brakeWindow (d : Delivery) (s : State) : BlocksKept s (brakeWindow d s) := by
  unfold brakeWindow
  extract_lets s1 x s2
  have h2 : BlocksKept s s2 := .of_traces rfl
  have h3 : BlocksKept s (liveBrake x s2) := h2.trans (.of_traces (by rw [liveBrake_eq]))
  exact ((h3.trans (blocksKept_recordBrakeSample x _)).trans (blocksKept_actOnSample d x _)).trans (.of_traces rfl)

theorem blocksKept_takeBrakeWindow (s : State) : BlocksKept s (takeBrakeWindow s) := by
  unfold takeBrakeWindow
  split
  · exact .refl s
  · exact (BlocksKept.of_traces (t := s.onSig _) rfl).trans (blocksKept_brakeWindow _ _)

/-! ## Expiries and edges (R66, R70, R71, R74, R77, R79) -/

theorem blocksKept_spinUpExpired (s : State) : BlocksKept s (spinUpExpired s) := by
  unfold spinUpExpired
  split
  · exact blocksKept_enterFault _ s
  · exact .refl s

theorem blocksKept_brakingExpired (s : State) : BlocksKept s (brakingExpired s) := by
  unfold brakingExpired
  split
  · exact (brakeOnly_endBraking _ _ s).blocksKept
  · exact .refl s

theorem blocksKept_clearExpired (s : State) : BlocksKept s (clearExpired s) := by
  unfold clearExpired
  split
  · exact (((brakeOnly_onBrake _ s).trans (brakeOnly_dropAxle _)).trans (brakeOnly_takeHead _)).blocksKept
  · exact .refl s

@[simp] theorem wheelCame_traces (w : Side) (t : LaneTime) (s : State) : (wheelCame w t s).traces = s.traces := by
  unfold wheelCame
  split
  · split <;> rfl
  all_goals rfl

theorem blocksKept_wheelsLost (s : State) : BlocksKept s (wheelsLost s) :=
  (blocksKept_abortAttempt _ s).trans ((brakeOnly_hand _ _).trans (brakeOnly_enterWaitClear _)).blocksKept

theorem blocksKept_wheelWent (w : Side) (t : LaneTime) (s : State) : BlocksKept s (wheelWent w t s) := by
  unfold wheelWent
  split
  · exact .of_traces rfl
  · exact (brakeOnly_enterWaitWheels s).blocksKept
  · split <;> exact .of_traces rfl
  case h_9 | h_10 | h_11 => exact .refl s
  all_goals exact blocksKept_wheelsLost s

@[simp] theorem driveCame_traces (s : State) : (driveCame s).traces = s.traces := by
  unfold driveCame; split <;> rfl

theorem blocksKept_driveWent (s : State) : BlocksKept s (driveWent s) := by
  unfold driveWent
  split
  · exact blocksKept_enterFault _ s
  · exact .refl s

/-! ## Station requests and RESTART (R21, R81, R83 to R85, R88) -/

@[simp] theorem markParking_traces (s : State) : (markParking s).traces = s.traces := by
  unfold markParking
  split
  · rfl
  · split <;> rfl

theorem blocksKept_endAxle (s : State) : BlocksKept s (endAxle s) := by
  unfold endAxle
  split
  · exact (brakeOnly_endBraking _ _ s).blocksKept
  · exact .refl s

theorem blocksKept_skipAxle (c : SkipCause) (v n : Nat) (s : State) : BlocksKept s (skipAxle c v n s) := by
  have marked : ∀ u : State, BlocksKept u (evaluateLeaving (markSkipped v n c u)) := fun u =>
    (BlocksKept.of_traces (t := markSkipped v n c u) rfl).trans (followed_evaluateLeaving _).blocksKept
  unfold skipAxle
  dsimp only
  refine BlocksKept.trans ?_ (brakeOnly_raiseVehicleDone v _ _).blocksKept
  split
  · exact ((blocksKept_abortAttempt _ s).trans (marked _)).trans (brakeOnly_enterWaitClear _).blocksKept
  · exact marked s

theorem blocksKept_guidanceSkip (s : State) : BlocksKept s (guidanceSkip s) := by
  unfold guidanceSkip
  split
  · exact .refl s
  · exact blocksKept_skipAxle _ _ _ s

theorem blocksKept_hostSkip (s : State) : BlocksKept s (hostSkip s).state := by
  unfold hostSkip
  split
  · exact .refl s
  · exact blocksKept_skipAxle _ _ _ s

theorem blocksKept_carryRelease (s : State) : BlocksKept s (carryRelease s) := by
  unfold carryRelease
  refine BlocksKept.trans ?_ (.of_traces (releaseHead_traces _))
  split
  · exact (blocksKept_abortAttempt _ s).trans (brakeOnly_enterWaitClear _).blocksKept
  · exact .refl s

theorem blocksKept_guidanceRelease (s : State) : BlocksKept s (guidanceRelease s) := by
  unfold guidanceRelease
  split
  · exact blocksKept_carryRelease s
  · exact .refl s

theorem blocksKept_hostRelease (s : State) : BlocksKept s (hostRelease s).state := by
  unfold hostRelease
  split
  · exact blocksKept_carryRelease s
  · exact .refl s

theorem blocksKept_ackFault (s : State) : BlocksKept s (ackFault s).state := by
  by_cases h : s.brake.state ≠ .fault ∨ inputActive .estop s = true
  · rw [ackFault_refused h]
    exact .refl s
  · rw [not_or, not_not, Bool.not_eq_true] at h
    rw [ackFault_taken h.1 h.2]
    exact (brakeOnly_acknowledged s).blocksKept

theorem blocksKept_restartBrake (s : State) : BlocksKept s (restartBrake s) :=
  ((brakeOnly_setRun false s).blocksKept.trans (blocksKept_abortTrace _ _)).trans (.of_traces rfl)

end Sys2Proof.Machine
end

section
/-! SUPPORT. The law of the Trace Store (R141, R142, R144, R145) under the links, Guidance, Signal Acquisition, the
calibration store, the Certificate Unit and the Host Port: most leave the traces alone. -/

namespace Sys2Proof.Machine

/-! ## The pedal link: lost frames are counted in a recording trace (R110, R147) -/

@[simp] theorem enterAbsent_traces (c : PedalCause) (s : State) : (enterAbsent c s).traces = s.traces := by
  unfold enterAbsent; split <;> rfl

@[simp] theorem rebase_traces (f : UnitFrame) (t : LaneTime) (s : State) : (rebase f t s).traces = s.traces := by
  unfold rebase; dsimp only; split <;> rfl

@[simp] theorem tentativeFrame_traces (f : UnitFrame) (t : LaneTime) (e : Int) (s : State) :
    (tentativeFrame f t e s).traces = s.traces := by
  unfold tentativeFrame
  dsimp only
  split
  · split <;> rfl
  · rfl

@[simp] theorem syncFrame_traces (f : UnitFrame) (t : LaneTime) (e : Int) (s : State) :
    (syncFrame f t e s).traces = s.traces := by
  unfold syncFrame
  dsimp only
  split
  · rfl
  · split <;> rfl

@[simp] theorem handleFrame_traces (f : UnitFrame) (t : LaneTime) (s : State) :
    (handleFrame f t s).traces = s.traces := by
  unfold handleFrame
  dsimp only
  split
  · rfl
  · rfl
  · exact tentativeFrame_traces f t _ (s.onPedal _)
  · exact syncFrame_traces f t _ (s.onPedal _)

theorem blocksKept_countGap (n : Nat) (s : State) : BlocksKept s (countGap n s) := by
  unfold countGap
  split
  · exact .refl s
  · exact (BlocksKept.of_traces (t := s.onPedal _) rfl).trans (blocksKept_addPedalGap _ _ _)

theorem blocksKept_followFrame (g : Following) (f : UnitFrame) (t : LaneTime) (s : State) :
    BlocksKept s (followFrame g f t s) := by
  unfold followFrame
  dsimp only
  split
  · exact .of_traces rfl
  · split
    · exact .of_traces (rebase_traces f t s)
    · exact (blocksKept_countGap _ s).trans (.of_traces (handleFrame_traces f t ((countGap _ s).onPedal _)))

theorem blocksKept_linkFrame (b : List Byte) (t : LaneTime) (s : State) : BlocksKept s (linkFrame b t s) := by
  unfold linkFrame
  dsimp only
  split
  · exact .of_traces rfl
  · split
    · exact .of_traces rfl
    · split
      · exact blocksKept_followFrame _ _ t s
      · exact .of_traces rfl

theorem blocksKept_takePedalFrame (b : List Byte) (s : State) : BlocksKept s (takePedalFrame b s) := by
  have linked : ∀ t f, BlocksKept s (linkFrame b t (s.onPedal f)) := fun t f =>
    (BlocksKept.of_traces (t := s.onPedal f) rfl).trans (blocksKept_linkFrame b t _)
  unfold takePedalFrame
  split
  · split
    · exact linked _ _
    · exact .refl s
  · split
    · split
      · exact linked _ _
      · exact .of_traces rfl
    · exact .refl s

@[simp] theorem pedalSilent_traces (s : State) : (pedalSilent s).traces = s.traces := by
  unfold pedalSilent
  split
  · exact enterAbsent_traces _ s
  · rfl

@[simp] theorem applyFilter_traces (s : State) : (applyFilter s).traces = s.traces := by
  unfold applyFilter
  split
  · rfl
  · split
    · rfl
    · exact enterAbsent_traces _ s

@[simp] theorem restartPedal_traces (s : State) : (restartPedal s).traces = s.traces := enterAbsent_traces _ (s.onPedal _)

/-! ## Guidance -/

theorem blocksKept_stepTimedOut (st : Station) (s : State) : BlocksKept s (stepTimedOut st s) := by
  unfold stepTimedOut
  split
  · exact .refl s
  · split
    · exact (guideOnly_enter _ _ s).blocksKept
    · exact .refl s

@[simp] theorem refreshShow_traces (st : Station) (s : State) : (refreshShow st s).traces = s.traces := by
  unfold refreshShow; split <;> rfl

@[simp] theorem beginPrompt_traces (s : State) : (beginPrompt s).traces = s.traces := by
  unfold beginPrompt
  repeat' split
  all_goals rfl

@[simp] theorem endPrompt_traces (s : State) : (endPrompt s).traces = s.traces := by
  unfold endPrompt; split <;> rfl

theorem blocksKept_restartGuidance (s : State) : BlocksKept s (restartGuidance s) :=
  (BlocksKept.of_traces (t := s.onGuide _) rfl).trans
    ((guideOnly_runProgram .entry 0 _).trans (guideOnly_runProgram .brake 1 _)).blocksKept

theorem takeRequest_traces {r : StationRequest} {s u : State} (h : takeRequest r s = some u) : u.traces = s.traces := by
  unfold takeRequest at h
  split at h
  · split at h
    · cases h; rfl
    · cases h
  · cases h

/-! ## Signal Acquisition -/

@[simp] theorem noticeSensors_traces (n : Nat) (as bs : List Channel) (s : State) :
    (noticeSensors n as bs s).traces = s.traces := by
  induction as generalizing n bs s with
  | nil => rfl
  | cons a as ih =>
    cases bs with
    | nil => rfl
    | cons b bs =>
      have h : (noticeSensor a b n s).traces = s.traces := by unfold noticeSensor; split <;> rfl
      exact (ih _ _ _).trans h

@[simp] theorem takeConversion_traces (vs : List Nat) (s : State) : (takeConversion vs s).traces = s.traces := by
  unfold takeConversion
  split
  · rfl
  · exact noticeSensors_traces _ _ _ (s.onSig _)

/-! ## The calibration store -/

@[simp] theorem endAutoload_traces (l : List Nat) (s : State) : (endAutoload l s).traces = s.traces := by
  have told : ∀ (rs : List (StoreRecord × StoreCause)) (u : State),
      (rs.foldl (fun u r => noticeStoreFault r.1 r.2 u) u).traces = u.traces := by
    intro rs
    induction rs with
    | nil => exact fun _ => rfl
    | cons r rs ih => exact fun u => ih _
  unfold endAutoload
  split
  · rfl
  · split
    · rfl
    · exact told _ _

theorem endWrite_traces {o : WriteOutcome} {s u : State} {e : WriteEntry} {w : PageWrite}
    (h : endWrite o s = some (.ok (e, w, u))) : u.traces = s.traces := by
  unfold endWrite at h
  split at h
  · split at h <;> split at h <;> cases h <;> rfl
  · cases h

@[simp] theorem collectSum_traces (s : State) : (collectSum s).traces = s.traces := by
  unfold collectSum finishCollection
  dsimp only
  repeat' split
  all_goals rfl

@[simp] theorem guardCollection_traces (s : State) : (guardCollection s).traces = s.traces := by
  obtain ⟨c, r, h⟩ := guardCollection_eq s
  rw [h]

@[simp] theorem abandonCollection_traces (s : State) : (abandonCollection s).traces = s.traces := by
  unfold abandonCollection; split <;> rfl

/-! ## The Certificate Unit: a job's end clears the print holds of its record (R172) -/

theorem blocksKept_restartRecord (k : Nat) (s : State) : BlocksKept s (restartRecord k s) := by
  unfold restartRecord
  split
  · exact blocksKept_removeRecord _ _ s
  · exact .of_traces rfl

theorem blocksKept_closeJob (j : Job) (o : JobOutcome) (c : Option JobCause) (r : Bool) (s : State) :
    BlocksKept s (closeJob j o c r s) := by
  unfold closeJob
  extract_lets s1 s2 s3 s4 s5
  have h2 : BlocksKept s s2 := .of_traces rfl
  have h3 : BlocksKept s2 s3 := by
    unfold s3
    split
    · exact .refl s2
    · exact blocksKept_retryBinding s2
  have h5 : BlocksKept s s5 := (h2.trans h3).trans ((blocksKept_clearPrintHolds _ s3).trans (.of_traces rfl))
  split
  · exact h5.trans (blocksKept_restartRecord _ s5)
  · exact h5

theorem blocksKept_numberHead (n : Nat) (s : State) : BlocksKept s (numberHead n s) := by
  induction n generalizing s with
  | zero => exact .refl s
  | succ n ih =>
    unfold numberHead
    split
    · exact .refl s
    · split
      · exact .refl s
      · split
        · exact (blocksKept_closeJob _ _ _ _ s).trans (ih _)
        · exact .of_traces rfl

theorem blocksKept_endJob (j : Job) (o : JobOutcome) (c : Option JobCause) (s : State) : BlocksKept s (endJob j o c s) :=
  (blocksKept_closeJob j o c false s).trans (blocksKept_numberHead 5 _)

theorem blocksKept_numberFixed (v : Nat) (s : State) : BlocksKept s (numberFixed v s) := by
  unfold numberFixed
  split
  · exact .refl s
  · split
    · exact .refl s
    · dsimp only
      split
      · exact blocksKept_endJob _ _ _ s
      · exact .of_traces rfl

theorem blocksKept_commitFailed (s : State) : BlocksKept s (commitFailed s) := by
  unfold commitFailed
  split
  · exact .refl s
  · split
    · exact .refl s
    · split <;> exact blocksKept_endJob _ _ _ s

theorem blocksKept_pumpWrites (n : Nat) (s : State) : BlocksKept s (pumpWrites n s) := by
  induction n generalizing s with
  | zero => exact .refl s
  | succ n ih =>
    unfold pumpWrites
    split
    · exact (BlocksKept.of_traces (t := noticeStoreFault _ _ (s.onCal _)) rfl).trans
        ((blocksKept_commitFailed _).trans (ih _))
    · exact .of_traces rfl

theorem blocksKept_finishWrite {o : WriteOutcome} {s t : State} (h : finishWrite o s = .next t) : BlocksKept s t := by
  unfold finishWrite at h
  split at h
  · cases h; exact .refl s
  · cases h
  · next e w s1 he =>
    have h1 : BlocksKept s s1 := .of_traces (endWrite_traces he)
    split at h
    · split at h <;> cases h
      · exact h1.trans (blocksKept_numberFixed _ _)
      · exact h1.trans (blocksKept_commitFailed _)
    · cases h; exact h1

theorem blocksKept_certAbort (k : Nat) (s : State) : BlocksKept s (certAbort k s).state := by
  unfold certAbort
  split
  · exact .refl s
  split
  · exact .refl s
  split
  · exact .refl s
  split
  · exact .refl s
  refine BlocksKept.trans ?_ (blocksKept_endJob _ _ _ _)
  split <;> exact .of_traces rfl

/-! ## The printer link -/

@[simp] theorem interrupt_traces (s : State) : (interrupt s).traces = s.traces := by
  unfold interrupt; split <;> rfl

@[simp] theorem setLink_traces (l : LinkState) (s : State) : (setLink l s).traces = s.traces := by
  unfold setLink
  dsimp only
  split
  · exact interrupt_traces (rewindVoid (s.onCert _))
  · split <;> rfl

@[simp] theorem takeStatus_traces (c : PrinterCondition) (t : LaneTime) (s : State) :
    (takeStatus c t s).traces = s.traces := by
  unfold takeStatus
  extract_lets l told s1
  have h : s1.traces = s.traces := setLink_traces l (s.onCert _)
  split <;> exact h

@[simp] theorem printerSilent_traces (s : State) : (printerSilent s).traces = s.traces := by
  unfold printerSilent
  split
  · exact setLink_traces .offline (s.onCert _)
  · rfl

@[simp] theorem takeHello_traces (w : Nat) (s : State) : (takeHello w s).traces = s.traces := by
  unfold takeHello
  extract_lets s1
  have h : s1.traces = s.traces := interrupt_traces (rewindVoid (s.onCert _))
  split <;> exact h

theorem blocksKept_completeJob (s : State) : BlocksKept s (completeJob s) := by
  unfold completeJob
  split
  · exact .refl s
  · split
    · exact blocksKept_endJob _ _ _ s
    · exact .refl s

theorem blocksKept_takeCredit (n : Nat) (s : State) : BlocksKept s (takeCredit n s) :=
  (BlocksKept.of_traces (t := s.onCert _) rfl).trans (blocksKept_completeJob _)

theorem blocksKept_takePrinter {m : PrinterMsg} {ok : Bool} {k : LaneTime → State → State} (s : State)
    (h : ∀ t u, BlocksKept u (k t u)) : BlocksKept s (takePrinter m ok k s) := by
  unfold takePrinter
  split
  · split
    · exact (BlocksKept.of_traces (t := s.onCert _) rfl).trans (h _ _)
    · exact .refl s
  · split
    · exact h _ s
    · exact .of_traces rfl

@[simp] theorem beginPrinter_traces (s : State) : (beginPrinter s).traces = s.traces := by
  unfold beginPrinter sendNextOf
  dsimp only
  repeat' split
  all_goals rfl

/-! ## The Host Port and its settings -/

@[simp] theorem takeHostFrame_traces (f : HostFrame) (s : State) : (takeHostFrame f s).traces = s.traces := by
  unfold takeHostFrame bufferFrame
  repeat' split
  all_goals rfl

@[simp] theorem takeRequestFrame_traces (s : State) : (takeRequestFrame s).traces = s.traces := by
  unfold takeRequestFrame
  dsimp only
  repeat' split
  all_goals rfl

/-- R151, R152: DRAIN_LEVEL and the host hold of new traces are no part of the law. -/
theorem blocksKept_storeSetting (s : State) (e : Nat × Nat) : BlocksKept s (storeSetting s e) := by
  unfold storeSetting
  split
  case h_15 | h_16 => exact .of_balanced fun h => h.settings _ _ _ _
  all_goals exact .of_traces rfl

theorem blocksKept_applyConfig (es : List (Nat × Nat)) (s : State) : BlocksKept s (applyConfig es s) := by
  unfold applyConfig
  extract_lets s1 s2 s3
  have h1 : BlocksKept s s1 := blocksKept_foldl blocksKept_storeSetting es s
  have h2 : BlocksKept s1 s2 := by
    unfold s2; split <;> exact .of_traces rfl
  have h3 : BlocksKept s2 s3 := by
    unfold s3
    split
    · exact blocksKept_setAgeLimit _ s2
    · exact .refl s2
  have h4 : (drainLowered s.traces.drainLevel s3).traces = s3.traces := by
    unfold drainLowered; dsimp only; split <;> rfl
  exact (h1.trans h2).trans (h3.trans (.of_traces ((applyFilter_traces _).trans h4)))

/-! ## RESTART (R26, R157, R197) -/

theorem blocksKept_restartJob (s : State) (j : Job) : BlocksKept s (restartJob s j) := by
  unfold restartJob
  split
  · exact .of_traces rfl
  · refine BlocksKept.trans ?_ (blocksKept_closeJob _ _ _ _ _)
    split <;> exact .of_traces rfl
  all_goals exact blocksKept_closeJob _ _ _ _ s

theorem blocksKept_restartJobs (s : State) : BlocksKept s (restartJobs s) := blocksKept_foldl blocksKept_restartJob _ s

@[simp] theorem restartRecords_traces (s : State) : (restartRecords s).traces = s.traces := rfl
@[simp] theorem emptyLane_traces (s : State) : (emptyLane s).traces = s.traces := rfl
@[simp] theorem restartSignals_traces (s : State) : (restartSignals s).traces = s.traces := rfl
@[simp] theorem restartPort_traces (s : State) : (restartPort s).traces = s.traces := rfl

theorem blocksKept_laneRestarted (s : State) : BlocksKept s (laneRestarted s) := by
  have hstations := ((blocksKept_restartJobs s).trans (blocksKept_restartEntry _)).trans (blocksKept_restartBrake _)
  exact ((hstations.trans (.of_traces (emptyLane_traces _))).trans (blocksKept_clearPrintHolds (fun _ => true) _)).trans
    (.of_traces (restartRecords_traces _))

theorem blocksKept_restartPart (s : State) : BlocksKept s (restartPart s) := by
  have hlinks : BlocksKept (laneRestarted s) (restartPedal (restartSignals (laneRestarted s))) :=
    .of_traces ((restartPedal_traces _).trans (restartSignals_traces _))
  exact ((blocksKept_laneRestarted s).trans hlinks).trans
    ((blocksKept_restartGuidance _).trans (.of_traces (restartPort_traces _)))

end Sys2Proof.Machine
end

section
/-! SUPPORT. The law of the Trace Store under the host requests, under what follows an event and under every command; O59. -/

namespace Sys2Proof.Machine

/-! ## Requests that leave the Trace Store alone -/

@[simp] theorem getStatus_traces (n : Nat) (s : State) : (getStatus n s).state.traces = s.traces := by
  unfold getStatus; split <;> rfl

@[simp] theorem setClock_traces (y mo d h mi sec : Nat) (s : State) :
    (setClock y mo d h mi sec s).state.traces = s.traces := by
  unfold setClock; split <;> rfl

@[simp] theorem setChannels_traces (as : List (Nat × Nat)) (s : State) :
    (setChannels as s).state.traces = s.traces := by
  have h : (setChannelTable as s).state.traces = s.traces := by
    unfold setChannelTable
    repeat' split
    all_goals rfl
  unfold setChannels
  dsimp only
  split
  · exact (abandonCollection_traces _).trans h
  · exact h

@[simp] theorem setLines_traces (es : List RawLine) (s : State) : (setLines es s).state.traces = s.traces := by
  unfold setLines
  dsimp only
  repeat' split
  all_goals rfl

@[simp] theorem loadClass_traces (c l : Nat) (f : Option RawClass) (s : State) :
    (loadClass c l f s).state.traces = s.traces := by
  unfold loadClass
  repeat' split
  all_goals rfl

@[simp] theorem loadProgram_traces (p u : Nat) (c : Option RawProgram) (s : State) :
    (loadProgram p u c s).state.traces = s.traces := by
  unfold loadProgram
  repeat' split
  all_goals rfl

@[simp] theorem setLive_traces (n d : Nat) (s : State) : (setLive n d s).state.traces = s.traces := by
  unfold setLive
  repeat' split
  all_goals rfl

@[simp] theorem bookVehicle_traces (id : Text) (c : Nat) (e : Option Nat) (p : List Nat) (s : State) :
    (bookVehicle id c e p s).state.traces = s.traces := by
  unfold bookVehicle
  repeat' split
  all_goals rfl

theorem traceList_state (sel start : Nat) (s : State) : (traceList sel start s).state = s := by
  unfold traceList; dsimp only; split <;> rfl

theorem traceRead_state (id first n : Nat) (s : State) : (traceRead id first n s).state = s := by
  unfold traceRead
  repeat' split
  all_goals rfl

theorem certList_state (s : State) : (certList s).state = s := by
  unfold certList; split <;> rfl

/-! ## Requests of the calibration store (R178, R183, R184, R186) -/

theorem whenLoaded_traces {h : Handled} {s : State} (hh : h.state.traces = s.traces) :
    (whenLoaded s h).state.traces = s.traces := by
  unfold whenLoaded
  split
  · rfl
  · exact hh

@[simp] theorem calRead_traces (n : Nat) (c : Option Nat) (s : State) :
    (calRead n c s).state.traces = s.traces := by
  refine whenLoaded_traces ?_
  repeat' split
  all_goals rfl

@[simp] theorem calWrite_traces (n : Nat) (c : Option Nat) (r : RawCal) (s : State) :
    (calWrite n c r s).state.traces = s.traces := by
  refine whenLoaded_traces ?_
  repeat' split
  all_goals rfl

@[simp] theorem beginCollection_traces (n t : Nat) (k : CollectionKind) (s : State) :
    (beginCollection n t k s).state.traces = s.traces := by
  unfold beginCollection; split <;> rfl

@[simp] theorem calZero_traces (t n : Nat) (s : State) : (calZero t n s).state.traces = s.traces := by
  refine whenLoaded_traces ?_
  split
  · rfl
  · exact beginCollection_traces _ _ _ s

@[simp] theorem calSpan_traces (t n r : Nat) (s : State) :
    (calSpan t n r s).state.traces = s.traces := by
  refine whenLoaded_traces ?_
  split
  · rfl
  · split
    · rfl
    · exact beginCollection_traces _ _ _ s

@[simp] theorem setCounter_traces (v : Nat) (s : State) : (setCounter v s).state.traces = s.traces := by
  refine whenLoaded_traces ?_
  repeat' split
  all_goals rfl

/-! ## Requests on a slot (R7, R9 to R11, R18) and on settings (R196) -/

theorem blocksKept_withSlot {k : Nat} {s : State} {f : Record → Handled} (h : BlocksKept s (f (s.record k)).state) :
    BlocksKept s (withSlot k s f).state := by
  rcases withSlot_cases k s f with ⟨st, e⟩ | ⟨-, -, e⟩ <;> rw [e]
  · exact .refl s
  · exact h

theorem blocksKept_armVehicle (o : Option Nat) (s : State) : BlocksKept s (armVehicle o s).state := by
  unfold armVehicle
  split
  · exact .of_traces (disarm_traces s)
  · refine blocksKept_withSlot ?_
    split
    · exact .refl s
    · exact .of_traces (disarm_traces s)

theorem blocksKept_bindVehicle (k : Nat) (id : Text) (c : Option Nat) (s : State) :
    BlocksKept s (bindVehicle k id c s).state := by
  unfold bindVehicle
  refine blocksKept_withSlot ?_
  repeat' split
  all_goals exact .of_traces rfl

theorem blocksKept_discardVehicle (k : Nat) (s : State) : BlocksKept s (discardVehicle k s).state := by
  unfold discardVehicle
  refine blocksKept_withSlot ?_
  split
  · exact .refl s
  · exact blocksKept_removeRecord _ _ s

theorem blocksKept_getVehicle (k : Nat) (s : State) : BlocksKept s (getVehicle k s).state := by
  unfold getVehicle
  exact blocksKept_withSlot (.of_traces rfl)

theorem blocksKept_setConfig (es : List (Nat × Nat)) (s : State) : BlocksKept s (setConfig es s).state := by
  unfold setConfig
  repeat' split
  case isFalse.isFalse.isFalse.isFalse.isFalse => exact blocksKept_applyConfig es s
  all_goals exact .refl s

theorem blocksKept_certQueue (k : Nat) (hs : List RawHeader) (s : State) : BlocksKept s (certQueue k hs s).state := by
  have admitted : ∀ f g, BlocksKept s (numberHead 5 (modRec k f (s.onCert g))) := fun f g =>
    (BlocksKept.of_traces (t := modRec k f (s.onCert g)) rfl).trans (blocksKept_numberHead 5 _)
  unfold certQueue
  dsimp only
  repeat' split
  case h_2.isFalse.isFalse.isFalse.isFalse => exact admitted _ _
  all_goals exact .refl s

/-! ## Requests on traces (R142, R155) -/

/-- R155: the host's hold is no block, and what has lost its last hold is freed. -/
theorem blocksKept_traceRelease (id : Nat) (s : State) : BlocksKept s (traceRelease id s).state := by
  unfold traceRelease
  repeat' split
  case h_2.isFalse =>
    refine .of_balanced fun h => ?_
    have hm : (s.traces.modify id fun d => { d with hostHold := false }).Balanced :=
      h.modified (fun _ => rfl) (fun _ _ => rfl)
    exact (hm.settings _ _ _ _).swept
  all_goals exact .refl s

theorem blocksKept_setPartitions (b e : Nat) (s : State) : BlocksKept s (setPartitions b e s).state := by
  unfold setPartitions
  split
  · exact .refl s
  · next hfit =>
    split
    · exact .refl s
    · next hbusy =>
      simp only [Bool.or_eq_true, decide_eq_true_eq, not_or, Nat.not_lt] at hfit
      simp only [Bool.or_eq_true, Bool.and_eq_true, bne_iff_ne, not_or, not_and_or, not_not, Bool.not_eq_true] at hbusy
      exact .of_balanced fun h => h.resized hfit.2 hbusy.1 hbusy.2

/-! ## Settling and answers -/

theorem blocksKept_settle (s : State) : BlocksKept s (settle s) := by
  have head : ∀ u, BlocksKept u (settleHead u) := fun u => (followed_settleHead u).blocksKept
  have retry : ∀ u, BlocksKept u (settleRetry u) := fun u => by
    unfold settleRetry
    split
    · exact (BlocksKept.of_traces (t := u.onWork _) rfl).trans (blocksKept_retryBinding _)
    · exact .refl u
  have guidance : ∀ u, BlocksKept u (settleGuidance u) := fun u =>
    (BlocksKept.of_traces (t := u.onWork _) rfl).trans (guideOnly_settleGuidance u).blocksKept
  have writes : BlocksKept s (settleWrites s) := blocksKept_pumpWrites _ s
  have table := ((writes.trans (head _)).trans (retry _)).trans (head _)
  have station := table.trans (followed_settleRematch _).blocksKept
  exact (station.trans (.of_traces (guardCollection_traces _))).trans (guidance _)

theorem blocksKept_finish {s u t : State} (hf : finish u = .next t) (h : BlocksKept s u) : BlocksKept s t := by
  cases hf
  exact h.trans (blocksKept_settle u)

theorem blocksKept_finish_still {s u t : State} (hf : finish u = .next t) (h : u.traces = s.traces) : BlocksKept s t :=
  blocksKept_finish hf (.of_traces h)

theorem blocksKept_finishWrites {s t : State} {o : WriteOutcome} (h : finishOut (finishWrite o s) = .next t) :
    BlocksKept s t := by
  cases hw : finishWrite o s with
  | next u => rw [hw] at h; exact blocksKept_finish h (blocksKept_finishWrite hw)
  | fault f => rw [hw] at h; cases h
  | refused r => rw [hw] at h; cases h

theorem blocksKept_answer (i : Instr) (k t : Nat) {op : State → Handled} (s : State)
    (h : ∀ u, BlocksKept u (op u).state) : BlocksKept s (answer i k t op s) := by
  unfold answer
  split
  · have owner : BlocksKept s (atOwner i s) := .of_traces (by rw [atOwner_eq])
    refine (owner.trans (h _)).trans (.of_traces ?_)
    unfold postAnswer
    split <;> rfl
  · exact .refl s

theorem blocksKept_answer_still (i : Instr) (k t : Nat) {op : State → Handled} (s : State)
    (h : ∀ u, (op u).state.traces = u.traces) : BlocksKept s (answer i k t op s) :=
  blocksKept_answer i k t s fun u => .of_traces (h u)

theorem blocksKept_onEdge (f : LineFn) (b : Bool) {k : LaneTime → State → State} (s : State)
    (h : ∀ t u, BlocksKept u (k t u)) : BlocksKept s (onEdge f b k s) := by
  unfold onEdge
  split
  · next t u he => exact (BlocksKept.of_traces (by rw [takeEdge_eq he])).trans (h t u)
  · exact .refl s

theorem blocksKept_onRequest (r : StationRequest) {k : State → State} (s : State) (h : ∀ u, BlocksKept u (k u)) :
    BlocksKept s (onRequest r k s) := by
  unfold onRequest
  split
  · next u hu => exact (BlocksKept.of_traces (takeRequest_traces hu)).trans (h u)
  · exact .refl s

theorem blocksKept_exitCleared (s : State) : BlocksKept s (exitCleared s) := by
  unfold exitCleared
  split
  · exact .refl s
  · exact (BlocksKept.of_traces (t := s.onVt _) rfl).trans (followed_evaluateLeaving _).blocksKept

theorem blocksKept_expireAge (k : Nat) (s : State) : BlocksKept s (expireAge k s) := by
  unfold expireAge
  dsimp only
  split
  · exact blocksKept_removeRecord _ _ s
  · exact .refl s

/-- R157: a power-on and the reset line leave the Trace Store as reset gives it. -/
theorem blockLaw_resetPart (l : Level) (s : State) : BlockLaw (resetPart l s) := (blockLaw_iff _).mpr balanced_reset

/-! ## Every command -/

/-- Every command keeps the law of the Trace Store. -/
theorem exec_blocksKept (i : Instr) (s t : State) (h : exec i s = .next t) : BlocksKept s t := by
  cases i <;> dsimp only [exec] at h
  case powerOn l => cases h; exact fun _ => blockLaw_resetPart l s
  case resetLine l => cases h; exact fun _ => blockLaw_resetPart l s
  case autoloadEnd l => exact blocksKept_finish_still h (endAutoload_traces l s)
  case laneTimeTick => exact blocksKept_finish_still h rfl
  case clockReferenceAdvance => exact blocksKept_finish_still h rfl
  case conversion vs => exact blocksKept_finish_still h (takeConversion_traces vs s)
  case pulseEdge p => exact blocksKept_finish_still h rfl
  case windowEnd =>
    refine blocksKept_finish_still h ?_
    split
    · exact collectSum_traces (closeWindow s)
    · rfl
  case lineSample l => exact blocksKept_finish_still h rfl
  case entryBarrierActive => exact blocksKept_finish h (blocksKept_onEdge _ _ s fun _ => blocksKept_barrierActive)
  case entryBarrierInactive =>
    exact blocksKept_finish h (blocksKept_onEdge _ _ s fun _ u => .of_traces (barrierInactive_traces u))
  case slipPlateSwitchActive =>
    exact blocksKept_finish h (blocksKept_onEdge _ _ s fun _ u => .of_traces (plateActive_traces u))
  case slipPlateSwitchInactive =>
    exact blocksKept_finish h (blocksKept_onEdge _ _ s fun _ u => .of_traces (plateInactive_traces u))
  case exitBarrierBroken => exact blocksKept_finish h (blocksKept_onEdge _ _ s fun _ _ => .of_traces rfl)
  case exitBarrierClear => exact blocksKept_finish h (blocksKept_onEdge _ _ s fun _ => blocksKept_exitCleared)
  case wheelActive w => exact blocksKept_finish h (blocksKept_onEdge _ _ s fun t u => .of_traces (wheelCame_traces w t u))
  case wheelInactive w => exact blocksKept_finish h (blocksKept_onEdge _ _ s (blocksKept_wheelWent w))
  case driveReadyActive w =>
    exact blocksKept_finish h (blocksKept_onEdge _ _ s fun _ u => .of_traces (driveCame_traces u))
  case driveReadyInactive w => exact blocksKept_finish h (blocksKept_onEdge _ _ s fun _ => blocksKept_driveWent)
  case estopActive => exact blocksKept_finish h (blocksKept_onEdge _ _ s fun _ => blocksKept_enterFault .estop)
  case estopInactive => exact blocksKept_finish h (blocksKept_onEdge _ _ s fun _ => .refl)
  case ageExpiry k => exact blocksKept_finish h (blocksKept_expireAge k s)
  case entryWindowEnd => exact blocksKept_finish h (blocksKept_takeEntryWindow s)
  case settleExpiry => exact blocksKept_finish h (blocksKept_settleExpired s)
  case quietExpiry => exact blocksKept_finish h (blocksKept_quietExpired s)
  case brakeWindowEnd => exact blocksKept_finish h (blocksKept_takeBrakeWindow s)
  case presenceExpiry => exact blocksKept_finish h (blocksKept_presenceExpired s)
  case spinUpExpiry => exact blocksKept_finish h (blocksKept_spinUpExpired s)
  case brakingExpiry => exact blocksKept_finish h (blocksKept_brakingExpired s)
  case stopExpiry => exact blocksKept_finish h (blocksKept_stopExpired s)
  case clearExpiry => exact blocksKept_finish h (blocksKept_clearExpired s)
  case markParking => exact blocksKept_finish h (blocksKept_onRequest _ s fun u => .of_traces (markParking_traces u))
  case endAxle => exact blocksKept_finish h (blocksKept_onRequest _ s blocksKept_endAxle)
  case guidanceSkipAxle => exact blocksKept_finish h (blocksKept_onRequest _ s blocksKept_guidanceSkip)
  case guidanceReleaseVehicle => exact blocksKept_finish h (blocksKept_onRequest _ s blocksKept_guidanceRelease)
  case pedalByte b ok n => exact blocksKept_finish_still h rfl
  case pedalFrame b => exact blocksKept_finish h (blocksKept_takePedalFrame b s)
  case pedalSilenceExpiry => exact blocksKept_finish_still h (pedalSilent_traces s)
  case stepTimeout st => exact blocksKept_finish h (blocksKept_stepTimedOut st s)
  case showRefresh st => exact blocksKept_finish_still h (refreshShow_traces st s)
  case promptTransmitBegin => exact blocksKept_finish_still h (beginPrompt_traces s)
  case promptTransmitEnd => exact blocksKept_finish_still h (endPrompt_traces s)
  case printerByte b ok => exact blocksKept_finish_still h rfl
  case hello w => exact blocksKept_finish h (blocksKept_takePrinter s fun _ u => .of_traces (takeHello_traces w u))
  case status c => exact blocksKept_finish h (blocksKept_takePrinter s fun t u => .of_traces (takeStatus_traces c t u))
  case credit n => exact blocksKept_finish h (blocksKept_takePrinter s fun _ => blocksKept_takeCredit n)
  case printerSilenceExpiry => exact blocksKept_finish_still h (printerSilent_traces s)
  case printerTransmitBegin => exact blocksKept_finish_still h (beginPrinter_traces s)
  case printerTransmitEnd => exact blocksKept_finish_still h rfl
  case eepromWriteEnd a => exact blocksKept_finishWrites h
  case eepromAckTimeout =>
    unfold execEepromAckTimeout at h
    split at h
    · exact blocksKept_finishWrites h
    · exact blocksKept_finish_still h rfl
  case ctsChange a => exact blocksKept_finish_still h rfl
  case hostByte b ok => exact blocksKept_finish_still h rfl
  case hostFrameReceived k tag p => exact blocksKept_finish_still h (takeHostFrame_traces _ s)
  case requestTaken => exact blocksKept_finish_still h (takeRequestFrame_traces s)
  case hostTransmitBegin => exact blocksKept_finish_still h rfl
  case hostTransmitEnd => exact blocksKept_finish_still h rfl
  case getStatus tag n => exact blocksKept_finish h (blocksKept_answer_still _ _ _ s (getStatus_traces n))
  case restart tag => exact blocksKept_finish h (blocksKept_answer _ _ _ s blocksKept_restartPart)
  case setClock tag y mo d hh mi sec =>
    exact blocksKept_finish h (blocksKept_answer_still _ _ _ s (setClock_traces y mo d hh mi sec))
  case setConfig tag es => exact blocksKept_finish h (blocksKept_answer _ _ _ s (blocksKept_setConfig es))
  case getConfig tag => exact blocksKept_finish h (blocksKept_answer _ _ _ s .refl)
  case setChannels tag as => exact blocksKept_finish h (blocksKept_answer_still _ _ _ s (setChannels_traces as))
  case setLines tag es => exact blocksKept_finish h (blocksKept_answer_still _ _ _ s (setLines_traces es))
  case loadClass tag c l f => exact blocksKept_finish h (blocksKept_answer_still _ _ _ s (loadClass_traces c l f))
  case loadProgram tag p u c => exact blocksKept_finish h (blocksKept_answer_still _ _ _ s (loadProgram_traces p u c))
  case bookVehicle tag id c e pk =>
    exact blocksKept_finish h (blocksKept_answer_still _ _ _ s (bookVehicle_traces id c e pk))
  case armVehicle tag k => exact blocksKept_finish h (blocksKept_answer _ _ _ s (blocksKept_armVehicle k))
  case bindVehicle tag k id c => exact blocksKept_finish h (blocksKept_answer _ _ _ s (blocksKept_bindVehicle k id c))
  case discardVehicle tag k => exact blocksKept_finish h (blocksKept_answer _ _ _ s (blocksKept_discardVehicle k))
  case getVehicle tag k => exact blocksKept_finish h (blocksKept_answer _ _ _ s (blocksKept_getVehicle k))
  case listLane tag => exact blocksKept_finish h (blocksKept_answer _ _ _ s .refl)
  case skipAxle tag => exact blocksKept_finish h (blocksKept_answer _ _ _ s blocksKept_hostSkip)
  case releaseVehicle tag => exact blocksKept_finish h (blocksKept_answer _ _ _ s blocksKept_hostRelease)
  case ackFault tag => exact blocksKept_finish h (blocksKept_answer _ _ _ s blocksKept_ackFault)
  case setLive tag n d => exact blocksKept_finish h (blocksKept_answer_still _ _ _ s (setLive_traces n d))
  case traceList tag n f =>
    exact blocksKept_finish h (blocksKept_answer_still _ _ _ s fun u => congrArg State.traces (traceList_state n f u))
  case traceRead tag i f n =>
    exact blocksKept_finish h (blocksKept_answer_still _ _ _ s fun u => congrArg State.traces (traceRead_state i f n u))
  case traceRelease tag i => exact blocksKept_finish h (blocksKept_answer _ _ _ s (blocksKept_traceRelease i))
  case setPartitions tag b e => exact blocksKept_finish h (blocksKept_answer _ _ _ s (blocksKept_setPartitions b e))
  case certQueue tag k hs => exact blocksKept_finish h (blocksKept_answer _ _ _ s (blocksKept_certQueue k hs))
  case certAbort tag k => exact blocksKept_finish h (blocksKept_answer _ _ _ s (blocksKept_certAbort k))
  case certList tag =>
    exact blocksKept_finish h (blocksKept_answer_still _ _ _ s fun u => congrArg State.traces (certList_state u))
  case calRead tag n c => exact blocksKept_finish h (blocksKept_answer_still _ _ _ s (calRead_traces n c))
  case calWrite tag n c r => exact blocksKept_finish h (blocksKept_answer_still _ _ _ s (calWrite_traces n c r))
  case calZero tag n => exact blocksKept_finish h (blocksKept_answer_still _ _ _ s (calZero_traces tag n))
  case calSpan tag n r => exact blocksKept_finish h (blocksKept_answer_still _ _ _ s (calSpan_traces tag n r))
  case setCounter tag v => exact blocksKept_finish h (blocksKept_answer_still _ _ _ s (setCounter_traces v))

/-- Settles O59: blocks move between the free lists, the descriptors and the pool, and every other change of the Trace Store
leaves ids and blocks as they are. -/
theorem everyStepKeepsTheBlocks : Obligations.EveryStepKeepsTheBlocks := by
  intro s t hs h
  unfold step at h
  split at h
  · cases h; exact hs
  · next c rest _ => exact (exec_blocksKept c _ t h : BlocksKept { s with pending := rest } t) hs

end Sys2Proof.Machine
end

section
/-! SUPPORT. TRACE_LIST and TRACE_READ (R153, R154): the selection in order of id, and the answers in their order of checks;
O15. -/

namespace Sys2Proof.Machine

@[simp] theorem atOwner_traces (i : Instr) (s : State) : (atOwner i s).traces = s.traces := by rw [atOwner_eq]

/-! ## The selections of TRACE_LIST (R153) -/

/-- A descriptor whose id is no higher goes before another. -/
abbrev Descriptor.before (a b : Descriptor) : Prop := a.id ≤ b.id

theorem insertById_eq (d : Descriptor) (l : List Descriptor) : insertById d l = l.orderedInsert Descriptor.before d := by
  induction l with
  | nil => rfl
  | cons e l ih => rw [insertById, ih]; rfl

/-- The descriptors by id are the directory sorted. -/
theorem TraceStore.byId_eq (t : TraceStore) : t.byId = t.directory.insertionSort Descriptor.before := by
  unfold byId
  rw [funext fun d => funext (insertById_eq d)]
  rfl

theorem TraceStore.byId_ordered (t : TraceStore) : t.byId.Pairwise Descriptor.before := by
  have : Std.Total Descriptor.before := ⟨fun a b => Nat.le_total a.id b.id⟩
  have : IsTrans Descriptor Descriptor.before := ⟨fun _ _ _ => Nat.le_trans⟩
  rw [byId_eq]
  exact List.pairwise_insertionSort _ _

theorem traceSelection_all (start : Nat) (t : TraceStore) :
    traceSelection 0 start t = t.byId.filter fun d => decide (start ≤ d.id) := rfl

theorem traceSelection_drain (start : Nat) (t : TraceStore) : traceSelection 1 start t = t.drain.filterMap t.find := rfl

/-! ## The answers, check by check -/

theorem traceList_refused {sel start : Nat} {s : State} (h : 1 < sel ∨ (sel = 0 ∧ start = 0)) :
    traceList sel start s = refuse .badField s := if_pos (by simpa using h)

theorem traceList_reports {sel start : Nat} {s : State} (h : ¬ (1 < sel ∨ (sel = 0 ∧ start = 0))) :
    traceList sel start s = acceptWith (.traceList (((traceSelection sel start s.traces).take 32).map Descriptor.summary)
      (decide (32 < (traceSelection sel start s.traces).length))) s := if_neg (by simpa using h)

theorem TraceKind.replyLimit_eq (k : TraceKind) : k.replyLimit = if k = .entry then 160 else 96 := by cases k <;> rfl

section
variable {id first n : Nat} {s : State} {d : Descriptor}

theorem traceRead_zero (h : id = 0 ∨ n = 0) : traceRead id first n s = refuse .badField s := if_pos (by simpa using h)

theorem traceRead_unknown (h : ¬ (id = 0 ∨ n = 0)) (hf : s.traces.find id = none) :
    traceRead id first n s = refuse .noSuch s := by
  unfold traceRead
  rw [if_neg (by simpa using h), hf]

/-- R154: the checks of a trace that lives. -/
theorem traceRead_live (h : ¬ (id = 0 ∨ n = 0)) (hf : s.traces.find id = some d) :
    traceRead id first n s = if d.closed = false then refuse .state s
      else if d.samples.length < first then refuse .badField s
      else acceptWith (.traceRead id first ((d.samples.drop first).take (min n (if d.kind = .entry then 160 else 96)))) s := by
  unfold traceRead
  rw [if_neg (by simpa using h), hf, ← d.kind.replyLimit_eq]
  simp only [Bool.not_eq_true']

end

/-- Settles O15: the directory sorted by id, and each check's answer put into the reply's place. -/
theorem traceReportsAnswerWithoutChange : Obligations.TraceReportsAnswerWithoutChange := by
  intro tag sel start id first n s hc
  refine ⟨⟨?_, ?_, traceSelection_drain start s.traces⟩, fun hr => ?_, fun hr => ?_⟩
  · rw [traceSelection_all, TraceStore.byId_eq]
    exact (List.perm_insertionSort _ _).filter _
  · exact (TraceStore.byId_ordered s.traces).filter _
  · split
    · next h => exact answer_unchanged hc hr (traceList_refused h)
    · next h =>
      refine answer_unchanged hc hr ?_
      rw [traceList_reports h, atOwner_traces]
      rfl
  · split
    · next h => exact answer_unchanged hc hr (traceRead_zero h)
    · next h =>
      cases hf : s.traces.find id with
      | none => exact answer_unchanged hc hr (traceRead_unknown h (by rw [atOwner_traces]; exact hf))
      | some d =>
        have hlive := traceRead_live (first := first) h
          (s := atOwner (.traceRead tag id first n) s) (by rw [atOwner_traces]; exact hf)
        dsimp only
        split
        · next ho => exact answer_unchanged hc hr (hlive.trans (if_pos ho))
        · next ho =>
          rw [if_neg ho] at hlive
          split
          · next hl => exact answer_unchanged hc hr (hlive.trans (if_pos hl))
          · next hl => exact answer_unchanged hc hr (hlive.trans (if_neg hl))

end Sys2Proof.Machine
end

section
/-! SUPPORT. TRACE_RELEASE and SET_PARTITIONS (R142, R150, R155), on a part at rest: O25. -/

namespace Sys2Proof.Machine

/-- R191: on a part at rest an owner that changes no more than the Trace Store leaves that change and its reply. -/
theorem answer_onTraces {i : Instr} {k t : Nat} {op : State → Handled} {s : State} {st : Status} {b : ReplyBody}
    {f : TraceStore → TraceStore} (hc : Calm s) (hr : reachesOwner i s = true)
    (ho : op (atOwner i s) = { reply := some (st, b), state := (atOwner i s).onTraces f }) :
    finish (answer i k t op s) = .next { replyWith i k t st b s with traces := f s.traces } := by
  have hca : Calm ((atOwner i s).onTraces f) := Calm.of_eq (calm_atOwner i s hc) rfl rfl rfl rfl rfl
  rw [answer_next i k t op s st b _ hr ho hca, ← atOwner_traces i s]
  rfl

/-! ## TRACE_RELEASE (R150, R155) -/

/-- R155: the host's hold given up. -/
def Descriptor.letGo (d : Descriptor) : Descriptor := { d with hostHold := false }

/-- R150, R155: the Trace Store once the host has given up a trace. -/
def TraceStore.hostReleased (id : Nat) (t : TraceStore) : TraceStore :=
  TraceStore.sweep { t.modify id Descriptor.letGo with drain := t.drain.filter fun i => i != id }

theorem traceRelease_closed {id : Nat} {d : Descriptor} {s : State} (h0 : id ≠ 0) (hf : s.traces.find id = some d)
    (hc : d.closed = true) : traceRelease id s = accept (s.onTraces (TraceStore.hostReleased id)) := by
  unfold traceRelease
  rw [if_neg (by simpa using h0), hf]
  exact if_neg (by simp [hc])

theorem TraceStore.hostReleased_drain (id : Nat) (t : TraceStore) : id ∉ (t.hostReleased id).drain := by
  unfold hostReleased
  rw [sweep_drain]
  simp

theorem TraceStore.find_letGo {t : TraceStore} {id : Nat} {d : Descriptor} (hf : t.find id = some d) :
    (t.modify id Descriptor.letGo).find id = some d.letGo := find_modify_some hf fun _ => rfl

/-- R150: a trace that the certificate still needs stays, without the host's hold. -/
theorem TraceStore.find_hostReleased_held {t : TraceStore} {id : Nat} {d : Descriptor} (hf : t.find id = some d)
    (hp : d.printHold = true) : (t.hostReleased id).find id = some d.letGo := by
  unfold hostReleased
  exact find_sweep (find_letGo hf) (by simp [Descriptor.unheld, Descriptor.letGo, hp])

/-- R144: a live id names one descriptor. -/
theorem TraceStore.find_unique {t : TraceStore} {id : Nat} {d e : Descriptor} (hn : (t.directory.map Descriptor.id).Nodup)
    (hf : t.find id = some d) (he : e ∈ t.directory) (hid : e.id = id) : e = d :=
  List.inj_on_of_nodup_map hn he (List.mem_of_find?_eq_some hf)
    (hid.trans (eq_of_beq (List.find?_some (p := fun d : Descriptor => d.id == id) hf)).symm)

/-- R150: a trace that nothing holds any more is freed. -/
theorem TraceStore.find_hostReleased_free {t : TraceStore} {id : Nat} {d : Descriptor}
    (hn : (t.directory.map Descriptor.id).Nodup) (hf : t.find id = some d) (hc : d.closed = true)
    (hp : d.printHold = false) : (t.hostReleased id).find id = none := by
  refine List.find?_eq_none.mpr fun x hx hid => ?_
  obtain ⟨hmem, hheld⟩ := List.mem_filter.mp hx
  obtain ⟨e, he, rfl⟩ := List.mem_map.mp hmem
  have hide : e.id = id := by
    have := eq_of_beq hid
    split at this <;> exact this
  have hd := find_unique hn hf he hide
  subst hd
  rw [if_pos (by simpa using hide)] at hheld
  simp [Descriptor.unheld, Descriptor.letGo, hc, hp] at hheld

/-! ## SET_PARTITIONS (R142) -/

section
variable {b e : Nat} {s : State}

theorem setPartitions_tooLarge (h : 32768 < b + e) : setPartitions b e s = refuse .badField s :=
  if_pos (by simp [h])

theorem setPartitions_fits (h : b + e ≤ 32768) : setPartitions b e s =
    if (b ≠ s.traces.brakeSize ∧ Runs.count s.traces.brakeFree < s.traces.brakeSize)
        ∨ (e ≠ s.traces.entrySize ∧ Runs.count s.traces.entryFree < s.traces.entrySize) then refuse .busy s
    else accept (s.onTraces (resizePartitions b e)) := by
  have hfit : ¬ (decide (32768 < b) || decide (32768 < e) || decide (32768 < b + e)) = true := by simp; omega
  unfold setPartitions
  rw [if_neg hfit]
  simp [TraceStore.occupied]

end

/-- Settles O25: the release and the sweep that follows it; the partitions' checks and the sizes asked for. -/
theorem traceRequestsReleaseAndResize : Obligations.TraceRequestsReleaseAndResize := by
  intro tag s hc
  refine ⟨fun id d hr h0 hf hcl hn => ?_, fun b e hr h => ?_, fun b e hr h hbusy => ?_, fun b e hr h hb he => ?_⟩
  · refine ⟨_, answer_onTraces hc hr (traceRelease_closed h0 (by rw [atOwner_traces]; exact hf) hcl), rfl,
      TraceStore.hostReleased_drain id s.traces, fun hp => ?_, fun hp => ?_⟩
    · exact TraceStore.find_hostReleased_free hn hf hcl hp
    · exact ⟨d.letGo, TraceStore.find_hostReleased_held hf hp, rfl, hp⟩
  · exact answer_unchanged hc hr (setPartitions_tooLarge h)
  · refine answer_unchanged hc hr ((setPartitions_fits h).trans (if_pos ?_))
    rw [atOwner_traces]
    exact hbusy
  · refine ⟨_, answer_onTraces hc hr ((setPartitions_fits h).trans (if_neg ?_)), rfl, rfl, rfl, rfl⟩
    rw [atOwner_traces]
    omega

end Sys2Proof.Machine
end

section
/-! SUPPORT. The credit window and the frames outstanding (R164) under the Certificate Unit, the requests and what follows an
event: no operation but HELLO, CREDIT and the beginning of a printer frame touches them. -/

namespace Sys2Proof.Machine

/-! ## What R164 reads of the state -/

/-- The credit window and the frames outstanding. -/
def State.credit (s : State) : Nat × Nat := (s.cert.window, s.cert.outstanding)

/-- What holds of the credit as R164 asks holds still. -/
def CreditKept (s t : State) : Prop := CreditLaw s → CreditLaw t

theorem CreditKept.refl (s : State) : CreditKept s s := id

theorem CreditKept.trans {s t u : State} (h : CreditKept s t) (k : CreditKept t u) : CreditKept s u := k ∘ h

theorem CreditKept.of_credit {s t : State} (h : t.credit = s.credit) : CreditKept s t := by
  obtain ⟨hw, ho⟩ := Prod.mk.inj h
  intro hs
  exact (ho.trans_le hs).trans_eq hw.symm

theorem credit_of_cert {s t : State} (h : t.cert = s.cert) : t.credit = s.credit := by unfold State.credit; rw [h]

theorem cert_of_outside {s t : State} (h : t.outside = s.outside) : t.cert = s.cert :=
  (congrArg State.cert h : t.outside.cert = s.outside.cert)

theorem credit_of_outside {s t : State} (h : t.outside = s.outside) : t.credit = s.credit :=
  credit_of_cert (cert_of_outside h)

theorem credit_foldl {α : Type} {f : State → α → State} (h : ∀ s a, (f s a).credit = s.credit) (l : List α) (s : State) :
    (l.foldl f s).credit = s.credit := by
  induction l generalizing s with
  | nil => rfl
  | cons a l ih => exact (ih _).trans (h s a)

/-! ## Jobs (R160, R161, R172, R173, R176) -/

@[simp] theorem closeJob_credit (j : Job) (o : JobOutcome) (c : Option JobCause) (r : Bool) (s : State) :
    (closeJob j o c r s).credit = s.credit := by
  unfold closeJob
  extract_lets s1 s2 s3 s4 s5
  have h3 : s3.cert = s2.cert := by
    unfold s3
    split
    · rfl
    · exact retryBinding_cert s2
  have h5 : s5.credit = s.credit := (credit_of_cert (t := s5) h3).trans rfl
  split
  · exact (credit_of_outside (restartRecord_outside _ s5)).trans h5
  · exact h5

@[simp] theorem numberHead_credit (n : Nat) (s : State) : (numberHead n s).credit = s.credit := by
  induction n generalizing s with
  | zero => rfl
  | succ n ih =>
    unfold numberHead
    split
    · rfl
    · split
      · rfl
      · split
        · exact (ih _).trans (closeJob_credit _ _ _ _ s)
        · rfl

@[simp] theorem endJob_credit (j : Job) (o : JobOutcome) (c : Option JobCause) (s : State) :
    (endJob j o c s).credit = s.credit := (numberHead_credit 5 _).trans (closeJob_credit j o c false s)

@[simp] theorem numberFixed_credit (v : Nat) (s : State) : (numberFixed v s).credit = s.credit := by
  unfold numberFixed
  split
  · rfl
  · split
    · rfl
    · dsimp only
      split
      · exact endJob_credit _ _ _ s
      · rfl

@[simp] theorem commitFailed_credit (s : State) : (commitFailed s).credit = s.credit := by
  unfold commitFailed
  split
  · rfl
  · split
    · rfl
    · split <;> exact endJob_credit _ _ _ s

@[simp] theorem pumpWrites_credit (n : Nat) (s : State) : (pumpWrites n s).credit = s.credit := by
  induction n generalizing s with
  | zero => rfl
  | succ n ih =>
    unfold pumpWrites
    split
    · exact (ih _).trans (commitFailed_credit (noticeStoreFault _ _ (s.onCal _)))
    · rfl

theorem finishWrite_credit {o : WriteOutcome} {s t : State} (h : finishWrite o s = .next t) : t.credit = s.credit := by
  unfold finishWrite at h
  split at h
  · cases h; rfl
  · cases h
  · next e w s1 he =>
    have h1 : s1.credit = s.credit := credit_of_cert (endWrite_table he).2
    split at h
    · split at h
      · cases h; exact (numberFixed_credit _ s1).trans h1
      · cases h; exact (commitFailed_credit s1).trans h1
    · cases h; exact h1

@[simp] theorem certQueue_credit (k : Nat) (hs : List RawHeader) (s : State) :
    (certQueue k hs s).state.credit = s.credit := by
  have admitted : ∀ f (q : CertUnit → List Job),
      (numberHead 5 (modRec k f (s.onCert fun c => { c with queue := q c }))).credit = s.credit :=
    fun f q => numberHead_credit 5 (modRec k f (s.onCert _))
  unfold certQueue
  dsimp only
  repeat' split
  case h_2.isFalse.isFalse.isFalse.isFalse => exact admitted _ _
  all_goals rfl

@[simp] theorem certAbort_credit (k : Nat) (s : State) : (certAbort k s).state.credit = s.credit := by
  unfold certAbort
  split
  · rfl
  split
  · rfl
  split
  · rfl
  split
  · rfl
  refine (endJob_credit _ _ _ _).trans ?_
  split <;> rfl

@[simp] theorem restartJobs_credit (s : State) : (restartJobs s).credit = s.credit := by
  refine credit_foldl (fun u j => ?_) s.cert.queue s
  unfold restartJob
  split
  · rfl
  · refine (closeJob_credit _ _ _ _ _).trans ?_
    split <;> rfl
  all_goals exact closeJob_credit _ _ _ _ u

/-! ## The printer link (R163, R169) -/

@[simp] theorem interrupt_credit (s : State) : (interrupt s).credit = s.credit := by
  unfold interrupt; split <;> rfl

@[simp] theorem setLink_credit (l : LinkState) (s : State) : (setLink l s).credit = s.credit := by
  unfold setLink
  dsimp only
  split
  · exact interrupt_credit (rewindVoid (s.onCert _))
  · split <;> rfl

@[simp] theorem takeStatus_credit (c : PrinterCondition) (t : LaneTime) (s : State) :
    (takeStatus c t s).credit = s.credit := by
  unfold takeStatus
  extract_lets l told s1
  have h : s1.credit = s.credit := setLink_credit l (s.onCert _)
  split <;> exact h

@[simp] theorem printerSilent_credit (s : State) : (printerSilent s).credit = s.credit := by
  unfold printerSilent
  split
  · exact setLink_credit .offline (s.onCert _)
  · rfl

@[simp] theorem takeByte_credit (b : Byte) (ok : Bool) (s : State) :
    (s.onCert fun c => c.takeByte b ok s.now).credit = s.credit := by
  have hunt : ∀ c : CertUnit, (c.huntByte b ok s.now).window = c.window
      ∧ (c.huntByte b ok s.now).outstanding = c.outstanding := fun c => by
    unfold CertUnit.huntByte; split <;> exact ⟨rfl, rfl⟩
  have full : ∀ (c : CertUnit) bytes, (c.completeFrame bytes s.now).window = c.window
      ∧ (c.completeFrame bytes s.now).outstanding = c.outstanding := fun c bytes => by
    unfold CertUnit.completeFrame; split <;> exact ⟨rfl, rfl⟩
  refine Prod.ext_iff.mpr ?_
  show (s.cert.takeByte b ok s.now).window = s.cert.window ∧ (s.cert.takeByte b ok s.now).outstanding = s.cert.outstanding
  unfold CertUnit.takeByte
  dsimp only
  split
  · exact hunt s.cert
  split
  · exact hunt _
  split
  · exact ⟨rfl, rfl⟩
  split
  · exact ⟨rfl, rfl⟩
  split
  · exact full s.cert _
  · exact ⟨rfl, rfl⟩

/-! ## Requests of the Vehicle Table and the stations (R7 to R11, R18, R21, R24, R81, R84) -/

theorem withSlot_cert {k : Nat} {s : State} {f : Record → Handled} (h : ∀ r, (f r).state.cert = s.cert) :
    (withSlot k s f).state.cert = s.cert := by
  unfold withSlot
  split
  · rfl
  · exact h _

@[simp] theorem loadClass_cert (c l : Nat) (f : Option RawClass) (s : State) : (loadClass c l f s).state.cert = s.cert := by
  unfold loadClass
  split
  · rfl
  · split <;> rfl

@[simp] theorem bookVehicle_cert (id : Text) (c : Nat) (e : Option Nat) (p : List Nat) (s : State) :
    (bookVehicle id c e p s).state.cert = s.cert := by
  unfold bookVehicle
  split
  · rfl
  split
  · rfl
  split
  · rfl
  split <;> rfl

@[simp] theorem disarm_cert (s : State) : (disarm s).cert = s.cert := by unfold disarm; split <;> rfl

@[simp] theorem armVehicle_cert (k : Option Nat) (s : State) : (armVehicle k s).state.cert = s.cert := by
  unfold armVehicle
  split
  · exact disarm_cert s
  · refine withSlot_cert fun r => ?_
    split
    · rfl
    · exact disarm_cert s

@[simp] theorem bindVehicle_cert (k : Nat) (id : Text) (c : Option Nat) (s : State) :
    (bindVehicle k id c s).state.cert = s.cert := by
  refine withSlot_cert fun r => ?_
  repeat' split
  all_goals rfl

@[simp] theorem discardVehicle_cert (k : Nat) (s : State) : (discardVehicle k s).state.cert = s.cert := by
  refine withSlot_cert fun r => ?_
  split
  · rfl
  · exact removeRecord_cert _ _ s

@[simp] theorem getVehicle_cert (k : Nat) (s : State) : (getVehicle k s).state.cert = s.cert := withSlot_cert fun _ => rfl

@[simp] theorem hostSkip_cert (s : State) : (hostSkip s).state.cert = s.cert := by
  unfold hostSkip
  split
  · rfl
  · exact cert_of_outside (skipAxle_outside _ _ _ s)

@[simp] theorem hostRelease_cert (s : State) : (hostRelease s).state.cert = s.cert := by
  unfold hostRelease
  split
  · next hr =>
    have h := guidanceRelease_outside s
    rw [guidanceRelease, if_pos hr] at h
    exact cert_of_outside h
  · rfl

@[simp] theorem ackFault_cert (s : State) : (ackFault s).state.cert = s.cert := by
  unfold ackFault
  split
  · rfl
  · exact cert_of_outside (takeHead_outside _)

/-! ## Settings and RESTART (R196, R26) -/

@[simp] theorem setAgeLimit_cert (n : Nat) (s : State) : (setAgeLimit n s).cert = s.cert := by
  have aged : ∀ (l : List Nat) (u : State), (l.foldl (fun s k =>
      if (s.record k).evictable && aged n (s.record k) s then removeRecord k (some .aged) s else s) u).cert = u.cert := by
    intro l
    induction l with
    | nil => exact fun _ => rfl
    | cons k l ih =>
      intro u
      refine (ih _).trans ?_
      dsimp only
      split
      · exact removeRecord_cert _ _ u
      · rfl
  unfold setAgeLimit
  dsimp only
  split
  · rfl
  · split
    · rfl
    · exact aged _ _

theorem storeSetting_credit (s : State) (e : Nat × Nat) : (storeSetting s e).credit = s.credit := by
  unfold storeSetting; split <;> rfl

@[simp] theorem applyConfig_credit (es : List (Nat × Nat)) (s : State) : (applyConfig es s).credit = s.credit := by
  unfold applyConfig
  extract_lets s1 s2 s3
  have h1 : s1.credit = s.credit := credit_foldl storeSetting_credit es s
  have h2 : s2.credit = s1.credit := by unfold s2; split <;> rfl
  have h3 : s3.credit = s2.credit := by
    unfold s3
    split
    · exact credit_of_cert (setAgeLimit_cert _ s2)
    · rfl
  have h4 : (applyFilter (drainLowered s.traces.drainLevel s3)).credit = s3.credit :=
    credit_of_cert ((applyFilter_table _).2.trans (drainLowered_table _ s3).2)
  exact ((h4.trans h3).trans h2).trans h1

@[simp] theorem setConfig_credit (es : List (Nat × Nat)) (s : State) : (setConfig es s).state.credit = s.credit := by
  unfold setConfig
  repeat' split
  case isFalse.isFalse.isFalse.isFalse.isFalse => exact applyConfig_credit es s
  all_goals rfl

@[simp] theorem restartPart_credit (s : State) : (restartPart s).credit = s.credit := by
  have hlane := (laneRestarted_table s).1
  have hsignals := (restartSignals_table (laneRestarted s)).2.trans hlane
  have hpedal := (restartPedal_table (restartSignals (laneRestarted s))).2.trans hsignals
  have hguide := (restartGuidance_table (restartPedal (restartSignals (laneRestarted s)))).2.trans hpedal
  exact (credit_of_cert (t := restartPart s) ((restartPort_table _).2.trans hguide)).trans (restartJobs_credit s)

/-! ## What follows an event, and answers -/

@[simp] theorem settle_credit (s : State) : (settle s).credit = s.credit :=
  (credit_of_outside (settle_outside s)).trans (pumpWrites_credit _ s)

theorem answer_credit (i : Instr) (k t : Nat) {op : State → Handled} (s : State)
    (h : ∀ u, (op u).state.credit = u.credit) : (answer i k t op s).credit = s.credit := by
  unfold answer
  split
  · refine Eq.trans ?_ ((h (atOwner i s)).trans (credit_of_cert (atOwner_table i s).2))
    unfold postAnswer
    split <;> rfl
  · rfl

theorem answer_credit_of_cert (i : Instr) (k t : Nat) {op : State → Handled} (s : State)
    (h : ∀ u, (op u).state.cert = u.cert) : (answer i k t op s).credit = s.credit :=
  answer_credit i k t s fun u => credit_of_cert (h u)

end Sys2Proof.Machine
end

section
/-! SUPPORT. The credit law (R164) under every command, and O56. -/

namespace Sys2Proof.Machine

/-! ## The three operations that move the credit (R164) -/

/-- R164: HELLO starts the credit anew, with no frame outstanding. -/
theorem takeHello_credit (w : Nat) (s : State) : (takeHello w s).credit = (w, 0) := by
  unfold takeHello
  extract_lets s1
  have h : s1.credit = (w, 0) := interrupt_credit (rewindVoid (s.onCert _))
  split <;> exact h

/-- R164: CREDIT gives frames back. -/
theorem takeCredit_credit (n : Nat) (s : State) :
    (takeCredit n s).credit = (s.cert.window, s.cert.outstanding - n) := by
  unfold takeCredit completeJob
  split
  · rfl
  · split
    · exact endJob_credit _ _ _ (s.onCert _)
    · rfl

/-- R164: a frame begins only while fewer are outstanding than the window allows. -/
theorem creditKept_beginPrinter (s : State) : CreditKept s (beginPrinter s) := by
  unfold beginPrinter
  dsimp only
  split
  · exact .refl s
  · next hgo =>
    have hroom : s.cert.outstanding + 1 ≤ s.cert.window := by
      simp only [Bool.or_eq_true, decide_eq_true_eq, not_or, Nat.not_le] at hgo
      exact hgo.2
    have sent : ∀ f n strip, CreditKept s (sendJobFrame f n strip s) := fun f n strip _ => hroom
    split
    · exact fun _ => hroom
    · exact fun _ => hroom
    · split
      · exact .refl s
      · split
        · unfold sendNextOf
          split
          · exact sent _ _ _
          · split
            · exact .refl s
            · exact sent _ _ _
            · exact sent _ _ _
        · exact .refl s

theorem creditKept_takePrinter {m : PrinterMsg} {ok : Bool} {k : LaneTime → State → State} (s : State)
    (h : ∀ t u, CreditKept u (k t u)) : CreditKept s (takePrinter m ok k s) := by
  unfold takePrinter
  split
  · split
    · next rest _ _ => exact (h _ (s.onCert fun c => { c with inbox := rest }) :)
    · exact .refl s
  · split
    · exact h _ s
    · exact .of_credit rfl

/-! ## Every command -/

theorem creditKept_finish {s u t : State} (hf : finish u = .next t) (h : CreditKept s u) : CreditKept s t := by
  cases hf
  exact h.trans (.of_credit (settle_credit u))

theorem creditKept_finish_same {s u t : State} (hf : finish u = .next t) (h : u.credit = s.credit) : CreditKept s t :=
  creditKept_finish hf (.of_credit h)

/-- A command that leaves the Certificate Unit to others. -/
theorem creditKept_finish_cert {s u t : State} (hf : finish u = .next t) (h : u.cert = s.cert) : CreditKept s t :=
  creditKept_finish_same hf (credit_of_cert h)

theorem creditKept_finishWrites {s t : State} {o : WriteOutcome} (h : finishOut (finishWrite o s) = .next t) :
    CreditKept s t := by
  cases hw : finishWrite o s with
  | next u => rw [hw] at h; exact creditKept_finish_same h (finishWrite_credit hw)
  | fault f => rw [hw] at h; cases h
  | refused r => rw [hw] at h; cases h

/-- The events of the stations and of the Vehicle Table leave the Certificate Unit alone. -/
theorem creditKept_stationEvent {i : Instr} {s t : State} (hi : i ∈ stationEvents) (h : exec i s = .next t) :
    CreditKept s t := by
  obtain ⟨u, hu, hout⟩ := stationEvent_effect s hi
  rw [hu] at h
  exact creditKept_finish_same h (credit_of_outside hout)

/-- Every command keeps the credit law. -/
theorem exec_creditKept (i : Instr) (s t : State) (h : exec i s = .next t) : CreditKept s t := by
  by_cases hi : i ∈ stationEvents
  · exact creditKept_stationEvent hi h
  cases i <;> dsimp only [exec] at h
  case powerOn | resetLine => cases h; exact fun _ => Nat.le_refl 0
  case autoloadEnd l => exact creditKept_finish_cert h (endAutoload_table l s).2
  case laneTimeTick | clockReferenceAdvance | pulseEdge | pedalByte => exact creditKept_finish_cert h rfl
  case conversion vs => exact creditKept_finish_cert h (takeConversion_table vs s).2
  case windowEnd =>
    refine creditKept_finish_cert h ?_
    split
    · exact (collectSum_table (closeWindow s)).2
    · rfl
  case lineSample l => exact creditKept_finish_cert h (takeLineSample_table l s).2
  case ageExpiry k => exact creditKept_finish_same h (credit_of_outside (expireAge_outside k s))
  case pedalFrame b => exact creditKept_finish_cert h (takePedalFrame_table b s).2
  case pedalSilenceExpiry => exact creditKept_finish_cert h (pedalSilent_table s).2
  case stepTimeout st => exact creditKept_finish_cert h (stepTimedOut_table st s).2
  case showRefresh st => exact creditKept_finish_cert h (refreshShow_table st s).2
  case promptTransmitBegin => exact creditKept_finish_cert h (beginPrompt_table s).2
  case promptTransmitEnd => exact creditKept_finish_cert h (endPrompt_table s).2
  case printerByte b ok => exact creditKept_finish_same h (takeByte_credit b ok s)
  case hello w =>
    refine creditKept_finish h (creditKept_takePrinter s fun _ u _ => ?_)
    obtain ⟨hw, ho⟩ := Prod.mk.inj (takeHello_credit w u)
    exact ho.trans_le (Nat.zero_le _)
  case status c => exact creditKept_finish h (creditKept_takePrinter s fun t u => .of_credit (takeStatus_credit c t u))
  case credit n =>
    refine creditKept_finish h (creditKept_takePrinter s fun _ u hu => ?_)
    obtain ⟨hw, ho⟩ := Prod.mk.inj (takeCredit_credit n u)
    exact (ho.trans_le ((Nat.sub_le _ _).trans hu)).trans_eq hw.symm
  case printerSilenceExpiry => exact creditKept_finish_same h (printerSilent_credit s)
  case printerTransmitBegin => exact creditKept_finish h (creditKept_beginPrinter s)
  case printerTransmitEnd => exact creditKept_finish_same h rfl
  case eepromWriteEnd a => exact creditKept_finishWrites h
  case eepromAckTimeout =>
    unfold execEepromAckTimeout at h
    split at h
    · exact creditKept_finishWrites h
    · exact creditKept_finish_cert h rfl
  case ctsChange | hostByte | hostTransmitBegin | hostTransmitEnd => exact creditKept_finish_cert h rfl
  case hostFrameReceived k tag p => exact creditKept_finish_cert h (takeHostFrame_table _ s).2
  case requestTaken => exact creditKept_finish_cert h (takeRequestFrame_table s).2
  case getStatus tag n => exact creditKept_finish_same h (answer_credit_of_cert _ _ _ s fun u => (getStatus_table n u).2)
  case restart tag => exact creditKept_finish_same h (answer_credit _ _ _ s restartPart_credit)
  case setClock tag y mo d hh mi sec =>
    exact creditKept_finish_same h (answer_credit_of_cert _ _ _ s fun u => (setClock_table y mo d hh mi sec u).2)
  case setConfig tag es => exact creditKept_finish_same h (answer_credit _ _ _ s (setConfig_credit es))
  case getConfig tag => exact creditKept_finish_same h (answer_credit_of_cert _ _ _ s fun _ => rfl)
  case setChannels tag as =>
    exact creditKept_finish_same h (answer_credit_of_cert _ _ _ s fun u => (setChannels_table as u).2)
  case setLines tag es => exact creditKept_finish_same h (answer_credit_of_cert _ _ _ s fun u => (setLines_table es u).2)
  case loadClass tag c l f => exact creditKept_finish_same h (answer_credit_of_cert _ _ _ s (loadClass_cert c l f))
  case loadProgram tag p u c =>
    exact creditKept_finish_same h (answer_credit_of_cert _ _ _ s fun v => (loadProgram_table p u c v).2)
  case bookVehicle tag id c e pk =>
    exact creditKept_finish_same h (answer_credit_of_cert _ _ _ s (bookVehicle_cert id c e pk))
  case armVehicle tag k => exact creditKept_finish_same h (answer_credit_of_cert _ _ _ s (armVehicle_cert k))
  case bindVehicle tag k id c => exact creditKept_finish_same h (answer_credit_of_cert _ _ _ s (bindVehicle_cert k id c))
  case discardVehicle tag k => exact creditKept_finish_same h (answer_credit_of_cert _ _ _ s (discardVehicle_cert k))
  case getVehicle tag k => exact creditKept_finish_same h (answer_credit_of_cert _ _ _ s (getVehicle_cert k))
  case listLane tag => exact creditKept_finish_same h (answer_credit_of_cert _ _ _ s fun _ => rfl)
  case skipAxle tag => exact creditKept_finish_same h (answer_credit_of_cert _ _ _ s hostSkip_cert)
  case releaseVehicle tag => exact creditKept_finish_same h (answer_credit_of_cert _ _ _ s hostRelease_cert)
  case ackFault tag => exact creditKept_finish_same h (answer_credit_of_cert _ _ _ s ackFault_cert)
  case setLive tag n d => exact creditKept_finish_same h (answer_credit_of_cert _ _ _ s fun u => (setLive_table n d u).2)
  case traceList tag n f =>
    exact creditKept_finish_same h (answer_credit_of_cert _ _ _ s fun u => (traceList_table n f u).2)
  case traceRead tag i f n =>
    exact creditKept_finish_same h (answer_credit_of_cert _ _ _ s fun u => (traceRead_table i f n u).2)
  case traceRelease tag i =>
    exact creditKept_finish_same h (answer_credit_of_cert _ _ _ s fun u => (traceRelease_table i u).2)
  case setPartitions tag b e =>
    exact creditKept_finish_same h (answer_credit_of_cert _ _ _ s fun u => (setPartitions_table b e u).2)
  case certQueue tag k hs => exact creditKept_finish_same h (answer_credit _ _ _ s (certQueue_credit k hs))
  case certAbort tag k => exact creditKept_finish_same h (answer_credit _ _ _ s (certAbort_credit k))
  case certList tag => exact creditKept_finish_same h (answer_credit_of_cert _ _ _ s fun u => (certList_table u).2)
  case calRead tag n c => exact creditKept_finish_same h (answer_credit_of_cert _ _ _ s fun u => (calRead_table n c u).2)
  case calWrite tag n c r =>
    exact creditKept_finish_same h (answer_credit_of_cert _ _ _ s fun u => (calWrite_table n c r u).2)
  case calZero tag n => exact creditKept_finish_same h (answer_credit_of_cert _ _ _ s fun u => (calZero_table tag n u).2)
  case calSpan tag n r =>
    exact creditKept_finish_same h (answer_credit_of_cert _ _ _ s fun u => (calSpan_table tag n r u).2)
  case setCounter tag v => exact creditKept_finish_same h (answer_credit_of_cert _ _ _ s fun u => (setCounter_table v u).2)
  case wheelActive w | wheelInactive w | driveReadyActive w | driveReadyInactive w =>
    exact absurd (by cases w <;> simp [stationEvents]) hi
  all_goals exact absurd (by simp [stationEvents]) hi

/-- Settles O56: HELLO leaves no frame outstanding, CREDIT only takes from the count, and a frame begins only below the
window; every other command leaves both numbers alone. -/
theorem everyStepKeepsTheCreditLaw : Obligations.EveryStepKeepsTheCreditLaw := by
  intro s t hs h
  unfold step at h
  split at h
  · cases h; exact hs
  · next c rest _ => exact (exec_creditKept c _ t h : CreditKept { s with pending := rest } t) hs

end Sys2Proof.Machine
end

section
/-! SUPPORT. What the ends of jobs and the write queue's commits leave of the part (R161, R172, R181, R185), seen through
`State.outside`: only the jobs, the strip in hand, and the store's queue, write and state change. -/

namespace Sys2Proof.Machine

/-! ## The change -/

/-- Of all that stations and Vehicle Table do not change, only the jobs with their strip and the store's queue, write and state
differ; a state that follows from the image still does (R178); the notices that wait stay (R192). -/
structure JobsMoved (s t : State) : Prop where
  view : t.outside = { s.outside with
    cert := { s.cert with queue := t.cert.queue, strip := t.cert.strip }
    cal := { s.outside.cal with queue := t.cal.queue, writing := t.cal.writing, state := t.cal.state } }
  follows : s.cal.state = s.cal.stateOf → t.cal.state = t.cal.stateOf
  notices : ∀ x ∈ s.port.notices, x ∈ t.port.notices

theorem JobsMoved.cert {s t : State} (h : JobsMoved s t) :
    t.cert = { s.cert with queue := t.cert.queue, strip := t.cert.strip } :=
  (congrArg State.cert h.view : t.outside.cert = _)

/-- The image and the collection's place in the store: all but the queue, the write, the state and the collection. -/
theorem JobsMoved.cal {s t : State} (h : JobsMoved s t) : t.cal = { s.cal with
    queue := t.cal.queue, writing := t.cal.writing, state := t.cal.state, collection := t.cal.collection } := by
  have e : t.outside.cal = { s.outside.cal with
      queue := t.cal.queue, writing := t.cal.writing, state := t.cal.state } := congrArg State.cal h.view
  have e' : t.cal = { t.outside.cal with collection := t.cal.collection } := rfl
  rw [e] at e'
  exact e'

theorem JobsMoved.time {s t : State} (h : JobsMoved s t) : t.time = s.time :=
  (congrArg State.time h.view : t.outside.time = _)

theorem JobsMoved.memory {s t : State} (h : JobsMoved s t) : t.eeprom = s.eeprom ∧ t.torn = s.torn :=
  ⟨(congrArg State.eeprom h.view : t.outside.eeprom = _), (congrArg State.torn h.view : t.outside.torn = _)⟩

theorem JobsMoved.refl (s : State) : JobsMoved s s := ⟨rfl, id, fun _ h => h⟩

theorem JobsMoved.trans {s t u : State} (h : JobsMoved s t) (k : JobsMoved t u) : JobsMoved s u where
  view := by rw [k.view, h.view, h.cert]
  follows := k.follows ∘ h.follows
  notices x hx := k.notices x (h.notices x hx)

theorem cal_of_outside {s t : State} (h : t.outside = s.outside) :
    t.cal = { s.cal with collection := t.cal.collection } := by
  have e : t.outside.cal = s.outside.cal := congrArg State.cal h
  have e' : t.cal = { t.outside.cal with collection := t.cal.collection } := rfl
  rw [e] at e'
  exact e'

/-- Operations of the stations and of the Vehicle Table are no more than that. -/
theorem jobsMoved_of_outside {s t : State} (h : t.outside = s.outside) (hn : ∀ x ∈ s.port.notices, x ∈ t.port.notices) :
    JobsMoved s t where
  view := by rw [h, cert_of_outside h, cal_of_outside h]; rfl
  follows hs := by
    rw [cal_of_outside h]
    exact hs
  notices := hn

/-- R178: the state that follows from the image, in the words of the marks. -/
theorem storeStateFollows_of_stateOf {c : CalStore} (h : c.state = c.stateOf) : StoreStateFollows c := by
  unfold StoreStateFollows
  rw [h]
  unfold CalStore.stateOf
  cases c.headerStored with
  | false => rfl
  | true =>
    simp only [Bool.not_true, Bool.false_eq_true, if_false, Bool.true_eq_false, Bool.and_eq_true, List.all_eq_true,
      and_assoc]

/-! ## Jobs -/

theorem jobsMoved_restartRecord (k : Nat) (s : State) : JobsMoved s (restartRecord k s) := by
  obtain ⟨-, -, -, -, hport⟩ := record_restartRecord k s
  exact jobsMoved_of_outside (restartRecord_outside k s) fun x hx => hport ▸ hx

theorem jobsMoved_closeJob (j : Job) (o : JobOutcome) (c : Option JobCause) (r : Bool) (s : State) :
    JobsMoved s (closeJob j o c r s) := by
  unfold closeJob
  extract_lets s1 s2 s3 s4 s5
  have h2 : JobsMoved s s2 := ⟨rfl, id, fun _ h => h⟩
  have h3 : JobsMoved s2 s3 := by
    unfold s3
    split
    · exact .refl s2
    · exact jobsMoved_of_outside (retryBinding_outside s2) (portKept_retryBinding s2).notices
  have h5 : JobsMoved s3 s5 := jobsMoved_of_outside ((sendNotice_outside _ s4).trans (clearSlotHolds_outside _ s3))
    (portKept_sendNotice _ s4).notices
  split
  · exact ((h2.trans h3).trans h5).trans (jobsMoved_restartRecord _ s5)
  · exact (h2.trans h3).trans h5

theorem jobsMoved_numberHead (n : Nat) (s : State) : JobsMoved s (numberHead n s) := by
  induction n generalizing s with
  | zero => exact .refl s
  | succ n ih =>
    unfold numberHead
    split
    · exact .refl s
    · split
      · exact .refl s
      · split
        · exact (jobsMoved_closeJob _ _ _ _ s).trans (ih _)
        · exact ⟨rfl, id, fun _ h => h⟩

theorem jobsMoved_endJob (j : Job) (o : JobOutcome) (c : Option JobCause) (s : State) : JobsMoved s (endJob j o c s) :=
  (jobsMoved_closeJob j o c false s).trans (jobsMoved_numberHead 5 _)

theorem jobsMoved_numberFixed (v : Nat) (s : State) : JobsMoved s (numberFixed v s) := by
  unfold numberFixed
  split
  · exact .refl s
  · split
    · exact .refl s
    · dsimp only
      split
      · exact jobsMoved_endJob _ _ _ s
      · exact ⟨rfl, id, fun _ h => h⟩

theorem jobsMoved_commitFailed (s : State) : JobsMoved s (commitFailed s) := by
  unfold commitFailed
  split
  · exact .refl s
  · split
    · exact .refl s
    · split <;> exact jobsMoved_endJob _ _ _ s

/-! ## The write queue and what follows -/

/-- R181: of the store a write that begins changes the write alone. -/
theorem beginWrite_eq (t : LaneTime) (c : CalStore) : c.beginWrite t = { c with writing := (c.beginWrite t).writing } := by
  unfold CalStore.beginWrite
  split
  · split <;> rfl
  · rfl

theorem jobsMoved_beginWrite (s : State) : JobsMoved s (s.onCal (CalStore.beginWrite s.now)) := by
  have e : (s.onCal (CalStore.beginWrite s.now))
      = s.onCal fun c => { c with writing := (s.cal.beginWrite s.now).writing } :=
    congrArg (fun c => { s with cal := c }) (beginWrite_eq s.now s.cal)
  rw [e]
  exact ⟨rfl, id, fun _ h => h⟩

theorem jobsMoved_pumpWrites (n : Nat) (s : State) : JobsMoved s (pumpWrites n s) := by
  induction n generalizing s with
  | zero => exact .refl s
  | succ n ih =>
    unfold pumpWrites
    split
    · have hfirst : JobsMoved s (s.onCal fun c => CalStore.settled { c with queue := c.queue.drop 1 }) :=
        ⟨rfl, fun _ => rfl, fun _ h => h⟩
      have htold : JobsMoved _ (noticeStoreFault .counter .counter
          (s.onCal fun c => CalStore.settled { c with queue := c.queue.drop 1 })) :=
        jobsMoved_of_outside (sendNotice_outside _ _) (portKept_sendNotice _ _).notices
      exact ((hfirst.trans htold).trans (jobsMoved_commitFailed _)).trans (ih _)
    · exact jobsMoved_beginWrite s

/-- What follows an event follows the writes that begin. -/
theorem settle_settleWrites (s : State) : settle (settleWrites s) = settle s := by
  unfold settle
  rw [settleWrites_rest (settleWrites_rests s)]

theorem jobsMoved_settle (s : State) : JobsMoved s (settle s) := by
  refine (jobsMoved_pumpWrites _ s : JobsMoved s (settleWrites s)).trans ?_
  refine jobsMoved_of_outside (settle_outside s) ?_
  rw [← settle_settleWrites]
  exact (portKept_settle (settleWrites_rests s)).notices

end Sys2Proof.Machine
end

section
/-! SUPPORT. A job that ends while no entry station is BLOCKED (R172): its slot has no job any more, its record is unlinked, and
what follows leaves both so. -/

namespace Sys2Proof.Machine

/-! ## The end of one job -/

/-- R172: CERT_DONE of a job. -/
def jobDone (j : Job) (o : JobOutcome) (c : Option JobCause) (s : State) : Notice :=
  .certDone j.slot (displayedId (s.record j.slot)) j.number o c j.pass s.time.now

/-- R12, R172: with no station BLOCKED the binding that a job's end tries again is none. -/
theorem closeJob_unblocked (j : Job) (o : JobOutcome) (c : Option JobCause) {s : State} (h : s.entry.blocked = false) :
    closeJob j o c false s = closeJob j o c true s := by
  have hretry : ∀ u : State, u.entry.blocked = false → retryBinding u = u := fun u hu => by
    unfold retryBinding; rw [hu]; rfl
  unfold closeJob
  simp only [Bool.false_eq_true, if_false, if_true]
  rw [hretry]
  exact h

theorem removeRecord_entry (k : Nat) (c : Option RemovalCause) (s : State) : (removeRecord k c s).entry = s.entry := by
  unfold removeRecord
  dsimp only
  split <;> split <;> rfl

theorem restartRecord_entry (k : Nat) (s : State) : (restartRecord k s).entry = s.entry := by
  unfold restartRecord
  split
  · exact removeRecord_entry k none s
  · rfl

/-- R26: a COMPLETE record restarted is removed or BOOKED again. -/
theorem restartRecord_state {k : Nat} {s : State} (hs : (s.record k).state = .complete) (hj : (s.record k).job = false) :
    ((restartRecord k s).record k).state = if (s.record k).origin = .dynamic then .free else .booked := by
  unfold restartRecord
  by_cases ho : (s.record k).origin = .dynamic
  · rw [if_pos (by simp [ho]), if_pos ho, record_removeRecord, if_pos rfl]
    rfl
  · have hk : k < s.vt.records.length := lt_of_inUse (by rw [hs]; decide)
    rw [if_neg (by simpa using ho), if_neg ho, record_modRec, if_pos ⟨rfl, hk⟩]
    simp [Record.restarted, hs, hj, ho]

/-- R172: how the end of a job outside RESTART leaves its record. -/
structure JobClosed (j : Job) (s t : State) : Prop where
  queue : t.cert.queue = s.cert.queue.filter (fun h => h.slot != j.slot)
  others : ∀ k, k ≠ j.slot → t.record k = s.record k
  job : (t.record j.slot).job = false
  kept : j.abortPending = false → (t.record j.slot).state = (s.record j.slot).state
  restarted : j.abortPending = true → (s.record j.slot).state = .complete →
    (t.record j.slot).state = if (s.record j.slot).origin = .dynamic then .free else .booked
  entry : t.entry = s.entry
  rematch : t.work.rematch = s.work.rematch

theorem closeJob_spec (j : Job) (o : JobOutcome) (c : Option JobCause) {s : State} (hb : s.entry.blocked = false) :
    JobClosed j s (closeJob j o c false s)
      ∧ (s.port.notices.length < 32 → ∃ k, (k, jobDone j o c s) ∈ (closeJob j o c false s).port.notices) := by
  rw [closeJob_unblocked j o c hb]
  have hrematch := (lulled_closeJob j o c s).owed.2
  revert hrematch
  unfold closeJob
  extract_lets s1 s2 s3 s4 s5
  intro hrematch
  have hrec : ∀ k, s5.record k = if k = j.slot ∧ j.slot < s.vt.records.length then
      { s.record k with job := false, lastActivity := s.now } else s.record k := fun k =>
    record_writeRec j.slot k (fun r => { r with job := false }) s1
  have hothers : ∀ k, k ≠ j.slot → s5.record k = s.record k := fun k hk => (hrec k).trans (if_neg fun x => hk x.1)
  have hown : (s5.record j.slot).job = false ∧ (s5.record j.slot).state = (s.record j.slot).state
      ∧ (s5.record j.slot).origin = (s.record j.slot).origin
      ∧ displayedId (s5.record j.slot) = displayedId (s.record j.slot) := by
    rw [hrec]
    split
    · exact ⟨rfl, rfl, rfl, rfl⟩
    · next hl =>
      have hfree : s.record j.slot = Record.free := record_none s _ (by omega)
      exact ⟨by rw [hfree]; rfl, rfl, rfl, rfl⟩
  obtain ⟨hjob, hstate, horigin, hid⟩ := hown
  have htold : s.port.notices.length < 32 → ∃ k, (k, jobDone j o c s) ∈ s5.port.notices := by
    have hs5 : s5 = sendNotice (jobDone j o c s) s4 := by unfold jobDone; rw [← hid]; rfl
    rw [hs5]
    exact (sendNotice_notices _ s4).1
  split at hrematch
  · next hr =>
    rw [if_pos hr]
    obtain ⟨hp, hc⟩ := Bool.and_eq_true_iff.mp hr
    obtain ⟨r1, -, r3, r4, r5⟩ := record_restartRecord j.slot s5
    refine ⟨⟨(congrArg CertUnit.queue r4).trans rfl, fun k hk => (r1 k hk).trans (hothers k hk), r3 hjob,
      fun hn => ?_, fun _ _ => ?_, restartRecord_entry j.slot s5, hrematch⟩, fun hl => r5 ▸ htold hl⟩
    · rw [hp] at hn; cases hn
    · rw [restartRecord_state (by simpa using hc) hjob, horigin]
  · next hr =>
    rw [if_neg hr]
    refine ⟨⟨rfl, hothers, hjob, fun _ => hstate, fun hp hc => absurd ?_ hr, rfl, hrematch⟩, htold⟩
    rw [hp, hstate, hc]
    rfl

/-! ## A slot whose job has ended -/

/-- No station is BLOCKED and no axle is to be matched; no job is for the slot, whose record is `r`. -/
structure JobGone (k : Nat) (r : Record) (s : State) : Prop where
  unblocked : s.entry.blocked = false
  unmatched : s.work.rematch = false
  slots : ∀ i ∈ s.cert.queue, i.slot ≠ k
  record : s.record k = r

section
variable {k : Nat} {r : Record} {s : State}

/-- Another job's end leaves it so. -/
theorem JobGone.closeJob (h : JobGone k r s) {j : Job} (hj : j.slot ≠ k) (o : JobOutcome) (c : Option JobCause) :
    JobGone k r (closeJob j o c false s) := by
  obtain ⟨hc, -⟩ := closeJob_spec j o c h.unblocked
  refine ⟨hc.entry ▸ h.unblocked, hc.rematch.trans h.unmatched, fun i hi => ?_,
    (hc.others k fun x => hj x.symm).trans h.record⟩
  rw [hc.queue] at hi
  exact h.slots i (List.mem_filter.mp hi).1

theorem JobGone.numberHead (n : Nat) (h : JobGone k r s) : JobGone k r (numberHead n s) := by
  induction n generalizing s with
  | zero => exact h
  | succ n ih =>
    unfold Machine.numberHead
    split
    · exact h
    · next j js hq =>
      have hj : j.slot ≠ k := h.slots j (by rw [hq]; exact List.mem_cons_self)
      split
      · exact h
      · split
        · exact ih (h.closeJob hj _ _)
        · refine ⟨h.unblocked, h.unmatched, fun i hi => ?_, h.record⟩
          have hi : i ∈ { j with state := .numbering } :: js := by
            simpa [modHead, State.onCert, State.onCal, hq] using hi
          rcases List.mem_cons.mp hi with rfl | hi
          · exact hj
          · exact h.slots i (by rw [hq]; exact List.mem_cons_of_mem _ hi)

theorem JobGone.commitFailed (h : JobGone k r s) : JobGone k r (commitFailed s) := by
  unfold Machine.commitFailed
  split
  · exact h
  · next j js hq =>
    have hj : j.slot ≠ k := h.slots j (by rw [hq]; exact List.mem_cons_self)
    split
    · exact h
    · split <;> exact (h.closeJob hj _ _).numberHead 5

theorem JobGone.pumpWrites (n : Nat) (h : JobGone k r s) : JobGone k r (pumpWrites n s) := by
  induction n generalizing s with
  | zero => exact h
  | succ n ih =>
    unfold Machine.pumpWrites
    split
    · have htold : JobGone k r (noticeStoreFault .counter .counter
          (s.onCal fun c => CalStore.settled { c with queue := c.queue.drop 1 })) :=
        ⟨h.unblocked, h.unmatched, h.slots, h.record⟩
      exact ih htold.commitFailed
    · exact ⟨h.unblocked, h.unmatched, h.slots, h.record⟩

/-- What follows an event leaves it so. -/
theorem JobGone.settle (h : JobGone k r s) :
    (∀ i ∈ (settle s).cert.queue, i.slot ≠ k) ∧ (settle s).record k = r := by
  have hw : JobGone k r (settleWrites s) := h.pumpWrites _
  have hcert : (Machine.settle s).cert = (settleWrites s).cert := cert_of_outside (settle_outside s)
  have hvt : (Machine.settle s).vt = (settleWrites s).vt := by
    rw [← settle_settleWrites]
    exact settle_vt (settleWrites_rests s) hw.unblocked hw.unmatched
  exact ⟨hcert ▸ hw.slots, (record_of_vt hvt k).trans hw.record⟩

end

/-- R172: what a job's end leaves: no job of its slot, its record unlinked and as it was, or restarted where abort pending was
set, and CERT_DONE. -/
theorem endJob_spec (j : Job) (o : JobOutcome) (c : Option JobCause) {s : State} (hb : s.entry.blocked = false)
    (hm : s.work.rematch = false) :
    (∃ r, JobGone j.slot r (endJob j o c s) ∧ r.job = false
      ∧ (j.abortPending = false → r.state = (s.record j.slot).state)
      ∧ (j.abortPending = true → (s.record j.slot).state = .complete →
          r.state = if (s.record j.slot).origin = .dynamic then .free else .booked))
    ∧ (s.port.notices.length < 32 → ∃ k, (k, jobDone j o c s) ∈ (endJob j o c s).port.notices) := by
  obtain ⟨hc, htold⟩ := closeJob_spec j o c hb
  have hgone : JobGone j.slot _ (closeJob j o c false s) :=
    ⟨hc.entry ▸ hb, hc.rematch.trans hm, fun i hi => by
      rw [hc.queue] at hi
      simpa using (List.mem_filter.mp hi).2, rfl⟩
  refine ⟨⟨_, hgone.numberHead 5, hc.job, hc.kept, hc.restarted⟩, fun hl => ?_⟩
  obtain ⟨k, hk⟩ := htold hl
  exact ⟨k, (jobsMoved_numberHead 5 _).notices _ hk⟩

end Sys2Proof.Machine
end

section
/-! SUPPORT. CERT_QUEUE and CERT_ABORT on a part at rest (R160, R161, R173): O26. -/

namespace Sys2Proof.Machine

/-! ## What follows where no commit has to fail -/

/-- R181: where the oldest entry may be written, or a write goes on, all that follows in the store is the write's beginning. -/
theorem settleWrites_begins {s : State} (h : s.cal.writing.isSome ∨ s.cal.commitFails = false) :
    settleWrites s = s.onCal (CalStore.beginWrite s.now) := by
  have hgo : (s.cal.writing.isNone && s.cal.commitFails) = false := by
    rcases h with h | h
    · rw [Option.isNone_eq_false_iff.mpr h]; rfl
    · rw [h, Bool.and_false]
  unfold settleWrites pumpWrites
  rw [if_neg (by rw [hgo]; decide)]

/-- R185: a commit that asks for a number can be written while the counter gives one. -/
theorem commitFails_of_spent {s : State} (h : counterSpent s = false) : s.cal.commitFails = false := by
  unfold CalStore.commitFails
  exact Bool.and_eq_false_iff.mpr (.inr h)

/-- Where nothing else is owed, neither the Vehicle Table nor the Certificate Unit changes any more. -/
theorem settle_begins {s : State} (hc : s.cal.commitFails = false) (hw : s.work = Work.none) :
    (settle s).vt = s.vt ∧ (settle s).cert = s.cert := by
  have hbegin := settleWrites_begins (s := s) (.inr hc)
  have hwork : (settleWrites s).work = Work.none := by rw [hbegin]; exact hw
  have hstill := settle_stations (settleWrites_rests s) (congrArg Work.headMoved hwork) (congrArg Work.retry hwork)
    (.inl (congrArg Work.rematch hwork))
  rw [settle_settleWrites] at hstill
  refine ⟨hstill.1.trans ?_, (cert_of_outside (settle_outside s)).trans ?_⟩ <;> rw [hbegin] <;> rfl

/-! ## CERT_QUEUE (R160, R161) -/

/-- R160: the part with an admitted job at the tail of the queue and its record linked. -/
def jobAdmitted (slot : Nat) (ls : List HeaderLine) (c : ClassEntry) (s : State) : State :=
  modRec slot (fun r => { r with job := true })
    (s.onCert fun k => { k with queue := k.queue ++ [Job.admitted slot ls (s.record slot) c] })

/-- R160: a CERT_QUEUE that passes every check. -/
theorem certQueue_admits {slot : Nat} {hs : List RawHeader} {ls : List HeaderLine} {c : ClassEntry} {s : State}
    (hload : s.cal.state ≠ .loading) (hslot : slot ≤ 31) (hls : headersOf hs = some ls)
    (hst : (s.record slot).state = .complete) (hcls : classEntry s (s.record slot).cls = some c)
    (hjob : (s.record slot).job = false) (hstale : resultsStale (s.record slot) s = false)
    (hspent : counterSpent s = false) (hlen : s.cert.queue.length < 4) :
    certQueue slot hs s = acceptWith (.place (s.cert.queue.length + 1)) (numberNext (jobAdmitted slot ls c s)) := by
  unfold certQueue
  simp only [hls, hcls, hst, hjob, hstale, hspent, beq_iff_eq, hload, Nat.not_lt.mpr hslot, Nat.not_le.mpr hlen, if_false,
    bne_self_eq_false, Bool.false_eq_true, reduceCtorEq]
  simp [jobAdmitted]

/-- R160: of the queue with a job admitted, the head is the job itself where it was empty. -/
theorem jobAdmitted_queue (slot : Nat) (ls : List HeaderLine) (c : ClassEntry) (s : State) :
    (jobAdmitted slot ls c s).cert.queue = s.cert.queue ++ [Job.admitted slot ls (s.record slot) c] := rfl

/-- R161: an admitted job that is the head enters NUMBERING, one behind another waits QUEUED. -/
theorem numberNext_admitted {slot : Nat} {ls : List HeaderLine} {c : ClassEntry} {s : State}
    (hspent : counterSpent s = false) (hhead : ∀ j, s.cert.queue.head? = some j → j.state ≠ .queued) :
    (numberNext (jobAdmitted slot ls c s)).cert.queue = s.cert.queue ++
        [{ Job.admitted slot ls (s.record slot) c with state := if s.cert.queue = [] then .numbering else .queued }]
      ∧ (numberNext (jobAdmitted slot ls c s)).vt = (jobAdmitted slot ls c s).vt
      ∧ (numberNext (jobAdmitted slot ls c s)).work = s.work
      ∧ counterSpent (numberNext (jobAdmitted slot ls c s)) = false := by
  have hq := jobAdmitted_queue slot ls c s
  have hsp : counterSpent (jobAdmitted slot ls c s) = false := hspent
  unfold numberNext numberHead
  cases hs : s.cert.queue with
  | nil =>
    rw [hs, List.nil_append] at hq
    rw [hq]
    dsimp only
    rw [if_neg (by simp [Job.admitted]), hsp]
    refine ⟨?_, rfl, rfl, hspent⟩
    simp [modHead, State.onCert, State.onCal, hq]
  | cons j js =>
    rw [hs, List.cons_append] at hq
    rw [hq]
    dsimp only
    rw [if_pos (by simpa using hhead j (by rw [hs]; rfl))]
    exact ⟨hq, rfl, rfl, hspent⟩

/-! ## CERT_ABORT (R173) -/

/-- R173: a CERT_ABORT that passes every check. -/
theorem certAbort_ends {slot : Nat} {j : Job} {s : State} (hload : s.cal.state ≠ .loading) (hslot : slot ≤ 31)
    (hj : s.cert.queue.find? (fun j => j.slot == slot) = some j) (hst : j.state ≠ .numbering) :
    certAbort slot s = accept (endJob j .aborted (some .host)
      (if j.state == .printing && j.started then oweVoid s else s)) := by
  unfold certAbort
  simp only [hj, beq_iff_eq, hload, Nat.not_lt.mpr hslot, hst, if_false]

/-- R173: what CERT_ABORT and what follows it leave. -/
theorem settle_certAbort {slot : Nat} {j : Job} {s : State} (hc : Calm s) (hload : s.cal.state ≠ .loading)
    (hslot : slot ≤ 31) (hb : s.entry.blocked = false) (hj : s.cert.queue.find? (fun j => j.slot == slot) = some j)
    (hst : j.state ≠ .numbering) (hp : j.abortPending = false) (k t : Nat) :
    (∀ i ∈ (settle (postAnswer k t (certAbort slot s))).cert.queue, i.slot ≠ slot)
      ∧ ((settle (postAnswer k t (certAbort slot s))).record slot).job = false
      ∧ ((settle (postAnswer k t (certAbort slot s))).record slot).state = (s.record slot).state
      ∧ (j.state = .printing → j.started = true →
          (settle (postAnswer k t (certAbort slot s))).cert.void = .owed) := by
  have hjs : j.slot = slot := by simpa using List.find?_some hj
  have hs : ∃ u : State, certAbort slot s = accept (endJob j .aborted (some .host) u) ∧ u.entry = s.entry
      ∧ u.work = s.work ∧ u.vt = s.vt ∧ (j.state = .printing → j.started = true → u.cert.void = .owed) := by
    refine ⟨_, certAbort_ends hload hslot hj hst, ?_⟩
    split
    · exact ⟨rfl, rfl, rfl, fun _ _ => rfl⟩
    · next h => exact ⟨rfl, rfl, rfl, fun h1 h2 => absurd (by rw [h1, h2]; rfl) h⟩
  obtain ⟨u, hu, hentry, hwork, hvt, hvoid⟩ := hs
  obtain ⟨⟨r, hgone, hjob, hkept, -⟩, -⟩ := endJob_spec j .aborted (some .host) (s := u) (hentry ▸ hb)
    (by rw [hwork, hc.1]; rfl)
  have hpost : postAnswer k t (certAbort slot s) = postReply k t .ok .none (endJob j .aborted (some .host) u) := by
    rw [hu]; rfl
  have hgone' : JobGone j.slot r (postReply k t .ok .none (endJob j .aborted (some .host) u)) :=
    ⟨hgone.unblocked, hgone.unmatched, hgone.slots, hgone.record⟩
  obtain ⟨hslots, hrec⟩ := hgone'.settle
  have hmoved : JobsMoved u (settle (postReply k t .ok .none (endJob j .aborted (some .host) u))) :=
    ((jobsMoved_endJob j _ _ u).trans (jobsMoved_of_outside (postReply_outside _ _ _ _ _) fun _ hx => hx)).trans
      (jobsMoved_settle _)
  rw [hpost, ← hjs]
  refine ⟨hslots, by rw [hrec]; exact hjob, by rw [hrec, hkept hp, record_of_vt hvt], fun h1 h2 => ?_⟩
  rw [hmoved.cert]
  exact hvoid h1 h2

/-- Settles O26: the admitted job stands at the tail and the writes that begin leave the queue alone; an aborted job leaves the
queue, and no job that ends behind it touches its record. -/
theorem certificateRequestsMoveTheQueue : Obligations.CertificateRequestsMoveTheQueue := by
  intro tag slot s hc hload hslot
  refine ⟨fun hs ls c hreach hls hst hcls hjob hstale havail hcount hlen hhead => ?_,
    fun j hreach hb hj hnum hp => ?_⟩
  · obtain ⟨p, howner⟩ : ∃ p, atOwner (.certQueue tag slot hs) s = { s with port := p } := ⟨_, atOwner_eq _ s⟩
    have hspent : counterSpent { s with port := p } = false := by
      unfold counterSpent
      simp [havail, Nat.not_le.mpr hcount]
    have hadmit := certQueue_admits (s := { s with port := p }) hload hslot hls hst hcls hjob hstale hspent hlen
    obtain ⟨hqueue, hvt, hwork, hsp⟩ := numberNext_admitted (slot := slot) (ls := ls) (c := c) hspent hhead
    have hexec : exec (.certQueue tag slot hs) s = finish (postReply 0x18 tag .ok (.place (s.cert.queue.length + 1))
        (numberNext (jobAdmitted slot ls c { s with port := p }))) := by
      refine congrArg finish ?_
      unfold answer
      rw [if_pos hreach, howner, hadmit]
      rfl
    obtain ⟨htable, hcert⟩ := settle_begins (s := postReply 0x18 tag .ok (.place (s.cert.queue.length + 1))
      (numberNext (jobAdmitted slot ls c { s with port := p }))) (commitFails_of_spent hsp) (hwork.trans hc.1)
    have hrec : ∀ k, (settle (postReply 0x18 tag .ok (.place (s.cert.queue.length + 1))
        (numberNext (jobAdmitted slot ls c { s with port := p })))).record k
        = if k = slot ∧ slot < s.vt.records.length then { s.record k with job := true } else s.record k := fun k =>
      (record_of_vt (htable.trans hvt) k).trans (record_modRec slot k _ _)
    refine ⟨_, _, hexec, (congrArg CertUnit.queue hcert).trans hqueue, rfl, rfl, rfl, rfl, rfl, rfl, rfl, rfl, ?_,
      fun k hk => (hrec k).trans (if_neg fun x => hk x.1)⟩
    exact (hrec slot).trans (if_pos ⟨rfl, lt_of_inUse (by rw [hst]; decide)⟩)
  · obtain ⟨p, howner⟩ : ∃ p, atOwner (.certAbort tag slot) s = { s with port := p } := ⟨_, atOwner_eq _ s⟩
    have hcp : Calm { s with port := p } := Calm.of_eq hc rfl rfl rfl rfl rfl
    obtain ⟨h1, h2, h3, h4⟩ := settle_certAbort (s := { s with port := p }) hcp hload hslot hb hj hnum hp 0x19 tag
    refine ⟨_, ?_, h1, h2, h3, h4⟩
    refine congrArg finish ?_
    unfold answer
    rw [if_pos hreach, howner]

end Sys2Proof.Machine
end

section
/-! SUPPORT. The end of a page write (R182): the page, the image and the notice, and what the rest of the event leaves of
them (R178, R181, R185). -/

namespace Sys2Proof.Machine

/-! ## The page and the image -/

/-- R177, R204: a page of the EEPROM written reads back, and no other address changes. -/
theorem Eeprom.writePage_stores {m : Eeprom} {p : Nat} {bytes : List Byte} (h : m.wf = true) (hp : p < 256)
    (hl : bytes.length = 32) : ∃ m', m.writePage p bytes = some m' ∧ m'.wf = true ∧ m'.page p = bytes
      ∧ ∀ a, a < 32 * p ∨ 32 * p + 32 ≤ a → m'.read a = m.read a := by
  have hm : m.writePage p bytes = some (m.writeList (32 * p) (bytes.take 32)) := if_pos hp
  obtain ⟨-, hwf, hread⟩ := Eeprom.writePage_spec h hm
  refine ⟨_, hm, hwf, Eeprom.page_writePage h hl hm, fun a ha => (hread a).trans (if_neg ?_)⟩
  rw [List.length_take, hl]
  omega

/-- The store with the write's entry taken from its queue. -/
def CalStore.entryDone (c : CalStore) (rest : List WriteEntry) : CalStore := { c with writing := none, queue := rest }

/-- R178, R182: the part after a page write: the memory, the count of failed writes, the image with its state worked out, and
the notice that tells it. -/
def writeDone (m : Eeprom) (n : Nat) (img : CalStore) (told : StoreState → Notice) (s : State) : State :=
  sendNotice (told img.stateOf) { s with eeprom := m, torn := n, cal := img.settled }

section
variable {s : State} {w : PageWrite} {e : WriteEntry} {rest : List WriteEntry}

/-- R182: a write that succeeds. -/
theorem endWrite_success (hw : s.cal.writing = some w) (hq : s.cal.queue = e :: rest) (hp : w.page < 256)
    (hm : s.eeprom.wf = true) : ∃ m, endWrite .success s = some (.ok (e, w, writeDone m s.torn
        ((s.cal.entryDone rest).succeed e w rest) (fun st => .calStored e.record w.values st s.time.now) s))
      ∧ m.wf = true ∧ m.page w.page = w.values.page
      ∧ ∀ a, a < 32 * w.page ∨ 32 * w.page + 32 ≤ a → m.read a = s.eeprom.read a := by
  obtain ⟨m, hwrite, hform, hpage, hread⟩ := Eeprom.writePage_stores hm hp w.values.page_length
  refine ⟨m, ?_, hform, hpage, hread⟩
  unfold endWrite
  simp only [hw, hq, hwrite]
  rfl

/-- R182: a write that fails. -/
theorem endWrite_failure (cause : StoreCause) (hw : s.cal.writing = some w) (hq : s.cal.queue = e :: rest)
    (hp : w.page < 256) (hm : s.eeprom.wf = true) :
    ∃ m, endWrite (.failure cause) s = some (.ok (e, w, writeDone m (s.torn + 1)
        ((s.cal.entryDone rest).fail e w) (fun st => .storeFault e.record cause st s.time.now) s))
      ∧ m.wf = true ∧ m.page w.page = failedPage s.torn w s.eeprom
      ∧ ∀ a, a < 32 * w.page ∨ 32 * w.page + 32 ≤ a → m.read a = s.eeprom.read a := by
  obtain ⟨m, hwrite, hform, hpage, hread⟩ := Eeprom.writePage_stores hm hp (failedPage_length s.torn w s.eeprom)
  refine ⟨m, ?_, hform, hpage, hread⟩
  unfold endWrite
  simp only [hw, hq, hwrite]
  rfl

end

/-- With no write in progress its end changes nothing. -/
theorem finishWrite_idle {s : State} (o : WriteOutcome) (h : s.cal.writing = none) : finishWrite o s = .next s := by
  unfold finishWrite endWrite
  rw [h]

/-! ## What the image keeps of a write (R177, R182) -/

section
variable (c : CalStore) (e : WriteEntry) (w : PageWrite) (rest : List WriteEntry)

theorem succeed_counter (h : e = .commit ∨ ∃ v, e = .setCounter v) : (c.succeed e w rest).counter = w.values.counterValue
    ∧ (c.succeed e w rest).available = true ∧ (c.succeed e w rest).current = pageCopy w.page := by
  rcases h with rfl | ⟨v, rfl⟩ <;> exact ⟨rfl, rfl, rfl⟩

theorem setCopy_records (k : Copy) (v : CounterCopy) :
    (c.setCopy k v).channels = c.channels ∧ (c.setCopy k v).queue = c.queue ∧ (c.setCopy k v).writing = c.writing
      ∧ (c.setCopy k v).counter = c.counter ∧ (c.setCopy k v).available = c.available
      ∧ (c.setCopy k v).current = c.current := by
  cases k <;> exact ⟨rfl, rfl, rfl, rfl, rfl, rfl⟩

/-- R182: a write's success leaves every channel but its own. -/
theorem succeed_channel (m : Nat) (h : e ≠ .channel m) : (c.succeed e w rest).channels[m]? = c.channels[m]? := by
  cases e with
  | header | constants => rfl
  | commit | setCounter v =>
    exact congrArg (fun l : List ChannelCal => l[m]?) (setCopy_records c (pageCopy w.page) _).1
  | channel n =>
    have hn : n ≠ m := fun x => h (x ▸ rfl)
    exact List.getElem?_modify_ne (h := hn) ..

/-- R182: a write's failure leaves every channel but its own. -/
theorem fail_channel (m : Nat) (h : e ≠ .channel m) : (c.fail e w).channels[m]? = c.channels[m]? := by
  cases e with
  | header | constants => rfl
  | commit | setCounter v =>
    exact congrArg (fun l : List ChannelCal => l[m]?) (setCopy_records c (pageCopy w.page) _).1
  | channel n =>
    have hn : n ≠ m := fun x => h (x ▸ rfl)
    exact List.getElem?_modify_ne (h := hn) ..

/-- R180, R182: a failure leaves the counter, and its queue and write, as they were. -/
theorem fail_counter : (c.fail e w).counter = c.counter ∧ (c.fail e w).available = c.available
    ∧ (c.fail e w).current = c.current ∧ (c.fail e w).queue = c.queue ∧ (c.fail e w).writing = c.writing := by
  cases e with
  | header | constants | channel n => exact ⟨rfl, rfl, rfl, rfl, rfl⟩
  | commit | setCounter v =>
    obtain ⟨-, hq, hw, h1, h2, h3⟩ :=
      setCopy_records c (pageCopy w.page) { c.copy (pageCopy w.page) with stored := false }
    exact ⟨h1, h2, h3, hq, hw⟩

theorem succeed_queue : (c.succeed e w rest).queue = c.queue ∧ (c.succeed e w rest).writing = c.writing := by
  cases e with
  | header | constants | channel n => exact ⟨rfl, rfl⟩
  | commit | setCounter v =>
    obtain ⟨-, hq, hw, -⟩ := setCopy_records c (pageCopy w.page) { value := w.values.counterValue, stored := true }
    exact ⟨hq, hw⟩

/-- R180, R182: a failed write of the copy that is not current leaves the counter's stored mark. -/
theorem fail_counterStored (h : e = .commit ∨ ∃ v, e = .setCounter v) (hk : pageCopy w.page ≠ c.current) :
    (c.fail e w).counterStored = c.counterStored := by
  have other : ∀ k v, k ≠ c.current → (c.setCopy k v).counterStored = c.counterStored := fun k v hne => by
    unfold CalStore.counterStored CalStore.setCopy CalStore.copy
    cases k <;> cases hc : c.current
    · exact absurd hc.symm hne
    · rfl
    · rfl
    · exact absurd hc.symm hne
  rcases h with rfl | ⟨v, rfl⟩ <;> exact other _ _ hk

end

/-! ## What the rest of the event leaves of it -/

/-- R178, R182: the memory, the image, the state that follows from it and the notice stand at the event's end. -/
theorem JobsMoved.writeDone {m : Eeprom} {n : Nat} {img : CalStore} {told : StoreState → Notice} {s t : State}
    (h : JobsMoved (writeDone m n img told s) t) :
    t.torn = n ∧ t.eeprom = m
      ∧ t.cal = { img with
          queue := t.cal.queue, writing := t.cal.writing, state := t.cal.state, collection := t.cal.collection }
      ∧ StoreStateFollows t.cal
      ∧ (s.port.notices.length < 32 → ∃ k, (k, told t.cal.state) ∈ t.port.notices) := by
  have hfollows : t.cal.state = t.cal.stateOf := h.follows rfl
  have hstate : t.cal.state = img.stateOf := by rw [hfollows, h.cal]; rfl
  refine ⟨h.memory.2, h.memory.1, h.cal, storeStateFollows_of_stateOf hfollows, fun hl => ?_⟩
  obtain ⟨k, hk⟩ := (sendNotice_notices (told img.stateOf) { s with eeprom := m, torn := n, cal := img.settled }).1 hl
  exact ⟨k, hstate ▸ h.notices _ hk⟩

/-- R181: with no entry left none begins. -/
theorem settle_emptyQueue {u : State} (hw : u.cal.writing = none) (hq : u.cal.queue = []) :
    (settle u).cal.queue = [] ∧ (settle u).cal.writing = none := by
  have h := cal_of_outside ((settle_outside u).trans (congrArg State.outside (settleWrites_rest (.inr hq))))
  exact ⟨(congrArg CalStore.queue h).trans hq, (congrArg CalStore.writing h).trans hw⟩

/-- R204: the page of the copy that is not current. -/
theorem otherCopy_page (k : Copy) : copyPage k.other = if k = .a then 2 else 1 := by cases k <;> rfl

/-- R181, R185: the oldest entry left begins with the values that then stand, unless it is a commit without a number to give. -/
theorem beginsNext_settle {u : State} {rest : List WriteEntry} (hw : u.cal.writing = none) (hq : u.cal.queue = rest) :
    BeginsNext rest (settle u) := by
  intro e more hrest hcommit
  rw [hrest] at hq
  have hcal := (jobsMoved_settle u).cal
  have hgo : u.cal.commitFails = false := by
    have havail : (settle u).cal.available = u.cal.available := by rw [hcal]
    have hcount : (settle u).cal.counter = u.cal.counter := by rw [hcal]
    by_cases hc : e = .commit
    · obtain ⟨h1, h2⟩ := hcommit hc
      unfold CalStore.commitFails
      simp [← havail, ← hcount, h1, Nat.not_le.mpr h2]
    · unfold CalStore.commitFails
      simp [hq, hc]
  have hbegun : u.cal.beginWrite u.now
      = { u.cal with writing := some { page := e.page u.cal, values := e.values u.cal, began := u.now } } := by
    unfold CalStore.beginWrite
    rw [hw, hq]
    dsimp only
    rw [if_neg (by rw [hgo]; decide), ← hq]
  have hout : (settle u).cal = { u.cal with
      writing := some { page := e.page u.cal, values := e.values u.cal, began := u.now }
      collection := (settle u).cal.collection } := by
    have h := cal_of_outside (settle_outside u)
    rw [settleWrites_begins (.inr hgo)] at h
    have h' : (u.onCal (CalStore.beginWrite u.now)).cal = u.cal.beginWrite u.now := rfl
    rw [h', hbegun] at h
    exact h
  have htime : (settle u).time = u.time := (jobsMoved_settle u).time
  refine ⟨?_, { page := e.page u.cal, values := e.values u.cal, began := u.now }, ?_, ?_, ?_⟩
  · rw [hout, hrest]; exact hq
  · rw [hout]
  · rw [htime]; rfl
  · rw [hout]
    refine ⟨?_, ?_, ?_, ?_, ?_⟩
    · rintro rfl; exact ⟨rfl, rfl⟩
    · rintro rfl; exact ⟨otherCopy_page _, rfl⟩
    · rintro v rfl; exact ⟨otherCopy_page _, rfl⟩
    · rintro rfl; exact ⟨rfl, rfl⟩
    · rintro n c rfl hc
      refine ⟨rfl, ?_⟩
      have hget : u.cal.channels.getD n ChannelCal.bad = c := by
        rw [List.getD_eq_getElem?_getD, hc]; rfl
      unfold WriteEntry.values
      simp only [hget]

/-! ## The job in NUMBERING (R161) -/

/-- R161: a commit concerns the job in NUMBERING alone. -/
theorem commitFailed_still {s : State} (h : ∀ j, s.cert.queue.head? = some j → j.state ≠ .numbering) :
    commitFailed s = s := by
  unfold commitFailed
  split
  · rfl
  · next j js hq => rw [if_pos (by simpa using h j (by rw [hq]; rfl))]

/-- R185: with no job in NUMBERING the writes that begin leave the Certificate Unit alone. -/
theorem pumpWrites_cert {n : Nat} {s : State} (h : ∀ j, s.cert.queue.head? = some j → j.state ≠ .numbering) :
    (pumpWrites n s).cert = s.cert := by
  induction n generalizing s with
  | zero => rfl
  | succ n ih =>
    unfold pumpWrites
    split
    · have hstill := commitFailed_still (s := noticeStoreFault .counter .counter
        (s.onCal fun c => CalStore.settled { c with queue := c.queue.drop 1 })) h
      rw [hstill]
      exact ih (s := noticeStoreFault _ _ (s.onCal _)) h
    · rfl

/-- R161: the number and the printed date of the job in NUMBERING, which enters PRINTING. -/
def Job.numbered (j : Job) (v : Nat) (s : State) : Job :=
  { j with number := some v, printedDate := some (convertTime s.time s.time.now), state := .printing, position := 0
           started := false, pass := 0, planPos := 0 }

section
variable {s : State} {j : Job} {js : List Job}

/-- R161: a commit that has been written concerns the job in NUMBERING. -/
theorem numberFixed_numbering (v : Nat) (hq : s.cert.queue = j :: js) (hj : j.state = .numbering) :
    numberFixed v s = if j.abortPending then endJob { j.numbered v s with state := .numbering } .aborted (some .restart) s
      else modHead (fun _ => j.numbered v s) (s.onCert fun c => { c with strip := [] }) := by
  unfold numberFixed
  simp only [hq]
  rw [if_neg (by simp [hj])]
  rfl

theorem numberFixed_printing (v : Nat) (hq : s.cert.queue = j :: js) (hj : j.state = .numbering)
    (hp : j.abortPending = false) :
    (settle (numberFixed v s)).cert = { s.cert with strip := [], queue := j.numbered v s :: js } := by
  have hcert : (numberFixed v s).cert = { s.cert with strip := [], queue := j.numbered v s :: js } := by
    rw [numberFixed_numbering v hq hj, hp, if_neg Bool.false_ne_true]
    simp [modHead, State.onCert, hq]
  have hhead : ∀ i, (numberFixed v s).cert.queue.head? = some i → i.state ≠ .numbering := fun i hi => by
    rw [hcert] at hi
    obtain rfl : j.numbered v s = i := by simpa using hi
    simp [Job.numbered]
  exact ((cert_of_outside (settle_outside _)).trans (pumpWrites_cert hhead)).trans hcert

theorem numberFixed_aborted (v : Nat) (hq : s.cert.queue = j :: js) (hj : j.state = .numbering)
    (hp : j.abortPending = true) :
    numberFixed v s = endJob { j.numbered v s with state := .numbering } .aborted (some .restart) s := by
  rw [numberFixed_numbering v hq hj, if_pos hp]

theorem commitFailed_ends (hq : s.cert.queue = j :: js) (hj : j.state = .numbering) :
    commitFailed s = endJob j (if j.abortPending then .aborted else .failed)
      (some (if j.abortPending then .restart else .store)) s := by
  unfold commitFailed
  simp only [hq, hj]
  cases j.abortPending <;> rfl

end

end Sys2Proof.Machine
end

section
/-! SUPPORT. EEPROM_WRITE_END and EEPROM_ACK_TIMEOUT on a part at rest (R161, R178, R181, R182, R185): O50. -/

namespace Sys2Proof.Machine

/-! ## Which end a command gives a write (R182; log entry 40) -/

section
variable {s : State} {w : PageWrite}

theorem writeEnded_inTime (hw : s.cal.writing = some w) (h : (s.time.now - w.began).toNat ≤ 11) :
    writeEnded true s = .success := by
  have hin : w.inTime s.now = true := decide_eq_true h
  unfold writeEnded
  rw [hw]
  simp [hin]

theorem writeEnded_late (hw : s.cal.writing = some w) (h : 11 < (s.time.now - w.began).toNat) :
    writeEnded true s = .failure .timeout := by
  have hout : w.inTime s.now = false := decide_eq_false (Nat.not_le.mpr h)
  unfold writeEnded
  rw [hw]
  simp [hout]

/-- R182: before the 10 ms a timeout finds nothing to end. -/
theorem ackTimeout_early (hw : s.cal.writing = some w) (h : (s.time.now - w.began).toNat < 10) :
    exec .eepromAckTimeout s = finish s := by
  have hnot : w.timedOut s.now = false := decide_eq_false (Nat.not_le.mpr h)
  show execEepromAckTimeout s = finish s
  unfold execEepromAckTimeout
  rw [hw, Option.any_some, hnot]
  rfl

theorem ackTimeout_due (hw : s.cal.writing = some w) (h : 10 ≤ (s.time.now - w.began).toNat) :
    exec .eepromAckTimeout s = finishOut (finishWrite (.failure .timeout) s) := by
  have hdue : w.timedOut s.now = true := decide_eq_true h
  show execEepromAckTimeout s = _
  unfold execEepromAckTimeout
  rw [hw, Option.any_some, hdue]
  rfl

/-- R182: the three ways in which a write fails. -/
theorem exec_writeFails {i : Instr} {cause : StoreCause} (hw : s.cal.writing = some w)
    (h : (i = .eepromWriteEnd false ∧ cause = .noAck)
      ∨ (i = .eepromAckTimeout ∧ 10 ≤ (s.time.now - w.began).toNat ∧ cause = .timeout)
      ∨ (i = .eepromWriteEnd true ∧ 11 < (s.time.now - w.began).toNat ∧ cause = .timeout)) :
    exec i s = finishOut (finishWrite (.failure cause) s) := by
  rcases h with ⟨rfl, rfl⟩ | ⟨rfl, hdue, rfl⟩ | ⟨rfl, hlate, rfl⟩
  · rfl
  · exact ackTimeout_due hw hdue
  · show finishOut (finishWrite (writeEnded true s) s) = _
    rw [writeEnded_late hw hlate]

/-- With no write in progress there is nothing to end. -/
theorem exec_writeIdle (hc : Calm s) (hw : s.cal.writing = none) :
    (∀ ack, exec (.eepromWriteEnd ack) s = .next s) ∧ exec .eepromAckTimeout s = .next s := by
  refine ⟨fun ack => ?_, ?_⟩
  · show finishOut (finishWrite (writeEnded ack s) s) = _
    rw [finishWrite_idle _ hw]
    exact finish_calm s hc
  · show execEepromAckTimeout s = _
    unfold execEepromAckTimeout
    rw [hw]
    exact finish_calm s hc

end

/-! ## What follows the report of a commit (R161) -/

section
variable {s : State} {j : Job} {js : List Job} {m : Eeprom} {n : Nat} {img : CalStore} {told : StoreState → Notice}

/-- R161, R172: the head job ends behind the notice of its commit. -/
theorem settle_writeDone_endJob (hc : Calm s) (hb : s.entry.blocked = false) (i : Job) (o : JobOutcome)
    (c : Option JobCause) : ∀ t, t = settle (endJob i o c (writeDone m n img told s)) →
    (∀ x ∈ t.cert.queue, x.slot ≠ i.slot) ∧ (t.record i.slot).job = false
      ∧ (i.abortPending = true → (s.record i.slot).state = .complete →
          (t.record i.slot).state = if (s.record i.slot).origin = .dynamic then .free else .booked)
      ∧ (s.port.notices.length ≤ 30 → ∃ k, (k, jobDone i o c s) ∈ t.port.notices) := by
  rintro t rfl
  have hm : (writeDone m n img told s).work.rematch = false := congrArg Work.rematch hc.1
  obtain ⟨⟨r, hgone, hjob, -, hrestart⟩, htold⟩ :=
    endJob_spec i o c (s := writeDone m n img told s) hb hm
  obtain ⟨hslots, hrec⟩ := hgone.settle
  refine ⟨hslots, by rw [hrec]; exact hjob, fun hp hs => by rw [hrec]; exact hrestart hp hs, fun hl => ?_⟩
  have hlen := (sendNotice_notices (told img.stateOf) { s with eeprom := m, torn := n, cal := img.settled }).2
  obtain ⟨k, hk⟩ := htold (Nat.lt_of_le_of_lt (hlen.trans (Nat.add_le_add_right hl 1)) (by decide))
  exact ⟨k, (jobsMoved_settle _).notices _ hk⟩

end

/-! ## The image at the event's end (R177, R182) -/

section
variable {c d : CalStore} {e : WriteEntry} {w : PageWrite} {rest : List WriteEntry}

/-- R182: what a success leaves of the image. -/
theorem image_of_succeed (h : d = { (c.entryDone rest).succeed e w rest with
      queue := d.queue, writing := d.writing, state := d.state, collection := d.collection }) :
    (e = .commit ∨ (∃ v, e = .setCounter v) → d.counter = w.values.counterValue ∧ d.available = true
        ∧ d.current = pageCopy w.page)
      ∧ (e = .header → d.headerStored = true)
      ∧ (e = .constants → d.constants = { c.constants with stored := !rest.contains .constants })
      ∧ (∀ n r, e = .channel n → c.channels[n]? = some r →
          d.channels[n]? = some { r with stored := !rest.contains (.channel n) })
      ∧ (∀ m, e ≠ .channel m → d.channels[m]? = c.channels[m]?) := by
  rw [h]
  refine ⟨succeed_counter _ e w rest, ?_, ?_, ?_, succeed_channel _ e w rest⟩
  · rintro rfl; rfl
  · rintro rfl; rfl
  · rintro n r rfl hr
    simp [CalStore.succeed, CalStore.entryDone, tableMod, hr]

/-- R180, R182: what a failure leaves of the image. -/
theorem image_of_fail (h : d = { (c.entryDone rest).fail e w with
      queue := d.queue, writing := d.writing, state := d.state, collection := d.collection }) :
    d.counter = c.counter ∧ d.available = c.available ∧ d.current = c.current
      ∧ (e = .header → d.headerStored = false)
      ∧ (e = .constants → d.constants = { c.constants with stored := false })
      ∧ (∀ n r, e = .channel n → c.channels[n]? = some r → d.channels[n]? = some { r with stored := false })
      ∧ (∀ m, e ≠ .channel m → d.channels[m]? = c.channels[m]?)
      ∧ (e = .commit ∨ (∃ v, e = .setCounter v) → pageCopy w.page ≠ c.current → d.counterStored = c.counterStored) := by
  obtain ⟨hcounter, havail, hcurrent, -, -⟩ := fail_counter (c.entryDone rest) e w
  rw [h]
  refine ⟨hcounter, havail, hcurrent, ?_, ?_, ?_, fail_channel _ e w,
    fun he hk => (fail_counterStored (c.entryDone rest) e w he hk :)⟩
  · rintro rfl; rfl
  · rintro rfl; rfl
  · rintro n r rfl hr
    simp [CalStore.fail, CalStore.entryDone, tableMod, hr]

end

/-! ## The two ends -/

section
variable {s : State} {w : PageWrite} {e : WriteEntry} {rest : List WriteEntry}

/-- R161: what the Certificate Unit makes of a write's end: of a commit the job in NUMBERING goes on or ends. -/
def commitTold (o : WriteOutcome) (e : WriteEntry) (w : PageWrite) (u : State) : State :=
  if e = .commit then
    match o with
    | .success => numberFixed w.values.counterValue u
    | .failure _ => commitFailed u
  else u

theorem finishWrite_told {o : WriteOutcome} {u : State} (h : endWrite o s = some (.ok (e, w, u))) :
    finishOut (finishWrite o s) = .next (settle (commitTold o e w u)) := by
  unfold finishWrite commitTold
  simp only [h, beq_iff_eq]
  split
  · cases o <;> rfl
  · rfl

theorem jobsMoved_commitTold (o : WriteOutcome) (e : WriteEntry) (w : PageWrite) (u : State) :
    JobsMoved u (settle (commitTold o e w u)) := by
  refine JobsMoved.trans ?_ (jobsMoved_settle _)
  unfold commitTold
  split
  · split
    · exact jobsMoved_numberFixed _ u
    · exact jobsMoved_commitFailed u
  · exact .refl u

theorem commitTold_other {o : WriteOutcome} {u : State} (h : e ≠ .commit) : commitTold o e w u = u := if_neg h

end

/-- Settles O50: the page and the image stand as the write's end left them, since what follows it changes only the store's
queue, write and state and the jobs; the next entry begins with the values that then stand. -/
theorem eepromWritesStoreOnePage : Obligations.EepromWritesStoreOnePage := by
  intro s w e rest hc
  refine ⟨fun hw hq hp hwf hin => ?success, fun i cause hi hw hq hp hwf => ?failure,
    fun hw h => (ackTimeout_early hw h).trans (finish_calm s hc), fun hw => ?idle⟩
  case idle =>
    obtain ⟨hend, htimeout⟩ := exec_writeIdle hc hw
    exact ⟨hend true, hend false, htimeout⟩
  case success =>
    obtain ⟨m, hend, hform, hpage, hread⟩ := endWrite_success hw hq hp hwf
    have hexec : exec (.eepromWriteEnd true) s = .next _ :=
      (congrArg (fun o => finishOut (finishWrite o s)) (writeEnded_inTime hw hin)).trans (finishWrite_told hend)
    have hmoved := jobsMoved_commitTold .success e w (writeDone m s.torn ((s.cal.entryDone rest).succeed e w rest)
      (fun st => .calStored e.record w.values st s.time.now) s)
    generalize ht : settle (commitTold .success e w _) = t at hexec hmoved
    obtain ⟨htorn, rfl, hcal, hfollows, htold⟩ := hmoved.writeDone
    obtain ⟨hcounter, hheader, hconstants, hchannel, hothers⟩ := image_of_succeed hcal
    obtain ⟨hqueue, hwriting⟩ := succeed_queue (s.cal.entryDone rest) e w rest
    refine ⟨t, hexec, htorn, hform, hpage, hread, hcounter, hheader, hconstants, hchannel, hothers, hfollows, htold,
      fun hr he => ?_, fun he => ?_, fun j js he hj hn ha => ?_, fun j js he hj hn ha hb => ?_⟩
    · rw [← ht, commitTold_other he]
      exact settle_emptyQueue hwriting (hqueue.trans hr)
    · rw [← ht, commitTold_other he]
      exact beginsNext_settle hwriting hqueue
    · subst he
      rw [← ht]
      exact numberFixed_printing _ hj hn ha
    · subst he
      obtain ⟨hslots, hjob, hstate, hdone⟩ := settle_writeDone_endJob hc hb
        { j.numbered w.values.counterValue s with state := .numbering } .aborted (some .restart) t
        (ht.symm.trans (congrArg settle (numberFixed_aborted _ hj hn ha)))
      exact ⟨hslots, hjob, hstate ha, hdone⟩
  case failure =>
    obtain ⟨m, hend, hform, hpage, hread⟩ := endWrite_failure cause hw hq hp hwf
    have hexec : exec i s = .next _ := (exec_writeFails hw hi).trans (finishWrite_told hend)
    have hmoved := jobsMoved_commitTold (.failure cause) e w (writeDone m (s.torn + 1) ((s.cal.entryDone rest).fail e w)
      (fun st => .storeFault e.record cause st s.time.now) s)
    generalize ht : settle (commitTold (.failure cause) e w _) = t at hexec hmoved
    obtain ⟨htorn, rfl, hcal, hfollows, htold⟩ := hmoved.writeDone
    obtain ⟨hcounter, havail, hcurrent, hheader, hconstants, hchannel, hothers, hmark⟩ := image_of_fail hcal
    obtain ⟨-, -, -, hqueue, hwriting⟩ := fail_counter (s.cal.entryDone rest) e w
    refine ⟨t, hexec, htorn, hform, hpage, tornPage_check _, hread, hcounter, havail, hcurrent, hheader, hconstants,
      hchannel, hothers, hmark, hfollows, htold, fun he => ?_, fun j js he hj hn hb => ?_⟩
    · rw [← ht, commitTold_other he]
      exact beginsNext_settle hwriting hqueue
    · subst he
      obtain ⟨hslots, hjob, -, hdone⟩ := settle_writeDone_endJob hc hb j (if j.abortPending then .aborted else .failed)
        (some (if j.abortPending then .restart else .store)) t
        (ht.symm.trans (congrArg settle (commitFailed_ends hj hn)))
      exact ⟨hslots, hjob, hdone⟩

end Sys2Proof.Machine
end

section
/-! SUPPORT. The strip of a brake result (R168, R202): the largest of a list, the label's scale, the row of a dot, the byte of
eight dots and the bit of one, and the trace a strip is drawn from. -/

namespace Sys2Proof.Machine

/-! ## The largest value of a list -/

/-- R94: of two values that may be absent the larger is one of them, and no smaller than either. -/
theorem raise_spec (a x : Option Nat) : (raise a x = a ∨ raise a x = x)
    ∧ ∀ v, a = some v ∨ x = some v → ∃ m, raise a x = some m ∧ v ≤ m := by
  cases a with
  | none => exact ⟨.inr rfl, fun v hv => ⟨v, hv.resolve_left (by simp), Nat.le_refl v⟩⟩
  | some a =>
    cases x with
    | none => exact ⟨.inl rfl, fun v hv => ⟨v, hv.resolve_right (by simp), Nat.le_refl v⟩⟩
    | some x =>
      refine ⟨?_, fun v hv => ⟨max a x, rfl, ?_⟩⟩
      · rcases Nat.le_total a x with h | h
        · exact .inr (congrArg some (Nat.max_eq_right h))
        · exact .inl (congrArg some (Nat.max_eq_left h))
      · rcases hv with hv | hv <;> cases hv
        · exact Nat.le_max_left _ _
        · exact Nat.le_max_right _ _

theorem foldl_raise_spec (l : List (Option Nat)) (a : Option Nat) :
    (l.foldl raise a = a ∨ l.foldl raise a ∈ l)
      ∧ ∀ v, a = some v ∨ some v ∈ l → ∃ m, l.foldl raise a = some m ∧ v ≤ m := by
  induction l generalizing a with
  | nil => exact ⟨.inl rfl, fun v hv => ⟨v, hv.resolve_right (List.not_mem_nil), Nat.le_refl v⟩⟩
  | cons x l ih =>
    obtain ⟨hfrom, hbound⟩ := ih (raise a x)
    obtain ⟨hstep, habove⟩ := raise_spec a x
    refine ⟨?_, fun v hv => ?_⟩
    · rcases hfrom with h | h
      · rcases hstep with hs | hs
        · exact .inl (h.trans hs)
        · exact .inr (List.mem_cons.mpr (.inl (h.trans hs)))
      · exact .inr (List.mem_cons_of_mem _ h)
    · have key : (a = some v ∨ x = some v) ∨ some v ∈ l := by
        rcases hv with h | h
        · exact .inl (.inl h)
        · exact (List.mem_cons.mp h).imp (fun e => .inr e.symm) id
      rcases key with h | h
      · obtain ⟨m, hm, hvm⟩ := habove v h
        obtain ⟨k, hk, hmk⟩ := hbound m (.inl hm)
        exact ⟨k, hk, hvm.trans hmk⟩
      · exact hbound v (.inr h)

/-- The largest value of a list is the one in it that no other exceeds. -/
theorem largest_eq_some {l : List (Option Nat)} {m : Nat} :
    largest l = some m ↔ some m ∈ l ∧ ∀ v, some v ∈ l → v ≤ m := by
  obtain ⟨hfrom, hbound⟩ := foldl_raise_spec l none
  constructor
  · intro h
    have hl : l.foldl raise none = some m := h
    rw [hl] at hfrom hbound
    refine ⟨hfrom.resolve_left (by simp), fun v hv => ?_⟩
    obtain ⟨k, hk, hvk⟩ := hbound v (.inr hv)
    cases hk
    exact hvk
  · rintro ⟨hm, hall⟩
    obtain ⟨k, hk, hmk⟩ := hbound m (.inr hm)
    rw [hk] at hfrom
    have hkm : k ≤ m := hall k (hfrom.resolve_left (by simp))
    exact hk.trans (congrArg some (Nat.le_antisymm hkm hmk))

/-- A list whose largest value is absent holds none. -/
theorem largest_eq_none {l : List (Option Nat)} (h : largest l = none) (v : Nat) : some v ∉ l := by
  intro hv
  obtain ⟨k, hk, -⟩ := (foldl_raise_spec l none).2 v (.inr hv)
  cases h.symm.trans hk

/-! ## The scale of the label (R168) -/

/-- R168: the forces of a trace on both sides. -/
theorem mem_forces {samples : List TraceSample} {f : Nat} :
    some f ∈ samples.map (sampleForce .left) ++ samples.map (sampleForce .right)
      ↔ ∃ x ∈ samples, ∃ side, sampleForce side x = some f := by
  simp only [List.mem_append, List.mem_map]
  constructor
  · rintro (⟨x, hx, h⟩ | ⟨x, hx, h⟩)
    · exact ⟨x, hx, .left, h⟩
    · exact ⟨x, hx, .right, h⟩
  · rintro ⟨x, hx, side, h⟩
    cases side with
    | left => exact .inl ⟨x, hx, h⟩
    | right => exact .inr ⟨x, hx, h⟩

/-- R168: the scale is the largest force, 500 daN at least, rounded up to a multiple of 500. -/
theorem curveScale_spec (samples : List TraceSample) : curveScale samples % 500 = 0 ∧ 500 ≤ curveScale samples
    ∧ (∀ x ∈ samples, ∀ side f, sampleForce side x = some f → f ≤ curveScale samples)
    ∧ (500 < curveScale samples →
      ∃ x ∈ samples, ∃ side f, sampleForce side x = some f ∧ curveScale samples < f + 500) := by
  unfold curveScale
  cases hl : largest (samples.map (sampleForce .left) ++ samples.map (sampleForce .right)) with
  | none =>
    refine ⟨by decide, by decide, fun x hx side f hf => ?_, fun h => absurd h (by decide)⟩
    exact absurd (mem_forces.mpr ⟨x, hx, side, hf⟩) (largest_eq_none hl f)
  | some m =>
    obtain ⟨hm, hall⟩ := largest_eq_some.mp hl
    simp only [Option.getD_some]
    refine ⟨by omega, by omega, fun x hx side f hf => ?_, fun h => ?_⟩
    · have hle : f ≤ m := hall f (mem_forces.mpr ⟨x, hx, side, hf⟩)
      omega
    · obtain ⟨x, hx, side, hf⟩ := mem_forces.mp hm
      exact ⟨x, hx, side, m, hf, by omega⟩

/-! ## The dots of a column (R168) -/

/-- R89, R168: a force within the scale stands in one of the 128 rows. -/
theorem dotRow_eq {scale f row : Nat} (hs : 0 < scale) (hf : f ≤ scale) :
    dotRow scale f = row ↔ row + roundDiv (f * 127) scale = 127 := by
  have htop : roundDiv (f * 127) scale ≤ 127 := by
    obtain ⟨hlow, -⟩ := roundDiv_bounds (f * 127) hs
    have hle : f * 127 ≤ scale * 127 := Nat.mul_le_mul_right 127 hf
    by_contra hgt
    have hmul : 128 * scale ≤ roundDiv (f * 127) scale * scale := Nat.mul_le_mul_right scale (by omega)
    omega
  unfold dotRow
  omega

/-- R168: the samples of a column, by their places in the trace. -/
theorem mem_columnSamples {c : Nat} {samples : List TraceSample} {x : TraceSample} : x ∈ columnSamples c samples ↔
    ∃ m, c * samples.length / 384 ≤ m ∧ m < (c + 1) * samples.length / 384 ∧ samples[m]? = some x := by
  unfold columnSamples
  dsimp only
  rw [List.mem_iff_getElem?]
  constructor
  · rintro ⟨i, hi⟩
    rw [List.getElem?_take] at hi
    split at hi
    · next hlt =>
      rw [List.getElem?_drop] at hi
      exact ⟨_, Nat.le_add_right _ i, by omega, hi⟩
    · cases hi
  · rintro ⟨m, hlo, hhi, hm⟩
    refine ⟨m - c * samples.length / 384, ?_⟩
    rw [List.getElem?_take, if_pos (by omega), List.getElem?_drop, Nat.add_sub_cancel' hlo]
    exact hm

/-- R168: the largest force of a column on a side. -/
theorem largest_columnForce {c : Nat} {samples : List TraceSample} {side : Side} {f : Nat} :
    largest ((columnSamples c samples).map (sampleForce side)) = some f ↔
      (∃ m x, c * samples.length / 384 ≤ m ∧ m < (c + 1) * samples.length / 384
        ∧ samples[m]? = some x ∧ sampleForce side x = some f)
      ∧ ∀ m x g, c * samples.length / 384 ≤ m → m < (c + 1) * samples.length / 384 →
          samples[m]? = some x → sampleForce side x = some g → g ≤ f := by
  rw [largest_eq_some]
  simp only [List.mem_map, mem_columnSamples]
  refine and_congr ⟨?_, ?_⟩ ⟨?_, ?_⟩
  · rintro ⟨x, ⟨m, hlo, hhi, hm⟩, hf⟩
    exact ⟨m, x, hlo, hhi, hm, hf⟩
  · rintro ⟨m, x, hlo, hhi, hm, hf⟩
    exact ⟨x, ⟨m, hlo, hhi, hm⟩, hf⟩
  · intro h m x g hlo hhi hm hg
    exact h g ⟨x, ⟨m, hlo, hhi, hm⟩, hg⟩
  · rintro h g ⟨x, ⟨m, hlo, hhi, hm⟩, hg⟩
    exact h m x g hlo hhi hm hg

/-- R168: the right side is drawn in even columns only. -/
def sideDrawn (side : Side) (c : Nat) : Prop := side = .left ∨ c % 2 = 0

/-- R168: a column has a dot in a row where one of its drawn sides' largest forces stands there. -/
theorem columnDots_row {samples : List TraceSample} {c row : Nat} :
    (columnDots samples c).1 = some row ∨ (columnDots samples c).2 = some row ↔
      ∃ side f, sideDrawn side c ∧ dotRow (curveScale samples) f = row
        ∧ largest ((columnSamples c samples).map (sampleForce side)) = some f := by
  have side_row : ∀ o : Option Nat, o.map (dotRow (curveScale samples)) = some row ↔
      ∃ f, dotRow (curveScale samples) f = row ∧ o = some f := fun o => by
    rw [Option.map_eq_some_iff]
    exact ⟨fun ⟨f, h1, h2⟩ => ⟨f, h2, h1⟩, fun ⟨f, h1, h2⟩ => ⟨f, h2, h1⟩⟩
  unfold columnDots sideDrawn
  constructor
  · rintro (h | h)
    · obtain ⟨f, hf, hl⟩ := (side_row _).mp h
      exact ⟨.left, f, .inl rfl, hf, hl⟩
    · dsimp only at h
      split at h
      · next he =>
        obtain ⟨f, hf, hl⟩ := (side_row _).mp h
        exact ⟨.right, f, .inr he, hf, hl⟩
      · cases h
  · rintro ⟨side, f, hside, hf, hl⟩
    cases side with
    | left => exact .inl ((side_row _).mpr ⟨f, hf, hl⟩)
    | right =>
      refine .inr ?_
      dsimp only
      rw [if_pos (hside.resolve_left (by decide))]
      exact (side_row _).mpr ⟨f, hf, hl⟩

/-- R168: the dot of a column in one of the 128 rows, on the label's scale. -/
theorem columnDots_iff {samples : List TraceSample} {c row : Nat} :
    (columnDots samples c).1 = some row ∨ (columnDots samples c).2 = some row ↔
      ∃ side f, (side = .left ∨ c % 2 = 0) ∧ row + roundDiv (f * 127) (curveScale samples) = 127
        ∧ (∃ m x, c * samples.length / 384 ≤ m ∧ m < (c + 1) * samples.length / 384
            ∧ samples[m]? = some x ∧ sampleForce side x = some f)
        ∧ ∀ m x g, c * samples.length / 384 ≤ m → m < (c + 1) * samples.length / 384 →
            samples[m]? = some x → sampleForce side x = some g → g ≤ f := by
  rw [columnDots_row]
  obtain ⟨-, hmin, hmax, -⟩ := curveScale_spec samples
  refine exists_congr fun side => exists_congr fun f => and_congr_right fun _ => ?_
  rw [largest_columnForce]
  have hfits : (∃ m x, c * samples.length / 384 ≤ m ∧ m < (c + 1) * samples.length / 384
      ∧ samples[m]? = some x ∧ sampleForce side x = some f) → f ≤ curveScale samples := by
    rintro ⟨m, x, -, -, hm, hf⟩
    exact hmax x (List.mem_of_getElem? hm) side f hf
  constructor
  · rintro ⟨hrow, hin, hall⟩
    exact ⟨(dotRow_eq (by omega) (hfits hin)).mp hrow, hin, hall⟩
  · rintro ⟨hrow, hin, hall⟩
    exact ⟨(dotRow_eq (by omega) (hfits hin)).mpr hrow, hin, hall⟩

/-! ## The byte of eight dots (R202) -/

/-- A byte shifted by one dot: the dot in bit 0, the bits before it one place up. -/
theorem getLsbD_dot (acc : Byte) (b : Bool) (i : Nat) (hi : i < 8) :
    (acc * 2 + (if b then 1 else 0)).getLsbD i = if i = 0 then b else acc.getLsbD (i - 1) := by
  have h : acc * 2 + (if b then 1 else 0) = acc.shiftConcat b := by
    apply BitVec.eq_of_toNat_eq
    rw [BitVec.toNat_shiftConcat]
    cases b <;> simp [BitVec.toNat_add, BitVec.toNat_mul, Nat.shiftLeft_eq]
  rw [h, BitVec.getLsbD_shiftConcat]
  simp [hi]

/-- R202: the dots of a list are the bits from its last one up. -/
theorem getLsbD_dotFold {α : Type} (p : α → Bool) (l : List α) (acc : Byte) (i : Nat) (hi : i < 8) :
    (l.foldl (fun acc x => acc * 2 + (if p x then 1 else 0)) acc).getLsbD i
      = if h : i < l.length then p (l[l.length - 1 - i]) else acc.getLsbD (i - l.length) := by
  induction l generalizing acc i with
  | nil => rfl
  | cons x l ih =>
    rw [List.foldl_cons, ih _ _ hi]
    by_cases hlt : i < l.length
    · rw [dif_pos hlt, dif_pos (by simp only [List.length_cons]; omega)]
      congr 1
      rw [List.getElem_cons, dif_neg (by simp only [List.length_cons]; omega)]
      congr 1
      simp only [List.length_cons]; omega
    · rw [dif_neg hlt, getLsbD_dot _ _ _ (by omega)]
      by_cases he : i = l.length
      · subst he
        simp
      · rw [if_neg (by omega), dif_neg (by simp only [List.length_cons]; omega), List.length_cons, Nat.sub_sub]

/-- R168, R202: the dot of column `c` is bit 7 - c % 8 of byte c / 8 of its row. -/
theorem stripRow_bit {samples : List TraceSample} {c row : Nat} (hc : c < 384) :
    ∃ b, (stripRow ((List.range 384).map (columnDots samples)) row)[c / 8]? = some b
      ∧ (b.getLsbD (7 - c % 8) = true
        ↔ (columnDots samples c).1 = some row ∨ (columnDots samples c).2 = some row) := by
  have hbyte : c / 8 < 48 := by omega
  refine ⟨dotByte row ((((List.range 384).map (columnDots samples)).drop (8 * (c / 8))).take 8), ?_, ?_⟩
  · unfold stripRow
    rw [List.getElem?_map, List.getElem?_range hbyte]
    rfl
  · have hlen : ((((List.range 384).map (columnDots samples)).drop (8 * (c / 8))).take 8).length = 8 := by
      simp only [List.length_take, List.length_drop, List.length_map, List.length_range]; omega
    unfold dotByte
    rw [getLsbD_dotFold (fun p : Option Nat × Option Nat => p.1 == some row || p.2 == some row) _ _ _ (by omega),
      dif_pos (by omega)]
    have hget : ((((List.range 384).map (columnDots samples)).drop (8 * (c / 8))).take 8)[
        ((((List.range 384).map (columnDots samples)).drop (8 * (c / 8))).take 8).length - 1 - (7 - c % 8)]'(by omega)
        = columnDots samples c := by
      simp only [List.getElem_take, List.getElem_drop, List.getElem_map, List.getElem_range]
      congr 1
      omega
    rw [hget, Bool.or_eq_true, beq_iff_eq, beq_iff_eq]

/-- R168: the 16 ROWS frames of a curve, of 8 rows of 48 bytes each. -/
theorem curveFrames_spec (samples : List TraceSample) : (curveFrames samples).length = 16
    ∧ ∀ k, k < 16 → ∃ l : List (List Byte), (curveFrames samples)[k]? = some (.rows l) ∧ l.length = 8
      ∧ ∀ i, i < 8 → l[i]? = some (stripRow ((List.range 384).map (columnDots samples)) (8 * k + i)) := by
  unfold curveFrames
  refine ⟨by simp, fun k hk => ⟨(List.range 8).map fun i =>
    stripRow ((List.range 384).map (columnDots samples)) (8 * k + i), ?_, by simp, fun i hi => ?_⟩⟩
  · dsimp only
    rw [List.getElem?_map, List.getElem?_range hk]
    rfl
  · rw [List.getElem?_map, List.getElem?_range hi]
    rfl

theorem stripRow_length (cols : List (Option Nat × Option Nat)) (row : Nat) : (stripRow cols row).length = 48 := by
  simp [stripRow]

/-! ## The trace of a strip (R168) -/

/-- R168: the result's own trace: live, CLOSED, of its phase, record and axle, and closed with the result. -/
def ownTrace (slot n : Nat) (ph : Phase) (r : Option AxleResult) (t : TraceStore) (d : Descriptor) : Prop :=
  ∃ q id c, r = some q ∧ q.traceId = some id ∧ t.find id = some d ∧ d.closed = true
    ∧ d.kind = (if ph = .service then .service else .parking) ∧ d.slot = slot ∧ d.axle = some n
    ∧ d.closeTime = some c ∧ 0 ≤ (c - (q.completed - 10)).toInt

theorem toInt_nonneg_iff (x : LaneTime) : 0 ≤ x.toInt ↔ x.msb = false := by
  rw [BitVec.toInt_eq_msb_cond]
  cases x.msb with
  | false => simp
  | true =>
    have := x.isLt
    simp only [if_true, Bool.true_eq_false, iff_false]
    omega

/-- R168: the checks of a result's trace, in the words of `ownTrace`. -/
theorem traceOf_some (slot n : Nat) (ph : Phase) (q : AxleResult) (t : TraceStore) : traceOf slot n ph (some q) t =
    (q.traceId.bind t.find).bind fun d => d.closeTime.bind fun c =>
      if d.closed = true ∧ d.kind = (if ph = .service then .service else .parking) ∧ d.slot = slot ∧ d.axle = some n
        ∧ 0 ≤ (c - (q.completed - 10)).toInt then some d else none := by
  unfold traceOf
  dsimp only
  cases q.traceId.bind t.find with
  | none => rfl
  | some d =>
    simp only [Option.bind_some, toInt_nonneg_iff]
    cases d.closeTime with
    | none => rfl
    | some c => cases ph <;> simp [and_assoc]

/-- R168: the trace a strip is drawn from is the result's own. -/
theorem traceOf_eq_some {slot n : Nat} {ph : Phase} {r : Option AxleResult} {t : TraceStore} {d : Descriptor} :
    traceOf slot n ph r t = some d ↔ ownTrace slot n ph r t d := by
  unfold ownTrace
  cases r with
  | none =>
    refine ⟨fun h => (by cases h), ?_⟩
    rintro ⟨q, _, _, ⟨⟩, -⟩
  | some q =>
    rw [traceOf_some]
    simp only [Option.bind_eq_some_iff, Option.ite_none_right_eq_some]
    constructor
    · rintro ⟨e, ⟨id, hid, hfind⟩, c, hct, ⟨h1, h2, h3, h4, h5⟩, he⟩
      cases he
      exact ⟨q, id, c, rfl, hid, hfind, h1, h2, h3, h4, hct, h5⟩
    · rintro ⟨q', id, c, hq, hid, hfind, h1, h2, h3, h4, hct, h5⟩
      cases hq
      exact ⟨d, ⟨id, hid, hfind⟩, c, hct, ⟨h1, h2, h3, h4, h5⟩, rfl⟩

end Sys2Proof.Machine
end

section
/-! SUPPORT. A strip as formed with its label, and the plan of a pass (R166 to R168). -/

namespace Sys2Proof.Machine

/-! ## The strip (R168) -/

theorem stripLabel_eq (n : Nat) (ph : Phase) (id scale : Option Nat) : stripLabel n ph id scale =
    .line .normal (joinWords [txt "CURVE", dec n, txt (if ph = .service then "SERVICE" else "PARKING"), txt "T",
      decOpt id, decOpt scale]) := by cases ph <;> rfl

/-- R168: without the result's own trace there is no curve. -/
theorem formStrip_noCurve {slot n : Nat} {ph : Phase} {r : Option AxleResult} {t : TraceStore}
    (h : ∀ d, ¬ ownTrace slot n ph r t d) : formStrip slot n ph r t =
      (stripLabel n ph (r.bind AxleResult.traceId) none, [.line .normal (txt "NO CURVE")]) := by
  have hnone : traceOf slot n ph r t = none := by
    cases ht : traceOf slot n ph r t with
    | none => rfl
    | some d => exact absurd (traceOf_eq_some.mp ht) (h d)
  unfold formStrip
  rw [hnone]
  rfl

/-- R168: the result's own trace is drawn, and its truncation noted behind it. -/
theorem formStrip_curve {slot n : Nat} {ph : Phase} {r : Option AxleResult} {t : TraceStore} {d : Descriptor}
    (h : ownTrace slot n ph r t d) : formStrip slot n ph r t =
      (stripLabel n ph (some d.id) (some (curveScale d.samples)),
        curveFrames d.samples ++ (if d.truncated then [.line .normal (txt "CURVE TRUNCATED")] else [])) := by
  unfold formStrip
  rw [traceOf_eq_some.mpr h]
  rfl

/-- R168, R202: the dots of a curve, row by row and column by column. -/
theorem curveFrames_dots (samples : List TraceSample) (k : Nat) (hk : k < 16) :
    ∃ l : List (List Byte), (curveFrames samples)[k]? = some (.rows l) ∧ l.length = 8
      ∧ ∀ i, i < 8 → ∃ bytes : List Byte, l[i]? = some bytes ∧ bytes.length = 48
        ∧ ∀ c, c < 384 → ∃ b, bytes[c / 8]? = some b ∧ (b.getLsbD (7 - c % 8) = true ↔
          ∃ side f, (side = .left ∨ c % 2 = 0) ∧ 8 * k + i + roundDiv (f * 127) (curveScale samples) = 127
            ∧ (∃ m x, c * samples.length / 384 ≤ m ∧ m < (c + 1) * samples.length / 384
                ∧ samples[m]? = some x ∧ sampleForce side x = some f)
            ∧ ∀ m x g, c * samples.length / 384 ≤ m → m < (c + 1) * samples.length / 384 →
                samples[m]? = some x → sampleForce side x = some g → g ≤ f) := by
  obtain ⟨l, hget, hlen, hrows⟩ := (curveFrames_spec samples).2 k hk
  refine ⟨l, hget, hlen, fun i hi => ⟨_, hrows i hi, stripRow_length _ _, fun c hc => ?_⟩⟩
  obtain ⟨b, hb, hbit⟩ := stripRow_bit (samples := samples) (row := 8 * k + i) hc
  exact ⟨b, hb, hbit.trans columnDots_iff⟩

/-! ## The plan (R166, R167) -/

/-- R167: the plan of one axle's lines. -/
theorem axleLines_plan (n : Nat) (a : Axle) (v : Option AxleVerdicts) : (axleLines n a v).map PlanItem.frame =
    [ PlanItem.frame (.line .normal (joinWords
        [ txt "AXLE", dec n, txt "W", slash (decOpt a.weightL) (decOpt a.weightR), txt "SS", slipText a.sideSlip
        , letters [(a.unsettled, 'U'), (a.overrange, 'O'), (a.addedAtRollers, 'A')] ]))
    , .frame (resultLine (txt "S") a.service) ]
    ++ (if a.parking then [.frame (resultLine (txt "P") a.parkingResult)] else [])
    ++ ((v.map verdictLine).map PlanItem.frame).toList
    ++ (a.skip.map (fun c => PlanItem.frame (.line .normal (joinWords [txt "SKIPPED", skipCauseText c])))).toList := by
  unfold axleLines
  cases a.parking <;> cases v <;> cases a.skip <;> rfl

/-- R166: the notes of a record. -/
theorem noteLines_plan (r : Record) : (noteLines r).map PlanItem.frame =
    (if r.axlesExceeded then [.frame (.line .normal (txt "NOTE AXLES EXCEEDED"))] else [])
      ++ (if r.axlesMissing then [.frame (.line .normal (txt "NOTE AXLES MISSING"))] else []) := by
  unfold noteLines
  cases r.axlesExceeded <;> cases r.axlesMissing <;> rfl

/-- R167: the plan of every axle's lines. -/
theorem allAxleLines_plan (r : Record) : (allAxleLines r).map PlanItem.frame =
    r.axles.zipIdx.flatMap fun p =>
      (axleLines (p.2 + 1) p.1 (r.totals.bind fun t => t.verdicts.axles[p.2]?)).map PlanItem.frame := by
  unfold allAxleLines
  cases r.totals <;> exact List.map_flatMap

/-- R168: the strips of a record's results. -/
theorem strips_eq (r : Record) : strips r = r.axles.zipIdx.flatMap fun p => PlanItem.strip (p.2 + 1) .service p.1.service
    :: (p.1.parkingResult.map fun q => PlanItem.strip (p.2 + 1) .parking (some q)).toList := by
  have hone : ∀ p : Axle × Nat, (match p.1.parkingResult with
      | some q => [PlanItem.strip (p.2 + 1) .parking (some q)]
      | none => []) = (p.1.parkingResult.map fun q => PlanItem.strip (p.2 + 1) .parking (some q)).toList := fun p => by
    cases p.1.parkingResult <;> rfl
  exact congrArg (r.axles.zipIdx.flatMap ·) (funext fun p => congrArg (List.cons _) (hone p))

/-- R166: the plan of a pass, part by part. -/
theorem planOf_parts (j : Job) (r : Record) : planOf j r = (headLines j r).map PlanItem.frame
    ++ (allAxleLines r).map PlanItem.frame ++ ((r.totals.map totalLines).getD []).map PlanItem.frame
    ++ (if j.curves then strips r else []) ++ [.frame (.feed 4), .frame .cut] := by
  unfold planOf
  rw [List.map_append, List.map_append]

end Sys2Proof.Machine
end

section
/-! SUPPORT. The printer link (R163, R164, R169 to R171) and the transmitter (R164, R165), an equation per case. -/

namespace Sys2Proof.Machine

/-! ## How a frame reaches the unit (R162), and what follows -/

/-- R162: the part with the oldest frame on its way taken, and `rest` left. -/
def State.inboxTaken (rest : List (PrinterMsg × LaneTime)) (s : State) : State := s.onCert fun c => { c with inbox := rest }

/-- R162: the oldest frame on its way is taken (log entry 6). -/
theorem takePrinter_oldest {m : PrinterMsg} {t0 : LaneTime} {rest : List (PrinterMsg × LaneTime)} {s : State} (ok : Bool)
    (k : LaneTime → State → State) (h : s.cert.inbox = (m, t0) :: rest) :
    takePrinter m ok k s = k t0 (s.inboxTaken rest) := by
  unfold takePrinter
  rw [h]
  exact if_pos rfl

/-- A command that changes no more than the Certificate Unit and the Host Port leaves a part at rest. -/
theorem finish_certPort {s u : State} (hc : Calm s) (h : u = { s with cert := u.cert, port := u.port }) :
    finish u = .next u := finish_calm u (Calm.of_eq hc (by rw [h]) (by rw [h]) (by rw [h]) (by rw [h]) (by rw [h]))

/-! ## Interrupted passes (R169) -/

/-- R169: a job whose pass is printed again. -/
def Job.reprinted (j : Job) : Job :=
  { j with state := .printing, position := 0, started := false, planPos := 0, pass := min 255 (j.pass + 1) }

/-- R169: a job whose started pass is interrupted (log entry 52). -/
def Job.heldUp (j : Job) : Job := { j with state := .held, position := 0, started := false, planPos := 0 }

section
variable {s : State} {j : Job} {js : List Job}

theorem interrupt_started (hq : s.cert.queue = j :: js) (hj : j.state = .printing) (hs : j.started = true) :
    interrupt s = { s with cert := { s.cert with void := .owed, strip := [], queue := j.heldUp :: js } } := by
  have hp : passStarted s = true := by simp [passStarted, hq, hj, hs]
  unfold interrupt
  rw [if_pos hp]
  simp [oweVoid, modHead, State.onCert, hq, Job.heldUp]

theorem reprint_held (hq : s.cert.queue = j :: js) (hj : j.state = .held) :
    reprint s = { s with cert := { s.cert with queue := j.reprinted :: js } } := by
  unfold reprint modHead State.onCert
  simp only [hq, hj]
  rfl

/-- R169: an interruption concerns a void, the strip in hand and the jobs alone. -/
theorem interrupt_eq (s : State) : interrupt s = { s with cert := { s.cert with
    queue := (interrupt s).cert.queue, strip := (interrupt s).cert.strip, void := (interrupt s).cert.void } } := by
  unfold interrupt; split <;> rfl

/-- R163, R169: a change of the link concerns the link, a void, the strip in hand and the jobs alone. -/
theorem setLink_eq (l : LinkState) (s : State) : setLink l s = { s with cert := { s.cert with
    link := l, queue := (setLink l s).cert.queue, strip := (setLink l s).cert.strip, void := (setLink l s).cert.void } } := by
  unfold setLink
  dsimp only
  split
  · exact interrupt_eq (rewindVoid (s.onCert _))
  · split <;> rfl

/-- R169: a link that leaves READY interrupts a started pass. -/
theorem setLink_leaves {l : LinkState} (hq : s.cert.queue = j :: js) (hj : j.state = .printing) (hs : j.started = true)
    (hr : s.cert.link = .ready) (hl : l ≠ .ready) :
    (setLink l s).cert.void = .owed ∧ (setLink l s).cert.queue = j.heldUp :: js := by
  have hgo : (s.cert.link == .ready && l != .ready) = true := by simp [hr, hl]
  have hheld := interrupt_started (s := rewindVoid (s.onCert fun c => { c with link := l })) hq hj hs
  unfold setLink
  dsimp only
  rw [if_pos hgo, hheld]
  exact ⟨rfl, rfl⟩

/-- R169: a link that enters READY prints a HELD job again. -/
theorem setLink_enters (hq : s.cert.queue = j :: js) (hj : j.state = .held) (hr : s.cert.link ≠ .ready) :
    (setLink .ready s).cert.queue = j.reprinted :: js := by
  have hagain := reprint_held (s := s.onCert fun c => { c with link := .ready }) hq hj
  unfold setLink
  dsimp only
  rw [if_neg (by simp), if_pos (by simp [hr]), hagain]

/-! ## HELLO (R164, R170) -/

theorem takeHello_empty (w : Nat) (hq : s.cert.queue = []) (hv : s.cert.void ≠ .lineSent) :
    takeHello w s = { s with cert := { s.cert with window := w, outstanding := 0 } } := by
  have hrewind : rewindVoid (s.onCert fun c => { c with window := w, outstanding := 0 })
      = { s with cert := { s.cert with window := w, outstanding := 0 } } := by
    simp [rewindVoid, State.onCert, hv]
  have hkept : interrupt { s with cert := { s.cert with window := w, outstanding := 0 } }
      = { s with cert := { s.cert with window := w, outstanding := 0 } } := by simp [interrupt, passStarted, hq]
  unfold takeHello
  rw [hrewind, hkept]
  dsimp only
  split
  · simp [reprint, modHead, State.onCert, hq]
  · rfl

theorem takeHello_printing (w : Nat) (hq : s.cert.queue = j :: js) (hj : j.state = .printing) (hs : j.started = true)
    (hr : s.cert.link = .ready) : takeHello w s = { s with cert := { s.cert with
      window := w, outstanding := 0, void := .owed, strip := [], queue := j.reprinted :: js } } := by
  have hheld := interrupt_started
    (s := rewindVoid (s.onCert fun c => { c with window := w, outstanding := 0 })) hq hj hs
  unfold takeHello
  rw [hheld]
  dsimp only
  rw [if_pos (by rw [hr]; rfl), reprint_held rfl rfl]
  rfl

/-! ## STATUS and silence (R163) -/

/-- R163: PRINTER_STATE touches the Host Port alone. -/
theorem noticePrinter_eq (s : State) : noticePrinter s = { s with port := (noticePrinter s).port } := rfl

/-- R163: PRINTER_STATE as the link stands. -/
theorem noticePrinter_notices (s : State) (h : s.port.notices.length < 32) : ∃ k, (noticePrinter s).port.notices =
    s.port.notices ++ [(k, .printerState s.cert.link s.cert.condition s.cert.window s.cert.outstanding s.time.now)] := by
  refine ⟨nextNotice s.port, ?_⟩
  unfold noticePrinter
  rw [sendNotice_port]
  exact if_pos h

/-- R163: the link that a condition gives. -/
def linkOf (c : PrinterCondition) : LinkState :=
  if c.paperOut = false ∧ c.coverOpen = false ∧ c.headHot = false then .ready else .paused

theorem linkOf_eq (c : PrinterCondition) :
    (if PrinterCondition.isEmpty c then LinkState.ready else LinkState.paused) = linkOf c := by
  unfold linkOf PrinterCondition.isEmpty
  simp [and_assoc]

theorem linkOf_ne_ready {c : PrinterCondition} (h : linkOf c = .paused) : linkOf c ≠ .ready := by
  rw [h]; decide

end

section
variable (c : PrinterCondition) (t : LaneTime) (s : State)

/-- R163: the part with a STATUS frame's condition, its silence time, and the link that follows. -/
def statusTaken : State :=
  setLink (linkOf c) (s.onCert fun k => { k with condition := some c, silence := some (later t 2000) })

/-- R163: a STATUS frame that moves the part from `s` is told when it changes the link, or the condition while PAUSED. -/
def StatusTold : Prop := linkOf c ≠ s.cert.link ∨ (linkOf c = .paused ∧ s.cert.condition ≠ some c)

theorem statusTold_iff :
    (s.cert.link != linkOf c || (linkOf c == .paused && s.cert.condition != some c)) = true ↔ StatusTold c s := by
  simp only [StatusTold, Bool.or_eq_true, Bool.and_eq_true, bne_iff_ne, beq_iff_eq, ne_comm (a := s.cert.link)]

theorem takeStatus_told (h : StatusTold c s) : takeStatus c t s = noticePrinter (statusTaken c t s) := by
  unfold takeStatus
  rw [linkOf_eq]
  exact if_pos ((statusTold_iff c s).mpr h)

theorem takeStatus_quiet (h : ¬ StatusTold c s) : takeStatus c t s = statusTaken c t s := by
  unfold takeStatus
  rw [linkOf_eq]
  exact if_neg (mt (statusTold_iff c s).mp h)

theorem statusTaken_eq : statusTaken c t s = { s with cert := (statusTaken c t s).cert } := by
  unfold statusTaken
  rw [setLink_eq]
  rfl

/-- R163: told or not, the Certificate Unit is the same, and the Host Port is all that may differ beside it. -/
theorem takeStatus_eq :
    takeStatus c t s = { s with cert := (statusTaken c t s).cert, port := (takeStatus c t s).port } := by
  by_cases h : StatusTold c s
  · rw [takeStatus_told c t s h, noticePrinter_eq, statusTaken_eq]
  · rw [takeStatus_quiet c t s h, statusTaken_eq]

theorem takeStatus_cert : (takeStatus c t s).cert = (statusTaken c t s).cert := by rw [takeStatus_eq]

end

/-- R163: the link and its condition as a STATUS frame leaves them. -/
theorem statusTaken_link (c : PrinterCondition) (t : LaneTime) (s : State) : (statusTaken c t s).cert.link = linkOf c
    ∧ (statusTaken c t s).cert.condition = some c ∧ (statusTaken c t s).cert.silence = some (later t 2000)
    ∧ (statusTaken c t s).cert.inbox = s.cert.inbox ∧ (statusTaken c t s).cert.window = s.cert.window
    ∧ (statusTaken c t s).cert.outstanding = s.cert.outstanding := by
  unfold statusTaken
  rw [setLink_eq]
  exact ⟨rfl, rfl, rfl, rfl, rfl, rfl⟩

/-- R163: a STATUS frame that is told. -/
theorem takeStatus_notices {c : PrinterCondition} {s : State} (t : LaneTime) (h : StatusTold c s)
    (hl : s.port.notices.length < 32) : ∃ k, (takeStatus c t s).port.notices = s.port.notices
      ++ [(k, .printerState (linkOf c) (some c) s.cert.window s.cert.outstanding s.time.now)] := by
  have hports : (statusTaken c t s).port = s.port := by rw [statusTaken_eq]
  have htime : (statusTaken c t s).time = s.time := by rw [statusTaken_eq]
  obtain ⟨hlink, hcond, -, -, hwindow, hout⟩ := statusTaken_link c t s
  obtain ⟨k, hk⟩ := noticePrinter_notices (statusTaken c t s) (hports ▸ hl)
  refine ⟨k, ?_⟩
  rw [takeStatus_told c t s h, hk, hports, htime, hlink, hcond, hwindow, hout]

/-- R163: a STATUS frame that is not told leaves the Host Port. -/
theorem takeStatus_port {c : PrinterCondition} {s : State} (t : LaneTime) (hlink : linkOf c = s.cert.link)
    (h : linkOf c = .ready ∨ s.cert.condition = some c) : (takeStatus c t s).port = s.port := by
  have hquiet : ¬ StatusTold c s := by
    rintro (hne | ⟨hp, hne⟩)
    · exact hne hlink
    · exact h.elim (linkOf_ne_ready hp) hne
  rw [takeStatus_quiet c t s hquiet, statusTaken_eq]

/-- R163: the part after a silence that is due, before it is told. -/
def silenced (s : State) : State := setLink .offline (s.onCert fun c => { c with condition := none, silence := none })

theorem silenced_cert (s : State) : (silenced s).cert.link = .offline ∧ (silenced s).cert.condition = none
    ∧ (silenced s).cert.silence = none ∧ (silenced s).cert.window = s.cert.window
    ∧ (silenced s).cert.outstanding = s.cert.outstanding := by
  unfold silenced
  rw [setLink_eq]
  exact ⟨rfl, rfl, rfl, rfl, rfl⟩

theorem silenced_eq (s : State) : silenced s = { s with cert := (silenced s).cert } := by
  unfold silenced
  rw [setLink_eq]
  rfl

/-- R163: silence is told with the link offline. -/
theorem silenced_notices {s : State} (hl : s.port.notices.length < 32) :
    ∃ k, (noticePrinter (silenced s)).port.notices = s.port.notices
      ++ [(k, .printerState .offline none s.cert.window s.cert.outstanding s.time.now)] := by
  have hports : (silenced s).port = s.port := by rw [silenced_eq]
  have htime : (silenced s).time = s.time := by rw [silenced_eq]
  obtain ⟨hlink, hcond, -, hwindow, hout⟩ := silenced_cert s
  obtain ⟨k, hk⟩ := noticePrinter_notices (silenced s) (hports ▸ hl)
  refine ⟨k, ?_⟩
  rw [hk, hports, htime, hlink, hcond, hwindow, hout]

end Sys2Proof.Machine
end

section
/-! SUPPORT. The transmitter (R164, R165, R168) and the last credit of a pass (R171), an equation per case; O49. -/

namespace Sys2Proof.Machine

/-! ## The transmitter (R165) -/

/-- R165: a job whose next frame has begun; its plan has moved by `n`. -/
def Job.sent (j : Job) (n : Nat) : Job := { j with position := j.position + 1, started := true, planPos := j.planPos + n }

section
variable {s : State} {j : Job} {js : List Job}

/-- R164, R165: without a READY link, room in the window and an idle line nothing begins. -/
theorem beginPrinter_shut
    (h : s.cert.transmitting.isSome = true ∨ s.cert.link ≠ .ready ∨ s.cert.window ≤ s.cert.outstanding) : beginPrinter s = s := by
  unfold beginPrinter
  exact if_pos (by simpa [or_assoc] using h)

/-- R164, R165: what lets a frame begin. -/
structure LineOpen (s : State) : Prop where
  idle : s.cert.transmitting = none
  ready : s.cert.link = .ready
  room : s.cert.outstanding < s.cert.window

/-- R165: with the line open, the void goes first, then the head job's frames. -/
theorem beginPrinter_open (h : LineOpen s) : beginPrinter s = match s.cert.void with
    | .owed => startFrame voidLine (s.onCert fun c => { c with void := .lineSent })
    | .lineSent => startFrame .cut (s.onCert fun c => { c with void := .none })
    | .none => match s.cert.queue with
      | [] => s
      | j :: _ => if j.state == .printing then sendNextOf j s else s := by
  obtain ⟨hidle, hready, hroom⟩ := h
  unfold beginPrinter
  exact if_neg (by simp [hidle, hready, hroom])

theorem beginPrinter_job (h : LineOpen s) (hv : s.cert.void = .none) (hq : s.cert.queue = j :: js)
    (hj : j.state = .printing) : beginPrinter s = sendNextOf j s := by
  rw [beginPrinter_open h, hv, hq]
  exact if_pos (by rw [hj]; rfl)

theorem sendJobFrame_eq (f : PrinterFrame) (n : Nat) (strip : List PrinterFrame) (hq : s.cert.queue = j :: js) :
    sendJobFrame f n strip s = { s with cert := { s.cert with
      transmitting := some f, outstanding := s.cert.outstanding + 1, strip := strip, queue := j.sent n :: js } } := by
  unfold sendJobFrame modHead State.onCert
  simp only [hq]
  rfl

/-- R168: the rest of a strip goes before the plan's next item. -/
theorem sendNextOf_strip {f : PrinterFrame} {more : List PrinterFrame} (hs : s.cert.strip = f :: more) :
    sendNextOf j s = sendJobFrame f 0 more s := by
  unfold sendNextOf
  rw [hs]

theorem sendNextOf_frame {f : PrinterFrame} (hs : s.cert.strip = [])
    (hp : (planOf j (s.record j.slot))[j.planPos]? = some (.frame f)) :
    sendNextOf j s = sendJobFrame f 1 s.cert.strip s := by
  unfold sendNextOf
  rw [hs]
  dsimp only
  rw [hp]

theorem sendNextOf_label {n : Nat} {ph : Phase} {r : Option AxleResult} (hs : s.cert.strip = [])
    (hp : (planOf j (s.record j.slot))[j.planPos]? = some (.strip n ph r)) : sendNextOf j s =
      sendJobFrame (formStrip j.slot n ph r s.traces).1 1 (formStrip j.slot n ph r s.traces).2 s := by
  unfold sendNextOf
  rw [hs]
  dsimp only
  rw [hp]

/-! ## The last credit (R171) -/

/-- R171: a CREDIT frame that acknowledges the last frame of a sent pass ends the job DONE. -/
theorem takeCredit_completes {n : Nat} (hq : s.cert.queue = j :: js) (hj : j.state = .printing)
    (hn : s.cert.outstanding ≤ n) (hv : s.cert.void = .none) (hp : passSent j s = true) : takeCredit n s =
      endJob j .done none (s.onCert fun c => { c with
        outstanding := c.outstanding - n, creditExcess := bumpBy 65535 c.creditExcess (n - c.outstanding) }) := by
  have hzero : s.cert.outstanding - n = 0 := Nat.sub_eq_zero_of_le hn
  unfold takeCredit completeJob
  simp only [State.onCert, hq, hj, hzero, hv]
  exact if_pos hp

/-- R171: after it the job is gone with its record's link, and no frame is outstanding. -/
theorem settle_takeCredit_completes {n : Nat} (hc : Calm s) (hq : s.cert.queue = j :: js) (hj : j.state = .printing)
    (hn : s.cert.outstanding ≤ n) (hv : s.cert.void = .none) (hp : passSent j s = true) (hb : s.entry.blocked = false) :
    (∀ i ∈ (settle (takeCredit n s)).cert.queue, i.slot ≠ j.slot) ∧ (settle (takeCredit n s)).cert.outstanding = 0
      ∧ ((settle (takeCredit n s)).record j.slot).job = false := by
  have hcredit : (settle (takeCredit n s)).credit = (s.cert.window, s.cert.outstanding - n) := by
    rw [settle_credit, takeCredit_credit]
  rw [takeCredit_completes hq hj hn hv hp] at hcredit ⊢
  obtain ⟨⟨r, hgone, hjob, -⟩, -⟩ := endJob_spec (s := s.onCert fun c => { c with
    outstanding := c.outstanding - n, creditExcess := bumpBy 65535 c.creditExcess (n - c.outstanding) })
    j .done none hb (by rw [show (s.onCert _).work = s.work from rfl, hc.1]; rfl)
  obtain ⟨hslots, hrecord⟩ := hgone.settle
  refine ⟨hslots, ?_, by rw [hrecord, hjob]⟩
  rw [show (settle _).cert.outstanding = _ from congrArg Prod.snd hcredit]
  exact Nat.sub_eq_zero_of_le hn

end

/-! ## The plan of a pass (R166, R167, R168) -/

theorem headLines_plan (j : Job) (r : Record) : (headLines j r).map PlanItem.frame =
    j.headers.map (fun h => PlanItem.frame (.line h.style h.text))
    ++ [ .frame (.line .double (joinWords [txt "CERTIFICATE", decW 10 (j.number.getD 0)]))
       , .frame (.line .normal (joinWords [txt "DATE", match j.printedDate with
            | some (some d) => dateText d
            | some none | none => txt "----"]))
       , .frame (.line .bold (joinWords [txt "VEHICLE", displayedId r]))
       , .frame (.line .normal (joinWords [txt "CLASS", dec j.cls, j.className])) ]
    ++ (if r.axlesExceeded then [.frame (.line .normal (txt "NOTE AXLES EXCEEDED"))] else [])
    ++ (if r.axlesMissing then [.frame (.line .normal (txt "NOTE AXLES MISSING"))] else []) := by
  unfold headLines
  rw [List.map_append, List.map_append, List.map_map, noteLines_plan, ← List.append_assoc]
  rfl

/-! ## O49 -/

theorem planOf_eq (j : Job) (r : Record) : planOf j r =
    j.headers.map (fun h => PlanItem.frame (.line h.style h.text))
    ++ [ .frame (.line .double (joinWords [txt "CERTIFICATE", decW 10 (j.number.getD 0)]))
       , .frame (.line .normal (joinWords [txt "DATE", match j.printedDate with
            | some (some d) => dateText d
            | some none | none => txt "----"]))
       , .frame (.line .bold (joinWords [txt "VEHICLE", displayedId r]))
       , .frame (.line .normal (joinWords [txt "CLASS", dec j.cls, j.className])) ]
    ++ (if r.axlesExceeded then [.frame (.line .normal (txt "NOTE AXLES EXCEEDED"))] else [])
    ++ (if r.axlesMissing then [.frame (.line .normal (txt "NOTE AXLES MISSING"))] else [])
    ++ r.axles.zipIdx.flatMap (fun p =>
        (axleLines (p.2 + 1) p.1 (r.totals.bind fun t => t.verdicts.axles[p.2]?)).map PlanItem.frame)
    ++ ((r.totals.map totalLines).getD []).map PlanItem.frame
    ++ (if j.curves then r.axles.zipIdx.flatMap (fun p => PlanItem.strip (p.2 + 1) .service p.1.service
          :: (p.1.parkingResult.map (fun q => PlanItem.strip (p.2 + 1) .parking (some q))).toList) else [])
    ++ [.frame (.feed 4), .frame .cut] := by
  rw [planOf_parts, headLines_plan, allAxleLines_plan, strips_eq]

/-! ## A strip with its label (R168) -/

section
variable {slot n : Nat} {ph : Phase} {r : Option AxleResult} {t : TraceStore}

/-- R168: what is printed where the result has no trace of its own. -/
theorem strip_withoutTrace (h : ∀ d, ¬ ownTrace slot n ph r t d) :
    (formStrip slot n ph r t).2 = [.line .normal (txt "NO CURVE")]
    ∧ (formStrip slot n ph r t).1 = .line .normal (joinWords [txt "CURVE", dec n,
        txt (if ph = .service then "SERVICE" else "PARKING"), txt "T", decOpt (r.bind AxleResult.traceId), [45]]) := by
  rw [formStrip_noCurve h, stripLabel_eq]
  exact ⟨rfl, rfl⟩

/-- R168: what is printed for a result's own trace. -/
theorem strip_withTrace {d : Descriptor} (h : ownTrace slot n ph r t d) :
    (formStrip slot n ph r t).1 = .line .normal (joinWords [txt "CURVE", dec n,
        txt (if ph = .service then "SERVICE" else "PARKING"), txt "T", dec d.id, dec (curveScale d.samples)])
    ∧ (formStrip slot n ph r t).2 = curveFrames d.samples
        ++ (if d.truncated then [.line .normal (txt "CURVE TRUNCATED")] else []) := by
  rw [formStrip_curve h, stripLabel_eq]
  exact ⟨rfl, rfl⟩

end

/-! ## O49 -/

/-- Settles O49: each clause is one of the printer's laws above, and what it changes leaves the rest of the part at rest. -/
theorem printerLinkMovesTheHeadJob : Obligations.PrinterLinkMovesTheHeadJob := by
  intro s t0 rest hc
  have htaken : ∀ (m : PrinterMsg) ok k, s.cert.inbox = (m, t0) :: rest →
      finish (takePrinter m ok k s) = finish (k t0 (s.inboxTaken rest)) :=
    fun m ok k h => by rw [takePrinter_oldest ok k h]
  refine ⟨fun w hi hq hv => ?_, fun w j js hi hq hj hs hr => ?_, fun c hi => ?_, fun n hi hq => ?_,
    fun n j js hi hq hj hn hv hp hb _ => ?_, fun hdue => ?_, fun hdue => ?_, fun hidle hready hroom => ?_,
    fun j r => ?_, fun h => ?_, finish_certPort hc rfl⟩
  case refine_1 =>
    refine (htaken _ _ _ hi).trans ?_
    rw [takeHello_empty (s := s.inboxTaken rest) w hq hv]
    exact finish_certPort hc rfl
  case refine_2 =>
    refine (htaken _ _ _ hi).trans ?_
    rw [takeHello_printing (s := s.inboxTaken rest) w hq hj hs hr]
    exact finish_certPort hc rfl
  case refine_3 =>
    refine ⟨_, (htaken _ _ _ hi).trans (finish_certPort hc ?_), ?_⟩
    · rw [takeStatus_eq]
      rfl
    obtain ⟨hlink, hcond, hsil, hin, hwindow, hout⟩ :=
      statusTaken_link c t0 (s.inboxTaken rest)
    rw [takeStatus_cert, hlink]
    refine ⟨?_, hin, hcond, hsil, hwindow, hout, rfl, fun h hl => takeStatus_notices t0 h hl,
      fun h h' => takeStatus_port t0 h h', fun j js hq hj hs hr hp => setLink_leaves hq hj hs hr (linkOf_ne_ready hp),
      fun j js hq hj hr hl => ?_⟩
    · rw [takeStatus_eq]
      rfl
    · unfold statusTaken
      rw [hl]
      exact setLink_enters hq hj hr
  case refine_4 =>
    refine (htaken _ _ _ hi).trans ?_
    have hkept : takeCredit n (s.inboxTaken rest) = { s with cert := { s.cert with
        inbox := rest, outstanding := s.cert.outstanding - n
        creditExcess := min 65535 (s.cert.creditExcess + (n - s.cert.outstanding)) } } := by
      simp [takeCredit, completeJob, State.inboxTaken, State.onCert, hq, bumpBy]
    rw [hkept]
    exact finish_certPort hc rfl
  case refine_5 =>
    have hcalm : Calm (s.inboxTaken rest) := hc
    exact ⟨_, htaken _ _ _ hi, settle_takeCredit_completes hcalm hq hj hn hv hp hb⟩
  case refine_6 =>
    obtain ⟨hlink, hcond, hsil, hwindow, hout⟩ := silenced_cert s
    have hsilent : printerSilent s = noticePrinter (silenced s) := if_pos hdue
    have heq : printerSilent s =
        { s with cert := (printerSilent s).cert, port := (printerSilent s).port } := by
      rw [hsilent, noticePrinter_eq, silenced_eq]
    refine ⟨_, finish_certPort hc heq, heq, ?_⟩
    rw [hsilent]
    exact ⟨hlink, hcond, hsil, hwindow, hout, fun _ => silenced_notices⟩
  case refine_7 =>
    exact (congrArg finish (if_neg (by simp [hdue]))).trans (finish_calm s hc)
  case refine_8 =>
    have hopen : LineOpen s := ⟨hidle, hready, hroom⟩
    refine ⟨fun hv => ?_, fun hv => ?_, fun j js f hv hq hj hs hp => ?_, fun j js f more hv hq hj hs => ?_,
      fun j js n ph r own hv hq hj hs hp hown => ?_⟩
    · refine (congrArg finish (beginPrinter_open hopen)).trans ?_
      rw [hv]
      exact finish_certPort hc rfl
    · refine (congrArg finish (beginPrinter_open hopen)).trans ?_
      rw [hv]
      exact finish_certPort hc rfl
    · refine (congrArg finish (beginPrinter_job hopen hv hq hj)).trans ?_
      rw [sendNextOf_frame hs hp, sendJobFrame_eq f 1 _ hq]
      exact finish_certPort hc rfl
    · refine (congrArg finish (beginPrinter_job hopen hv hq hj)).trans ?_
      rw [sendNextOf_strip hs, sendJobFrame_eq f 0 more hq]
      exact finish_certPort hc rfl
    · refine ⟨(formStrip j.slot n ph r s.traces).1, (formStrip j.slot n ph r s.traces).2, ?_, fun hnone => ?_, fun d hd => ?_⟩
      · refine (congrArg finish (beginPrinter_job hopen hv hq hj)).trans ?_
        rw [sendNextOf_label hs hp, sendJobFrame_eq _ 1 _ hq]
        exact finish_certPort hc rfl
      · exact strip_withoutTrace fun d hd => hnone d ((hown d).mpr hd)
      · obtain ⟨hlabel, hframes⟩ := strip_withTrace ((hown d).mp hd)
        obtain ⟨hstep, hleast, hbound, htight⟩ := curveScale_spec d.samples
        exact ⟨curveScale d.samples, curveFrames d.samples, hlabel, hstep, hleast, hbound, htight, hframes,
          (curveFrames_spec d.samples).1, curveFrames_dots d.samples⟩
  case refine_9 =>
    have haxles := funext fun p : Axle × Nat =>
      axleLines_plan (p.2 + 1) p.1 (r.totals.bind fun t => t.verdicts.axles[p.2]?)
    have hplan := planOf_eq j r
    rw [haxles] at hplan
    exact hplan
  case refine_10 => exact (congrArg finish (beginPrinter_shut h)).trans (finish_calm s hc)

end Sys2Proof.Machine
end
